-- ==== Sys2Proof/Word.lean ====
section
/-! DEFINITION. The numbers of the part: octets, moments on the millisecond count, and the names of cranes, zones
and masts. -/

namespace Sys2Proof

/-- Eight bits (00, Numbers). -/
abbrev Byte := BitVec 8

/-- A moment on the millisecond count, on which differences are taken modulo 2³² (R22). -/
abbrev Moment := BitVec 32

/-- Crane number *k* of 1 to 8 is the index *k* − 1. -/
abbrev Crane := Fin 8

/-- Zone number *z* of 1 to 32 is the index *z* − 1. -/
abbrev Zone := Fin 32

/-- Mast number *m* of 1 to 4 is the index *m* − 1. -/
abbrev Mast := Fin 4

/-- A crane, zone or mast's number as the spec writes it, counted from 1. -/
def number {n : Nat} (i : Fin n) : Nat := i.val + 1

/-- The levels a receiver samples one after another, sixteen in each bit time, true for mark, the 1 state (R128, R158,
R175). -/
abbrev Samples := List Bool

/-- All eight cranes, in ascending number. -/
def allCranes : List Crane := [0, 1, 2, 3, 4, 5, 6, 7]

/-- All four masts, in ascending number. -/
def allMasts : List Mast := [0, 1, 2, 3]

/-- All 32 zones, in ascending number. -/
def allZones : List Zone :=
  [0, 1, 2, 3, 4, 5, 6, 7, 8, 9, 10, 11, 12, 13, 14, 15,
   16, 17, 18, 19, 20, 21, 22, 23, 24, 25, 26, 27, 28, 29, 30, 31]

end Sys2Proof
end

