-- ==== Sys2Proof/Config.lean ====
section
/-! DEFINITION. What the part fixes: capacities, times, rates and wire constants, each with the rule that gives it.
The spec leaves no value of an instruction open, so there is no free constant here. -/

namespace Sys2Proof.Config

/-- Event records the queue holds (R173). -/
def eventCapacity : Nat := 64

/-- Records one EVENTS request removes at most (R174). -/
def eventsPerReply : Nat := 8

/-- Frames the request queue holds (R178). -/
def requestCapacity : Nat := 2

/-- Replies the reply queue holds (R181). -/
def replyCapacity : Nat := 2

/-- Places of the booking table (R105). -/
def bookingCapacity : Nat := 32

/-- Faces of the face pool (R14). -/
def facePool : Nat := 128

/-- Texts a crane's text queue holds (R84). -/
def textCapacity : Nat := 4

/-- Characters of a TEXT that are kept (R84). -/
def textLength : Nat := 32

/-- Characters one POLL carries (R85). -/
def chunkLength : Nat := 16

/-- Octets the reply buffer of a crane line holds (R132). -/
def replyBuffer : Nat := 32

/-- Samples a receiver takes in each bit time (R128, R158, R175). -/
def samplesPerBit : Nat := 16

/-- Bits of a character on a crane line or the mast line (R127, R158). -/
def lineBits : Nat := 11

/-- Bits of a character on the supervisor port (R175). -/
def portBits : Nat := 10

/-- Start-of-frame octet of the supervisor port (11, Frames). -/
def sof : Byte := 0xC5

/-- Payload octets a frame on the supervisor port holds at most (11, Frames). -/
def maxPayload : Nat := 248

/-- The first value of the CRC register (R177). -/
def crcStart : BitVec 16 := 0xFFFF

/-- The CRC polynomial (R177). -/
def crcPoly : BitVec 16 := 0x1021

/-- The value that the check octets of line frames and mast replies start from (R130, R161). -/
def checkStart : Byte := 0xA5

/-- The coordinator's protocol version (R146). -/
def protocolVersion : Byte := 1

/-- The request character of a mast slot (R160). -/
def mastRequest : Byte := 0x01

/-- Wake pulse, in milliseconds (R144). -/
def wakePulse : Nat := 5

/-- Idle time after the wake pulse, in milliseconds (R144). -/
def wakeIdle : Nat := 10

/-- Back-off after a failed rate search, in milliseconds (R148). -/
def backoff : Nat := 2000

/-- Time WAITREADY gives the cab, in milliseconds (R150). -/
def readyTime : Nat := 10000

/-- Time spent in LOST, in milliseconds (R155). -/
def lostTime : Nat := 1000

/-- Period of the Wind Evaluator's and Site Control's timers, in milliseconds (R91, R170). -/
def second : Nat := 1000

/-- Length of a mast scan slot, in milliseconds (R160). -/
def mastSlot : Nat := 250

/-- Length of a mast reply window, in milliseconds (R161). -/
def mastWindow : Nat := 50

/-- Largest change of the clock taken in RUN or HOLD, in seconds (R171). -/
def clockTrim : Nat := 60

/-- The range of the site clock: it counts modulo this (R170). -/
def clockRange : Nat := 4294967296

/-- Longest booked interval, in seconds (R105). -/
def longestBooking : Nat := 14400

/-- Attempts of the rate search, one at each rate (R146). -/
def searchAttempts : Nat := 3

/-- Confirming attempts in CHECK (R149). -/
def checkAttempts : Nat := 2

/-- Tagging attempts in TAGGING (R152). -/
def tagAttempts : Nat := 3

/-- A ceiling that stands for any height (R11). -/
def anyHeight : Int := 30000

end Sys2Proof.Config
end

