-- ==== Sys2Proof/Syntax.lean ====
section
/-! DEFINITION. The commands: one constructor for each row of spec/opcode_table.json, in the table's order.

Operands. A request carries its frame's sequence octet and payload octets, so that the checks of R179 and of its
owner are all made by its meaning (log 3). An event of a crane line carries its crane. What is received is carried as
the samples the receiver takes of the line, one after another (R128, R158, R175; log 9). A command that takes several
bookings or cranes in one step carries `order`: those named are taken first, in that order, the others after them in
ascending number, because the spec leaves the order open (log 6). -/

namespace Sys2Proof

inductive Instr where
  /-- POWER_ON (R20): power-on, or RST_N held low. -/
  | powerOn
  /-- SUPERVISOR_OCTET (R176): the samples of RX with which a character completes. -/
  | supervisorOctet (x : Samples)
  /-- FRAME_GAP_TIMEOUT (R176): more than 20 ms pass within a frame. -/
  | frameGapTimeout
  /-- UNKNOWN_TYPE (R179): a request whose type is not a request type is taken. -/
  | unknownType (typ seq : Byte) (payload : List Byte)
  /-- REPLY_SEND (R181): a reply is due; `ready` is the level of READY as the transmitter samples it. -/
  | replySend (ready : Bool)
  /-- REPLY_SENT (R181): the last octet of the reply being sent has been sent. -/
  | replySent
  /-- STATUS (R185). -/
  | status (seq : Byte) (payload : List Byte)
  /-- START (R166). -/
  | start (seq : Byte) (payload : List Byte)
  /-- HOLD (R167). -/
  | hold (seq : Byte) (payload : List Byte)
  /-- RESUME (R167). -/
  | resume (seq : Byte) (payload : List Byte)
  /-- SETUP (R168). -/
  | setup (seq : Byte) (payload : List Byte)
  /-- RESTART (R169). -/
  | restart (seq : Byte) (payload : List Byte)
  /-- CLOCK (R171). -/
  | clock (seq : Byte) (payload : List Byte)
  /-- TAG (R19). -/
  | tag (seq : Byte) (payload : List Byte)
  /-- ATTN_MASK (R184). -/
  | attnMask (seq : Byte) (payload : List Byte)
  /-- CRANE_DEF (R4 to R8). -/
  | craneDef (seq : Byte) (payload : List Byte)
  /-- CRANE_CLEAR (R9). -/
  | craneClear (seq : Byte) (payload : List Byte)
  /-- CRANE_READ (R186). -/
  | craneRead (seq : Byte) (payload : List Byte)
  /-- ZONE_DEF (R10 to R14). -/
  | zoneDef (seq : Byte) (payload : List Byte)
  /-- ZONE_DEL (R15). -/
  | zoneDel (seq : Byte) (payload : List Byte)
  /-- ZONE_READ (R186). -/
  | zoneRead (seq : Byte) (payload : List Byte)
  /-- MAST_DEF (R16). -/
  | mastDef (seq : Byte) (payload : List Byte)
  /-- SITE_DEF (R17). -/
  | siteDef (seq : Byte) (payload : List Byte)
  /-- SITE_READ (R186). -/
  | siteRead (seq : Byte) (payload : List Byte)
  /-- LINE_ON (R140). -/
  | lineOn (seq : Byte) (payload : List Byte)
  /-- LINE_OFF (R141). -/
  | lineOff (seq : Byte) (payload : List Byte)
  /-- SERVICE (R74). -/
  | service (seq : Byte) (payload : List Byte)
  /-- CRANE_STATE (R187). -/
  | craneState (seq : Byte) (payload : List Byte)
  /-- TEXT (R84). -/
  | text (seq : Byte) (payload : List Byte)
  /-- DECLARE (R58). -/
  | declare (seq : Byte) (payload : List Byte)
  /-- ZONE_STATE (R69). -/
  | zoneState (seq : Byte) (payload : List Byte)
  /-- RESOLVE (R53). -/
  | resolve (seq : Byte) (payload : List Byte)
  /-- WIND_READ (R104). -/
  | windRead (seq : Byte) (payload : List Byte)
  /-- BOOK (R107 to R109). -/
  | book (seq : Byte) (payload : List Byte)
  /-- CANCEL (R120). -/
  | cancel (seq : Byte) (payload : List Byte)
  /-- BOOKING_READ (R123). -/
  | bookingRead (seq : Byte) (payload : List Byte)
  /-- BOOKING_LIST (R123). -/
  | bookingList (seq : Byte) (payload : List Byte)
  /-- BOOKING_REMOVE (R124). -/
  | bookingRemove (seq : Byte) (payload : List Byte)
  /-- EVENTS (R174). -/
  | events (seq : Byte) (payload : List Byte)
  /-- CYCLE_EXPIRY (R136): the cycle timer of an ONLINE line expires. -/
  | cycleExpiry (k : Crane)
  /-- FRAME_SENT (R132): the last stop bit of a crane line frame has been sent. -/
  | frameSent (k : Crane)
  /-- REPLY_WINDOW_CLOSE (R132): the reply window closes with no start bit accepted. -/
  | replyWindowClose (k : Crane)
  /-- SILENCE_LIMIT (R132): the silence limit passes with the reply incomplete. -/
  | silenceLimit (k : Crane)
  /-- REPLY_BUFFER_FULL (R132): the samples with which the 32nd octet arrives, the reply not complete by its own
  length. -/
  | replyBufferFull (k : Crane) (x : Samples)
  /-- REPORT (R137): the samples with which the reply to a POLL completes. -/
  | report (k : Crane) (x : Samples)
  /-- ECHO (R147): the samples with which the reply to a WAKE_CHECK completes. -/
  | echo (k : Crane) (x : Samples)
  /-- READY (R150): the samples with which the reply to a READY_Q completes. -/
  | ready (k : Crane) (x : Samples)
  /-- IDENT (R153): the samples with which the reply to a TAG_SET completes. -/
  | ident (k : Crane) (x : Samples)
  /-- WAKE_PULSE_END (R144). -/
  | wakePulseEnd (k : Crane)
  /-- WAKE_IDLE_END (R144). -/
  | wakeIdleEnd (k : Crane)
  /-- BACKOFF_EXPIRY (R148). -/
  | backoffExpiry (k : Crane)
  /-- WAITREADY_EXPIRY (R150): the cycle timer expires in WAITREADY. -/
  | waitreadyExpiry (k : Crane)
  /-- READY_DEADLINE (R151). -/
  | readyDeadline (k : Crane)
  /-- LOST_EXPIRY (R155). -/
  | lostExpiry (k : Crane)
  /-- LINK_NOTICE (R139): the oldest link notice of the crane reaches the blocks it is for. -/
  | linkNotice (k : Crane) (order : List Nat)
  /-- SLOT_CLOSE (R91): the Wind Evaluator's one-second timer expires. -/
  | slotClose (order : List Crane)
  /-- LEVEL_NOTICE (R102): the oldest level notice of the crane reaches the Booking Scheduler. -/
  | levelNotice (k : Crane) (order : List Nat)
  /-- SERVICE_NOTICE (R74): the oldest service notice of the crane reaches the Booking Scheduler. -/
  | serviceNotice (k : Crane) (order : List Nat)
  /-- MODE_NOTICE (R167): the oldest mode notice reaches the Booking Scheduler. -/
  | modeNotice (order : List Nat)
  /-- CLOCK_NOTICE (R171): the oldest clock notice reaches the Booking Scheduler. -/
  | clockNotice (order : List Nat)
  /-- CLEARANCE_NOTICE (R65): the oldest clearance notice of this zone and booking reaches the Booking Scheduler. -/
  | clearanceNotice (z : Zone) (id : Nat)
  /-- INSIDE_LEFT_NOTICE (R51): the oldest notice that the crane left the zone reaches the Booking Scheduler. -/
  | insideLeftNotice (k : Crane) (z : Zone) (order : List Nat)
  /-- CLOCK_SECOND (R170): Site Control's one-second timer expires. -/
  | clockSecond (order : List Nat)
  /-- MAST_SLOT_START (R160): the next mast scan slot begins. -/
  | mastSlotStart
  /-- MAST_REQUEST_SENT (R161): the request character of the slot has been sent. -/
  | mastRequestSent
  /-- MAST_REPLY (R161): the samples with which the mast's reply completes. -/
  | mastReply (x : Samples)
  /-- MAST_WINDOW_CLOSE (R161): the mast reply window closes before four characters arrive. -/
  | mastWindowClose
  /-- MAST_NOTICE (R163): the oldest mast notice of the mast reaches the Wind Evaluator. -/
  | mastNotice (m : Mast)
  /-- REPLY_CHARACTER (R132): samples that a crane line receiver takes, with which a character completes. -/
  | replyCharacter (k : Crane) (x : Samples)
  /-- MAST_CHARACTER (R161): samples that the mast line receiver takes, with which a character completes. -/
  | mastCharacter (x : Samples)
  deriving DecidableEq, Repr

end Sys2Proof
end

