-- ==== Sys2Proof/WellFormed.lean ====
section
/-! DEFINITION. Which commands the world outside can make: the limits that the operands' types do not carry. -/

namespace Sys2Proof

/-- The request types of the type code table (11, Type codes). -/
def requestTypes : List Byte :=
  [0x01, 0x02, 0x03, 0x04, 0x05, 0x06, 0x07, 0x08, 0x09,
   0x10, 0x11, 0x12, 0x13, 0x14, 0x15, 0x16, 0x17, 0x18,
   0x20, 0x21, 0x22, 0x23, 0x24, 0x25, 0x28, 0x29, 0x30,
   0x38, 0x39, 0x3A, 0x3B, 0x3C, 0x40]

/-- A frame's payload has at most 248 octets (11, Frames). -/
def payloadFits (payload : List Byte) : Bool := payload.length ≤ Config.maxPayload

/-- An order names nobody twice. -/
def orderOk {α : Type} [DecidableEq α] (order : List α) : Bool := decide order.Nodup

/-- A receiver takes at least one sample. -/
def samplesOk (x : Samples) : Bool := !x.isEmpty

/-- The operands of a command are such as the outside can send. -/
def Instr.wellFormed : Instr → Bool
  | .unknownType typ _ p => !requestTypes.contains typ && payloadFits p
  | .status _ p | .start _ p | .hold _ p | .resume _ p | .setup _ p | .restart _ p | .clock _ p | .tag _ p
  | .attnMask _ p | .craneDef _ p | .craneClear _ p | .craneRead _ p | .zoneDef _ p | .zoneDel _ p
  | .zoneRead _ p | .mastDef _ p | .siteDef _ p | .siteRead _ p | .lineOn _ p | .lineOff _ p | .service _ p
  | .craneState _ p | .text _ p | .declare _ p | .zoneState _ p | .resolve _ p | .windRead _ p | .book _ p
  | .cancel _ p | .bookingRead _ p | .bookingList _ p | .bookingRemove _ p | .events _ p => payloadFits p
  | .supervisorOctet x | .replyBufferFull _ x | .report _ x | .echo _ x | .ready _ x | .ident _ x | .mastReply x
  | .replyCharacter _ x | .mastCharacter x => samplesOk x
  | .linkNotice _ o | .levelNotice _ o | .serviceNotice _ o | .modeNotice o | .clockNotice o
  | .insideLeftNotice _ _ o | .clockSecond o => orderOk o
  | .slotClose o => orderOk o
  | .clearanceNotice _ id => 1 ≤ id && id ≤ 65535
  | .powerOn | .frameGapTimeout | .replySend _ | .replySent | .cycleExpiry _ | .frameSent _ | .replyWindowClose _
  | .silenceLimit _ | .wakePulseEnd _ | .wakeIdleEnd _ | .backoffExpiry _ | .waitreadyExpiry _ | .readyDeadline _
  | .lostExpiry _ | .mastSlotStart | .mastRequestSent | .mastWindowClose | .mastNotice _ => true

end Sys2Proof
end

