-- ==== Sys2Proof/Decode.lean ====
section
/-! DEFINITION. The commands that spec/opcode_table.json gives as words. -/

namespace Sys2Proof

/-- The command that the bits of a table row spell. No row of the table gives any bits ("fields" is empty in every
row), so no word spells a command. -/
def decodeTableWord (_nbits _w : Nat) : Option Instr := none

end Sys2Proof
end

