-- ==== Sys2Proof/Machine/State.lean ====
section
/-! DEFINITION. The state of the part, block by block, and its state after power-on. -/

namespace Sys2Proof.Machine

/-! ## Names -/

/-- The site mode (R165). -/
inductive Mode where
  | setup | run | hold
  deriving DecidableEq, Repr

/-- The link state of a crane line (R125). -/
inductive LinkState where
  | off | waking | rateSearch | check | waitready | tagging | online | lost | mismatch
  deriving DecidableEq, Repr

/-- The cause of the most recent entry into LOST or MISMATCH (R143). -/
inductive LinkCause where
  | none | misses | notReady | noIdent | version | identity
  deriving DecidableEq, Repr

/-- The rate of a crane line (R129). -/
inductive Rate where
  | fast | mid | slow
  deriving DecidableEq, Repr

/-- The service state of a crane (R74). -/
inductive ServiceState where
  | inService | restricted | out
  deriving DecidableEq, Repr

/-- The wind level of a crane (R87). -/
inductive WindLevel where
  | calm | caution | stop | storm
  deriving DecidableEq, Repr

/-- Where a crane's second values come from (R87). -/
inductive WindSource where
  | own | mast | missing
  deriving DecidableEq, Repr

/-- The state of a weathervane record (R77). -/
inductive VaneState where
  | none | pending | active
  deriving DecidableEq, Repr

/-- The condition that began a weathervane episode (R77). -/
inductive VaneCause where
  | wind | service | both
  deriving DecidableEq, Repr

/-- The state of a mast (R162). -/
inductive MastState where
  | unknown | present | missing
  deriving DecidableEq, Repr

/-- The result of comparing a crane's windows and spans with a face in one direction (R28 to R30). -/
inductive FaceLevel where
  | clear | near | reach
  deriving DecidableEq, Repr

/-- The level of one motion in a permit (00, Motions and levels). -/
inductive MotionLevel where
  | stop | slow | full
  deriving DecidableEq, Repr

/-- The phase of a reservation (R42). -/
inductive Phase where
  | calling | active | suspended
  deriving DecidableEq, Repr

/-- The state of a booking (R106). -/
inductive BookingState where
  | booked | calling | active | suspended | closing | ended | cancelled | lapsed
  deriving DecidableEq, Repr

/-- What brought about a booking's last change of state (R122). -/
inductive BookingCause where
  | admitted | called | cleared | resumed | wind | link | service | hold | finished | left | cancel
  | noStart | notClear | setup | restart
  deriving DecidableEq, Repr

/-- The kind of a zone (R10). -/
inductive ZoneKind where
  | shared | restricted
  deriving DecidableEq, Repr

/-- The chunk marker of a POLL (R85). -/
inductive ChunkMarker where
  | none | only | first | last
  deriving DecidableEq, Repr

/-- The chunk of a text that is next to be sent (R84). -/
inductive TextProgress where
  | first | second
  deriving DecidableEq, Repr

/-- The kinds of event record (R172). -/
inductive EventKind where
  | powerOn | restart | modeChange | clockSet | linkOnline | linkLost | linkMismatch | rateChange
  | guardBegin | guardEnd | conflictBegin | conflictEnd | windLevel | windSource
  | weathervaneOn | weathervaneOff | weathervaneBlocked | bookingState | mastLost | mastBack
  deriving DecidableEq, Repr

/-- The reply codes (R180). -/
inductive ReplyCode where
  | done | refusedMode | refusedRange | refusedRef | refusedFull | refusedClash | refusedInUse
  | refusedState | unknownType | badLength
  deriving DecidableEq, Repr

/-! ## Site Model (01) -/

/-- A crane record that is Defined (R4). -/
structure CraneRec where
  identity : BitVec 32
  digest : BitVec 16
  jib : Nat
  alpha : Nat
  beta : Nat
  latency : Nat
  marginM : Nat
  slowMs : Nat
  marginMr : Nat
  slowMrs : Nat
  cycle : Nat
  window : Nat
  missLimit : Nat
  cautionGust : Nat
  stopGust : Nat
  stormGust : Nat
  stopMean : Nat
  stormMean : Nat
  backup : Option Mast
  absent : Bool
  deriving DecidableEq, Repr

/-- The band and ceiling of a HOOK face (R10). -/
structure HookBand where
  rmin : Nat
  rmax : Nat
  ceiling : Int
  deriving DecidableEq, Repr

/-- A zone as seen from one crane; a face without a band is a JIB face (R10). -/
structure Face where
  crane : Crane
  arcStart : Nat
  arcEnd : Nat
  band : Option HookBand
  deriving DecidableEq, Repr

/-- A zone record that is defined (R10). -/
structure ZoneDef where
  kind : ZoneKind
  mv : Nat
  faces : List Face
  deriving DecidableEq, Repr

/-- The site parameters (R17). -/
structure SiteParams where
  release : Nat
  callTimeout : Nat
  hysteresis : Nat
  holdStorm : Nat
  holdStop : Nat
  holdCaution : Nat
  sweepAlarm : Nat
  divN : Nat
  divF : Nat
  deriving DecidableEq, Repr

/-! ## Reach Evaluator (02) -/

/-- The state of one face of a crane (R22). -/
structure FaceState where
  zone : Zone
  cw : FaceLevel
  ccw : FaceLevel
  outward : FaceLevel
  inward : FaceLevel
  down : FaceLevel
  planInside : Bool
  inside : Bool
  clearSince : Option Moment
  deriving DecidableEq, Repr

/-! ## Zone Arbiter (03) -/

/-- The hold a booking places on a shared zone (R42). -/
structure Reservation where
  id : Nat
  crane : Crane
  phase : Phase
  deriving DecidableEq, Repr

/-- The runtime record of a zone (R42, R43); sets are kept in ascending crane number. -/
structure ZoneRt where
  holder : Option Crane
  sweep : List Crane
  claims : List Crane
  waiting : List Crane
  reservation : Option Reservation
  guard : List Crane
  inside : List Crane
  mover : Option Crane
  deriving DecidableEq, Repr

/-! ## Permit Composer (04) -/

/-- One level for each of the six motions (R70). -/
structure Permit where
  cw : MotionLevel
  ccw : MotionLevel
  outward : MotionLevel
  inward : MotionLevel
  up : MotionLevel
  down : MotionLevel
  deriving DecidableEq, Repr

/-- The last permit sent to a crane and what went with it (R70). -/
structure SentPermit where
  permit : Permit
  weathervane : Bool
  yielding : Bool
  wind : WindLevel
  booking : Nat
  deriving DecidableEq, Repr

/-- A weathervane record (R77). -/
structure VaneRec where
  state : VaneState
  pendingSince : Option Moment
  alarm : Bool
  cause : VaneCause
  deriving DecidableEq, Repr

/-! ## Receivers (R128, R158, R175) -/

/-- What the receiver of a serial line is doing. -/
inductive Receiver where
  /-- It hunts for a falling edge; `last` is the sample before. -/
  | hunt (last : Bool)
  /-- It is within a character: `n` is the number of the last sample taken in the present bit, 1 to 16; `ones` counts
  the samples at 1 among samples 7, 8 and 9 of it; `bits` are the bits decided, the start bit first. -/
  | char (n ones : Nat) (bits : List Bool)
  deriving DecidableEq, Repr

/-! ## Crane Line Controllers (07, 08) -/

/-- A REPORT's values after the clamps of R23. -/
structure Report where
  theta : Nat
  omega : Int
  radius : Nat
  speed : Int
  height : Int
  wind : Nat
  windValid : Bool
  age : Nat
  deriving DecidableEq, Repr

/-- The fault flags of a line (R134). -/
structure Faults where
  timeout : Bool
  parity : Bool
  framing : Bool
  check : Bool
  size : Bool
  tag : Bool
  range : Bool
  deriving DecidableEq, Repr

/-- The frame an exchange sent, with what its reply will be held against (R130, R131). -/
inductive ExchangeKind where
  /-- WAKE_CHECK with this pattern. -/
  | wakeCheck (pattern : Byte)
  /-- READY_Q. -/
  | readyQ
  /-- TAG_SET with this tag. -/
  | tagSet (tag : Byte)
  /-- POLL carrying the text chunk with this marker. -/
  | poll (marker : ChunkMarker)
  deriving DecidableEq, Repr

/-- How far an exchange has come (R132). -/
inductive Progress where
  /-- The frame is being sent. -/
  | sending
  /-- The reply window is open until `due`, and no reply has begun. -/
  | waiting (due : Moment)
  /-- The reply has begun: its octets so far and whether any of its characters had a parity or framing error. -/
  | receiving (octets : List Byte) (parity framing : Bool)
  deriving DecidableEq, Repr

/-- The exchange in flight on a crane line (R132). -/
structure Exchange where
  kind : ExchangeKind
  sent : List Byte
  window : Nat
  progress : Progress
  deriving DecidableEq, Repr

/-- What a crane line is waiting out, and the moment it ends. -/
inductive LineWait where
  | nothing
  /-- The wake pulse (R144). -/
  | pulse (due : Moment)
  /-- The idle time after the wake pulse (R144). -/
  | idle (due : Moment)
  /-- The back-off after a failed rate search (R148). -/
  | backoff (due : Moment)
  /-- The second in LOST (R155). -/
  | lost (due : Moment)
  deriving DecidableEq, Repr

/-- A text in a crane's text queue (R84). -/
structure CabText where
  serial : Byte
  chars : List Byte
  progress : TextProgress
  deriving DecidableEq, Repr

/-- What a crane line controller keeps (R125, R128, R143, R84), with the evaluator's note of whether the guard-end notice
of the present ONLINE life is still to be posted (R33). -/
structure Line where
  enabled : Bool
  link : LinkState
  rate : Option Rate
  tag : Byte
  tagCounter : Byte
  effCycle : Option Nat
  missCount : Nat
  faults : Faults
  lastReport : Option Report
  reportSince : Bool
  exchange : Option Exchange
  cycleTimer : Option Moment
  nextPattern : Byte
  attempts : Nat
  readyDeadline : Option Moment
  linkCause : LinkCause
  wait : LineWait
  texts : List CabText
  nextSerial : Byte
  guardEndDue : Bool
  rx : Receiver
  deriving DecidableEq, Repr

/-! ## Wind Evaluator (05) -/

/-- A crane's wind record (R87); the second values are held most recent first. -/
structure WindRec where
  source : WindSource
  quiet : Nat
  ownSum : Nat
  ownCount : Nat
  values : List Nat
  acc : Option Nat
  level : WindLevel
  eligible : Nat
  unsettled : Bool
  deriving DecidableEq, Repr

/-- The Wind Evaluator's copy of a mast's condition (R90). -/
structure MastCopy where
  state : MastState
  sample : Option Nat
  fresh : Bool
  deriving DecidableEq, Repr

/-! ## Booking Scheduler (06) -/

/-- A booking record (R105). `termSeq` is the model's own: it orders bookings by when they became terminal (R109). -/
structure Booking where
  id : Nat
  crane : Crane
  start : Nat
  finish : Nat
  reserved : List Zone
  opened : List Zone
  windLimit : Option Nat
  label : List Byte
  state : BookingState
  cause : BookingCause
  deadline : Nat
  terminal : Option Nat
  termSeq : Nat
  deriving DecidableEq, Repr

/-! ## Mast Line Controller (09) -/

/-- What the controller keeps for a Defined mast (R162). -/
structure MastRt where
  state : MastState
  misses : Nat
  deriving DecidableEq, Repr

/-- How far a mast exchange has come (R161). -/
inductive MastProgress where
  /-- The address and request characters are being sent. -/
  | sending
  /-- The reply window is open until `due`: the values received so far, and whether one had a framing error. -/
  | window (due : Moment) (reply : List Byte) (framing : Bool)
  deriving DecidableEq, Repr

/-- The exchange of the present slot (R161); `discard` once its mast has been undefined (R16). -/
structure MastExchange where
  mast : Mast
  discard : Bool
  progress : MastProgress
  deriving DecidableEq, Repr

/-- What the Mast Line Controller keeps (09). A mast is Defined (R16) when it has a runtime record. -/
structure MastLine where
  divN : Nat
  divF : Nat
  slot : Mast
  slotDue : Moment
  exchange : Option MastExchange
  masts : Vector (Option MastRt) 4
  rx : Receiver
  deriving DecidableEq, Repr

/-! ## Event Queue (10) -/

/-- An event record (R172). -/
structure Event where
  time : Nat
  kind : EventKind
  crane : Nat
  zone : Nat
  booking : Nat
  a : Int
  b : Int
  deriving DecidableEq, Repr

/-! ## Supervisor Port (11) -/

/-- A request frame: its type, sequence and payload (R178). -/
structure Frame where
  typ : Byte
  seq : Byte
  payload : List Byte
  deriving DecidableEq, Repr

/-- A reply in the reply queue: type, sequence, header and payload (R180). -/
structure Reply where
  typ : Byte
  seq : Byte
  code : ReplyCode
  mode : Mode
  attn : BitVec 16
  tag : BitVec 16
  payload : List Byte
  deriving DecidableEq, Repr

/-- The state of the frame assembler, with what it has stored (R176). -/
inductive Assembler where
  | hunt
  | length
  /-- BODY: the frame's length and the octets stored so far. -/
  | body (len : Byte) (octets : List Byte)
  /-- CRC: the frame's length and octets, and the CRC high octet once it is stored. -/
  | crc (len : Byte) (octets : List Byte) (high : Option Byte)
  deriving DecidableEq, Repr

/-- What the supervisor port keeps (R176 to R184). -/
structure Port where
  asm : Assembler
  requests : List Frame
  replies : List Reply
  sending : Bool
  restartTaken : Bool
  mask : BitVec 16
  discard : Bool
  ready : Bool
  rx : Receiver
  deriving DecidableEq, Repr

/-! ## Notices -/

/-- A notice on its way from one block to another (log 4). -/
inductive Notice where
  /-- CL*k*'s link changed from `old` to `new` (R139). -/
  | link (k : Crane) (old new : LinkState)
  /-- Crane *k*'s wind level changed to `level` (R102). -/
  | level (k : Crane) (level : WindLevel)
  /-- Crane *k*'s service state was set (R74). -/
  | service (k : Crane) (state : ServiceState)
  /-- The mode went to HOLD or back to RUN (R167). -/
  | mode
  /-- A CLOCK changed the site clock (R171). -/
  | clock
  /-- Whether a reserved zone is clear for the booking that reserves it (R65). -/
  | clearance (z : Zone) (id : Nat) (clear : Bool)
  /-- Crane *k* has left the inside set of a restricted zone (R51). -/
  | insideLeft (k : Crane) (z : Zone)
  /-- A mast's state, and the speed of a valid reply (R163). -/
  | mast (m : Mast) (state : MastState) (speed : Option Nat)
  deriving DecidableEq, Repr

/-! ## The whole part -/

/-- The state of the WC612. INVENTORY.md lists each field with the rule that names it. -/
structure State where
  pending : List Instr
  notices : List Notice
  cranes : Vector (Option CraneRec) 8
  zones : Vector (Option ZoneDef) 32
  params : SiteParams
  tag : BitVec 16
  faces : Vector (List FaceState) 8
  msCount : Moment
  arb : Vector ZoneRt 32
  declared : Vector (List Zone) 8
  sent : Vector SentPermit 8
  vane : Vector VaneRec 8
  service : Vector ServiceState 8
  lines : Vector Line 8
  wind : Vector WindRec 8
  windMasts : Vector MastCopy 4
  windDue : Moment
  bookings : List Booking
  nextId : Nat
  termSeq : Nat
  mastLine : MastLine
  mode : Mode
  clock : Nat
  clockValid : Bool
  clockDue : Moment
  events : List Event
  overflow : Bool
  port : Port
  deriving DecidableEq, Repr

/-- The reasons a step can stop with a fault. There are none: the part answers every failed check with a reply code
or a flag and goes on (log 22). -/
inductive Fault where
  deriving DecidableEq, Repr

/-- The reasons a step can be refused. -/
inductive Refusal where
  /-- Raised by `exec` for a command that has no meaning yet; safe, since nothing is then claimed of it. Every
  command has one, so nothing raises it. -/
  | notModelled (mnemonic : String)
  deriving DecidableEq, Repr

/-! ## After power-on -/

/-- The site parameters after power-on (R17). -/
def SiteParams.powerOn : SiteParams :=
  { release := 2000, callTimeout := 300, hysteresis := 10, holdStorm := 600, holdStop := 120, holdCaution := 60,
    sweepAlarm := 120, divN := 48, divF := 0 }

/-- A zone record with nothing in it (R42). -/
def ZoneRt.empty : ZoneRt :=
  { holder := none, sweep := [], claims := [], waiting := [], reservation := none, guard := [], inside := [],
    mover := none }

/-- The permit that stops every motion. -/
def Permit.allStop : Permit :=
  { cw := .stop, ccw := .stop, outward := .stop, inward := .stop, up := .stop, down := .stop }

/-- The last permit sent, after power-on and after a RESTART (R70). -/
def SentPermit.initial : SentPermit :=
  { permit := .allStop, weathervane := false, yielding := false, wind := .stop, booking := 0 }

/-- The weathervane record after power-on and after a RESTART (R77). The cause is the model's own choice: the spec
gives none before the first episode, and it is reported as 0 while the state is NONE (log 10). -/
def VaneRec.initial : VaneRec := { state := .none, pendingSince := none, alarm := false, cause := .wind }

/-- No fault flag set (R134). -/
def Faults.clear : Faults :=
  { timeout := false, parity := false, framing := false, check := false, size := false, tag := false, range := false }

/-- A receiver that begins to listen: it has taken no sample at 1 yet that a falling edge could follow (log 32). -/
def Receiver.fresh : Receiver := .hunt false

/-- A crane line controller after power-on (R142, R143, R84). -/
def Line.powerOn : Line :=
  { enabled := false, link := .off, rate := none, tag := 0, tagCounter := 1, effCycle := none, missCount := 0,
    faults := .clear, lastReport := none, reportSince := false, exchange := none, cycleTimer := none,
    nextPattern := 0, attempts := 0, readyDeadline := none, linkCause := .none, wait := .nothing, texts := [],
    nextSerial := 0, guardEndDue := false, rx := .fresh }

/-- A fresh wind record (R87). -/
def WindRec.fresh : WindRec :=
  { source := .missing, quiet := 5, ownSum := 0, ownCount := 0, values := [], acc := none, level := .stop,
    eligible := 0, unsettled := true }

/-- The Wind Evaluator's copy of a mast before anything is known of it (R90). -/
def MastCopy.unknown : MastCopy := { state := .unknown, sample := none, fresh := false }

/-- The state a mast has when it becomes Defined, and after a RESTART (R16, R164). -/
def MastRt.unknown : MastRt := { state := .unknown, misses := 0 }

/-- The Mast Line Controller after power-on: slot 1, idle, with its 250 ms running (R164). -/
def MastLine.powerOn : MastLine :=
  { divN := 48, divF := 0, slot := 0, slotDue := BitVec.ofNat 32 Config.mastSlot, exchange := none,
    masts := Vector.replicate 4 none, rx := .fresh }

/-- The supervisor port after power-on (R182); READY counts as deasserted until it is sampled (log 11). -/
def Port.powerOn : Port :=
  { asm := .hunt, requests := [], replies := [], sending := false, restartTaken := false, mask := 0xFFFF,
    discard := false, ready := false, rx := .fresh }

/-- The record that stands in the event queue after power-on (R173). -/
def Event.powerOn : Event := { time := 0, kind := .powerOn, crane := 0, zone := 0, booking := 0, a := 0, b := 0 }

/-- The machine right after power-on. -/
def State.reset : State :=
  { pending := [], notices := [], cranes := Vector.replicate 8 none, zones := Vector.replicate 32 none,
    params := .powerOn, tag := 0, faces := Vector.replicate 8 [], msCount := 0,
    arb := Vector.replicate 32 .empty, declared := Vector.replicate 8 [], sent := Vector.replicate 8 .initial,
    vane := Vector.replicate 8 .initial, service := Vector.replicate 8 .inService,
    lines := Vector.replicate 8 .powerOn, wind := Vector.replicate 8 .fresh,
    windMasts := Vector.replicate 4 .unknown, windDue := BitVec.ofNat 32 Config.second, bookings := [], nextId := 1,
    termSeq := 0, mastLine := .powerOn, mode := .setup, clock := 0, clockValid := false,
    clockDue := BitVec.ofNat 32 Config.second, events := [.powerOn], overflow := false, port := .powerOn }

end Sys2Proof.Machine
end

