-- ==== Sys2Proof/Machine/Ops.lean ====
section
/-! DEFINITION. The shared operations on the state: reading and updating one crane's, zone's or mast's part of it,
time, event records, notices, and sets and orders of cranes, zones and bookings. -/

namespace Sys2Proof.Machine

/-! ## Sets and orders -/

/-- The number *n* as an index, if it lies in 1 to `m`. -/
def pick {m : Nat} (n : Nat) : Option (Fin m) :=
  if h : 1 ≤ n ∧ n ≤ m then some ⟨n - 1, by omega⟩ else none

/-- Adds a member to a set kept in ascending order without duplicates. -/
def addTo {n : Nat} (a : Fin n) (l : List (Fin n)) : List (Fin n) :=
  if a ∈ l then l else l.orderedInsert (· ≤ ·) a

/-- The members of both sets, in ascending order. -/
def union {n : Nat} (l m : List (Fin n)) : List (Fin n) := m.foldl (fun acc a => addTo a acc) l

/-- A list of indices in ascending order without duplicates. -/
def ascending {n : Nat} (l : List (Fin n)) : List (Fin n) := union [] l

/-- `all`, with the members that `order` names first and in its order (log 6). -/
def inOrder {α : Type} [DecidableEq α] : List α → List α → List α
  | [], all => all
  | a :: order, all => if a ∈ all then a :: inOrder order (all.erase a) else inOrder order all

/-- The number of an optional crane, 0 for none. -/
def numberOr0 {n : Nat} : Option (Fin n) → Nat
  | none => 0
  | some i => number i

/-! ## Parts of the state -/

/-- What CL*k* keeps. -/
def State.line (s : State) (k : Crane) : Line := s.lines[k]

/-- Replaces what CL*k* keeps. -/
def State.modLine (s : State) (k : Crane) (f : Line → Line) : State :=
  { s with lines := s.lines.set k (f (s.line k)) }

/-- The runtime record of a zone. -/
def State.zone (s : State) (z : Zone) : ZoneRt := s.arb[z]

/-- Replaces the runtime record of a zone. -/
def State.setZone (s : State) (z : Zone) (r : ZoneRt) : State := { s with arb := s.arb.set z r }

/-- The definition of a zone, if it is defined. -/
def State.zoneDef (s : State) (z : Zone) : Option ZoneDef := s.zones[z]

/-- The crane record, if it is Defined. -/
def State.crane (s : State) (k : Crane) : Option CraneRec := s.cranes[k]

/-- A crane record with every number 0. -/
def CraneRec.blank : CraneRec :=
  { identity := 0, digest := 0, jib := 0, alpha := 0, beta := 0, latency := 0, marginM := 0, slowMs := 0,
    marginMr := 0, slowMrs := 0, cycle := 0, window := 0, missLimit := 0, cautionGust := 0, stopGust := 0,
    stormGust := 0, stopMean := 0, stormMean := 0, backup := none, absent := false }

/-- The crane record as a line that is on reads it. A line cannot be on for an undefined crane (R6, R9), so the blank
record is never read (log 14). -/
def State.craneRec (s : State) (k : Crane) : CraneRec := (s.crane k).getD .blank

/-- The crane is Defined and not absent (R8, R88). -/
def State.worked (s : State) (k : Crane) : Bool :=
  match s.crane k with
  | none => false
  | some c => !c.absent

/-- Replaces a crane record. -/
def State.setCrane (s : State) (k : Crane) (c : Option CraneRec) : State := { s with cranes := s.cranes.set k c }

/-- Replaces a crane's face-state list. -/
def State.setFaces (s : State) (k : Crane) (l : List FaceState) : State := { s with faces := s.faces.set k l }

/-- Replaces a crane's wind record. -/
def State.setWind (s : State) (k : Crane) (w : WindRec) : State := { s with wind := s.wind.set k w }

/-- Replaces a crane's weathervane record. -/
def State.setVane (s : State) (k : Crane) (v : VaneRec) : State := { s with vane := s.vane.set k v }

/-- Replaces a crane's declared-clear list. -/
def State.setDeclared (s : State) (k : Crane) (l : List Zone) : State := { s with declared := s.declared.set k l }

/-- Replaces the Wind Evaluator's copy of a mast. -/
def State.setMastCopy (s : State) (m : Mast) (c : MastCopy) : State := { s with windMasts := s.windMasts.set m c }

/-- Replaces what the Mast Line Controller keeps for a mast. -/
def State.setMast (s : State) (m : Mast) (r : Option MastRt) : State :=
  { s with mastLine := { s.mastLine with masts := s.mastLine.masts.set m r } }

/-- The mast is Defined (R16). -/
def State.mastDefined (s : State) (m : Mast) : Bool := (s.mastLine.masts[m]).isSome

/-- The face of crane *k* in a zone, with the zone's definition. -/
def State.faceIn (s : State) (k : Crane) (z : Zone) : Option (ZoneDef × Face) :=
  match s.zoneDef z with
  | none => none
  | some d => (d.faces.find? (fun f => f.crane == k)).map (fun f => (d, f))

/-- The zones in which crane *k* has a face, in ascending number (01, The Zone Table). -/
def State.zonesOf (s : State) (k : Crane) : List Zone := allZones.filter (fun z => (s.faceIn k z).isSome)

/-- The zone is defined and SHARED. -/
def State.isShared (s : State) (z : Zone) : Bool :=
  match s.zoneDef z with
  | none => false
  | some d => d.kind == .shared

/-- The face pool's faces in use (R14). -/
def State.facesInUse (s : State) : Nat :=
  (allZones.map (fun z => match s.zoneDef z with | none => 0 | some d => d.faces.length)).sum

/-! ## Time (log 1) -/

/-- The moment `ms` milliseconds from now. -/
def State.later (s : State) (ms : Nat) : Moment := s.msCount + BitVec.ofNat 32 ms

/-- Milliseconds since a moment, modulo 2³² (R22). -/
def State.since (s : State) (t : Moment) : Nat := (s.msCount - t).toNat

/-- A timer whose expiry was due at `due` has expired: the millisecond count has come at least that far. -/
def State.reach (s : State) (due : Moment) : State :=
  if (due - s.msCount).toNat < 2 ^ 31 then { s with msCount := due } else s

/-- One millisecond passes. -/
def State.tick (s : State) : State := { s with msCount := s.msCount + 1 }

/-! ## Event records (R173) -/

/-- Appends a record; a full queue first loses its oldest record and sets OVERFLOW. -/
def State.append (s : State) (e : Event) : State :=
  if s.events.length < Config.eventCapacity then { s with events := s.events ++ [e] }
  else { s with events := s.events.drop 1 ++ [e], overflow := true }

/-- Appends a record carrying the site clock as it reads now (R170). -/
def State.emit (s : State) (kind : EventKind) (crane zone booking : Nat) (a b : Int) : State :=
  s.append { time := s.clock, kind := kind, crane := crane, zone := zone, booking := booking, a := a, b := b }

/-- Appends a record that names a crane and nothing else. -/
def State.emitCrane (s : State) (kind : EventKind) (k : Crane) (a b : Int) : State :=
  s.emit kind (number k) 0 0 a b

/-! ## Notices (log 4) -/

/-- A block hands a notice on. -/
def State.post (s : State) (n : Notice) : State := { s with notices := s.notices ++ [n] }

/-- The oldest notice that `p` picks, and the others. -/
def takeFirst (p : Notice → Bool) : List Notice → Option (Notice × List Notice)
  | [] => none
  | n :: rest =>
    if p n then some (n, rest)
    else match takeFirst p rest with
      | none => none
      | some (m, others) => some (m, n :: others)

/-- Delivers the oldest notice that `p` picks to `act`; with none on its way nothing happens (log 2). -/
def State.deliver (s : State) (p : Notice → Bool) (act : Notice → State → State) : State :=
  match takeFirst p s.notices with
  | none => s
  | some (n, rest) => act n { s with notices := rest }

end Sys2Proof.Machine
end

