-- ==== Sys2Proof/Machine/Operands.lean ====
section
/-! DEFINITION. Characters and octets: the receiver of a serial line and what it decides from its samples, numbers in
octets, check octets and the CRC, and the codes of enumerated fields. -/

namespace Sys2Proof.Machine

/-! ## The receiver (R128, R158, R175) -/

/-- What a sample brings. -/
inductive Heard where
  /-- Nothing yet. -/
  | nothing
  /-- A start bit is accepted: its majority is 0. -/
  | start
  /-- A character is complete, with these bits, the start bit first. -/
  | character (bits : List Bool)
  deriving DecidableEq, Repr

/-- The receiver is within a character whose start bit it has accepted. -/
def Receiver.inCharacter : Receiver → Bool
  | .hunt _ => false
  | .char _ _ bits => !bits.isEmpty

/-- One more sample `b` within a character of `size` bits, sample `n` of its bit. Samples 7, 8 and 9 decide the bit by
majority: a start bit of 1 was noise, and the receiver hunts again after it and after the stop bit. -/
def centreSample (size n ones : Nat) (bits : List Bool) (b : Bool) : Receiver × Heard :=
  let ones := if 7 ≤ n ∧ n ≤ 9 then ones + b.toNat else ones
  if n = 9 then
    if bits.isEmpty && decide (2 ≤ ones) then (.hunt b, .nothing)
    else if bits.length + 1 = size then (.hunt b, .character (bits ++ [decide (2 ≤ ones)]))
    else (.char 9 0 (bits ++ [decide (2 ≤ ones)]), if bits.isEmpty then .start else .nothing)
  else (.char n ones bits, .nothing)

/-- One more sample: while hunting, a sample at 0 that follows one at 1 is sample 1 of a start bit. -/
def Receiver.sample (size : Nat) (r : Receiver) (b : Bool) : Receiver × Heard :=
  match r with
  | .hunt last => if last && !b then (.char 1 0 [], .nothing) else (.hunt b, .nothing)
  | .char n ones bits => centreSample size (if n = Config.samplesPerBit then 1 else n + 1) ones bits b

/-- The receiver after a run of samples. -/
def Receiver.after (size : Nat) (r : Receiver) (x : Samples) : Receiver :=
  x.foldl (fun r b => (r.sample size b).1) r

/-- The characters that complete in a run of samples. -/
def Receiver.characters (size : Nat) : Receiver → Samples → List (List Bool)
  | _, [] => []
  | r, b :: x =>
    match (r.sample size b).2 with
    | .character bits => bits :: ((r.sample size b).1).characters size x
    | .nothing | .start => ((r.sample size b).1).characters size x

/-! ## Characters (R127, R158, R175) -/

/-- The octet in bits 1 to 8 of a character, least significant bit first. -/
def octetOf (bits : List Bool) : Byte :=
  BitVec.ofNat 8 ((List.range 8).foldr (fun i acc => (bits.getD (i + 1) false).toNat + 2 * acc) 0)

/-- A character on a crane line or the mast line as the receiver decides it: its octet, its tenth bit (parity or
address flag) and whether its stop bit was 0. -/
structure LineChar where
  octet : Byte
  tenth : Bool
  framing : Bool
  deriving DecidableEq, Repr

/-- The character of eleven decided bits (R127, R128, R158). -/
def lineChar (bits : List Bool) : LineChar :=
  { octet := octetOf bits, tenth := bits.getD 9 false, framing := !bits.getD 10 false }

/-- The number of 1 bits of an octet. -/
def ones (o : Byte) : Nat := ((List.range 8).map (fun i => (o.getLsbD i).toNat)).sum

/-- The parity bit that makes the number of 1 bits odd (R127). -/
def parityBit (o : Byte) : Bool := ones o % 2 == 0

/-- The character's parity bit is not the one R127 asks for. -/
def LineChar.parity (c : LineChar) : Bool := c.tenth != parityBit c.octet

/-- A character on the supervisor port: its octet, and whether its stop bit was 0 (R175, R176). -/
structure PortChar where
  octet : Byte
  framing : Bool
  deriving DecidableEq, Repr

/-- The character of ten decided bits (R175). -/
def portChar (bits : List Bool) : PortChar := { octet := octetOf bits, framing := !bits.getD 9 false }

/-- The bits of an octet, least significant first. -/
def octetBits (o : Byte) : List Bool := (List.range 8).map (fun i => o.getLsbD i)

/-- The eleven bits that a line carries for an octet, a tenth bit and a stop bit. -/
def charBits (o : Byte) (tenth stop : Bool) : List Bool := [false] ++ octetBits o ++ [tenth, stop]

/-- The bits a crane line carries for an octet (R127). -/
def lineBits (o : Byte) : List Bool := charBits o (parityBit o) true

/-- The bits the mast line carries for a value and an address flag (R158). -/
def mastBits (o : Byte) (address : Bool) : List Bool := charBits o address true

/-- The bits the supervisor port carries for an octet (R175). -/
def portBits (o : Byte) : List Bool := [false] ++ octetBits o ++ [true]

/-- The samples of a run of bits on a line nobody disturbs, one sample at mark before them. -/
def wave (bits : List Bool) : Samples := true :: (bits.map (List.replicate Config.samplesPerBit)).flatten

/-! ## Numbers in octets, high octet first (00, Numbers) -/

/-- Octet *i* of a payload as a number. -/
def oct (p : List Byte) (i : Nat) : Nat := (p.getD i 0).toNat

/-- Octets *i* and *i* + 1 as a number. -/
def oct2 (p : List Byte) (i : Nat) : Nat := oct p i * 256 + oct p (i + 1)

/-- Octets *i* to *i* + 3 as a number. -/
def oct4 (p : List Byte) (i : Nat) : Nat := oct2 p i * 65536 + oct2 p (i + 2)

/-- Octet *i* as a two's complement number. -/
def int1 (p : List Byte) (i : Nat) : Int := (p.getD i 0).toInt

/-- Octets *i* and *i* + 1 as a two's complement number. -/
def int2 (p : List Byte) (i : Nat) : Int := (BitVec.ofNat 16 (oct2 p i)).toInt

/-- A number in one octet. -/
def put1 (n : Nat) : List Byte := [BitVec.ofNat 8 n]

/-- A number in two octets. -/
def put2 (n : Nat) : List Byte := [BitVec.ofNat 8 (n / 256), BitVec.ofNat 8 n]

/-- A number in four octets. -/
def put4 (n : Nat) : List Byte := put2 (n / 65536) ++ put2 n

/-- A signed number in one octet. -/
def putInt1 (i : Int) : List Byte := put1 (BitVec.ofInt 8 i).toNat

/-- A signed number in two octets. -/
def putInt2 (i : Int) : List Byte := put2 (BitVec.ofInt 16 i).toNat

/-- A signed number in four octets. -/
def putInt4 (i : Int) : List Byte := put4 (BitVec.ofInt 32 i).toNat

/-- A flag or choice in one octet (R188). -/
def putFlag (b : Bool) : List Byte := put1 b.toNat

/-- A set or list of numbers: a count, then its members (R188). -/
def putList {n : Nat} (l : List (Fin n)) : List Byte :=
  put1 l.length ++ l.map (fun i => BitVec.ofNat 8 (number i))

/-! ## Check octets and the CRC -/

/-- The check octet over a run of octets (R130, R161). -/
def checkOctet (l : List Byte) : Byte := l.foldl (fun a o => a ^^^ o) Config.checkStart

/-- One bit into the CRC register (R177). -/
def crcBit (r : BitVec 16) (b : Bool) : BitVec 16 :=
  if r.getLsbD 15 != b then (r <<< 1) ^^^ Config.crcPoly else r <<< 1

/-- One octet into the CRC register, most significant bit first (R177). -/
def crcOctet (r : BitVec 16) (o : Byte) : BitVec 16 :=
  [7, 6, 5, 4, 3, 2, 1, 0].foldl (fun r i => crcBit r (o.getLsbD i)) r

/-- The CRC over a run of octets (R177). -/
def crc (l : List Byte) : BitVec 16 := l.foldl crcOctet Config.crcStart

/-- The octets of a frame on the supervisor port: SOF, length, then the octets, then the CRC (11, Frames). -/
def portFrame (octets : List Byte) : List Byte :=
  let covered := BitVec.ofNat 8 octets.length :: octets
  Config.sof :: covered ++ put2 (crc covered).toNat

/-- The octets of a frame on a crane line (R130). -/
def lineFrame (kind tag : Byte) (payload : List Byte) : List Byte :=
  let covered := kind :: tag :: BitVec.ofNat 8 payload.length :: payload
  covered ++ [checkOctet covered]

/-! ## Codes of enumerated fields (11, Codes of enumerated fields; R103; R122; R165; R172; R180; R189) -/

def Mode.code : Mode → Nat
  | .setup => 0 | .run => 1 | .hold => 2

def ZoneKind.code : ZoneKind → Nat
  | .shared => 0 | .restricted => 1

def LinkState.code : LinkState → Nat
  | .off => 0 | .waking => 1 | .rateSearch => 2 | .check => 3 | .waitready => 4 | .tagging => 5
  | .online => 6 | .lost => 7 | .mismatch => 8

def LinkCause.code : LinkCause → Nat
  | .none => 0 | .misses => 1 | .notReady => 2 | .noIdent => 3 | .version => 4 | .identity => 5

def Rate.code : Rate → Nat
  | .fast => 0 | .mid => 1 | .slow => 2

/-- The code of a line's rate, 255 for none. -/
def rateCode : Option Rate → Nat
  | none => 255
  | some r => r.code

def ServiceState.code : ServiceState → Nat
  | .inService => 0 | .restricted => 1 | .out => 2

/-- The service state of a code. -/
def serviceOf : Nat → Option ServiceState
  | 0 => some .inService
  | 1 => some .restricted
  | 2 => some .out
  | _ => none

def WindLevel.code : WindLevel → Nat
  | .calm => 0 | .caution => 1 | .stop => 2 | .storm => 3

def WindSource.code : WindSource → Nat
  | .own => 0 | .mast => 1 | .missing => 2

def VaneState.code : VaneState → Nat
  | .none => 0 | .pending => 1 | .active => 2

def VaneCause.code : VaneCause → Nat
  | .wind => 1 | .service => 2 | .both => 3

def MastState.code : MastState → Nat
  | .unknown => 0 | .present => 1 | .missing => 2

def FaceLevel.code : FaceLevel → Nat
  | .clear => 0 | .near => 1 | .reach => 2

def MotionLevel.code : MotionLevel → Nat
  | .stop => 0 | .slow => 1 | .full => 2

def ChunkMarker.code : ChunkMarker → Nat
  | .none => 0 | .only => 1 | .first => 2 | .last => 3

def Phase.code : Phase → Nat
  | .calling => 1 | .active => 2 | .suspended => 3

def BookingState.code : BookingState → Nat
  | .booked => 0 | .calling => 1 | .active => 2 | .suspended => 3 | .closing => 4 | .ended => 5
  | .cancelled => 6 | .lapsed => 7

def BookingCause.code : BookingCause → Nat
  | .admitted => 0 | .called => 1 | .cleared => 2 | .resumed => 3 | .wind => 4 | .link => 5 | .service => 6
  | .hold => 7 | .finished => 8 | .left => 9 | .cancel => 10 | .noStart => 11 | .notClear => 12 | .setup => 13
  | .restart => 14

def TextProgress.code : TextProgress → Nat
  | .first => 1 | .second => 2

def EventKind.code : EventKind → Nat
  | .powerOn => 1 | .restart => 2 | .modeChange => 3 | .clockSet => 4 | .linkOnline => 5 | .linkLost => 6
  | .linkMismatch => 7 | .rateChange => 8 | .guardBegin => 9 | .guardEnd => 10 | .conflictBegin => 11
  | .conflictEnd => 12 | .windLevel => 13 | .windSource => 14 | .weathervaneOn => 15 | .weathervaneOff => 16
  | .weathervaneBlocked => 17 | .bookingState => 18 | .mastLost => 19 | .mastBack => 20

def ReplyCode.code : ReplyCode → Nat
  | .done => 0 | .refusedMode => 1 | .refusedRange => 2 | .refusedRef => 3 | .refusedFull => 4
  | .refusedClash => 5 | .refusedInUse => 6 | .refusedState => 7 | .unknownType => 8 | .badLength => 9

end Sys2Proof.Machine
end

