-- ==== Sys2Proof/Machine/Arbiter.lean ====
section
/-! DEFINITION. The Zone Arbiter (03): what each action does to a zone's record, the grant pass, and the events and
notices that an action at a shared zone brings with it. -/

namespace Sys2Proof.Machine

/-! ## One zone's record -/

/-- The zone's reservation is in phase ACTIVE. -/
def ZoneRt.activeReservation (r : ZoneRt) : Bool :=
  match r.reservation with
  | none => false
  | some v => v.phase == .active

/-- The zone's reservation names this crane as its booking's crane. -/
def ZoneRt.reservedFor (r : ZoneRt) (k : Crane) : Bool :=
  match r.reservation with
  | none => false
  | some v => v.crane == k

/-- Cranes inside that neither hold nor sweep the zone (R52). -/
def ZoneRt.intruders (r : ZoneRt) : List Crane :=
  r.inside.filter (fun k => r.holder != some k && !r.sweep.contains k)

/-- The zone has an intruder (R42, R52). -/
def ZoneRt.contested (r : ZoneRt) : Bool := !r.intruders.isEmpty

/-- A request of *k* would make it the holder at once (R45). -/
def ZoneRt.grantsNow (r : ZoneRt) (k : Crane) : Bool :=
  r.holder.isNone && r.sweep.isEmpty && r.guard.isEmpty &&
    ((r.reservation.isNone && r.claims.isEmpty) || r.reservedFor k)

/-- *k* is the holder, a sweep member or waiting. -/
def ZoneRt.involves (r : ZoneRt) (k : Crane) : Bool :=
  r.holder == some k || r.sweep.contains k || r.waiting.contains k

/-- Takes *k* off the waiting list and makes it the holder. -/
def ZoneRt.grant (r : ZoneRt) (k : Crane) : ZoneRt :=
  { r with holder := some k, waiting := r.waiting.filter (· != k) }

/-- Every pending claimant joins the sweep set and leaves the waiting list (R49 step 2, R61). -/
def ZoneRt.admitClaims (r : ZoneRt) : ZoneRt :=
  { r with
    sweep := union r.sweep r.claims
    waiting := r.waiting.filter (fun k => !r.claims.contains k)
    claims := [] }

/-- Steps 3 to 7 of the grant pass: who, if anyone, becomes the holder (R49). -/
def ZoneRt.grantNext (r : ZoneRt) : ZoneRt :=
  if !r.sweep.isEmpty then r
  else if !r.guard.isEmpty then r
  else match r.reservation with
    | some v => if r.waiting.contains v.crane then r.grant v.crane else r
    | none =>
      match r.waiting.find? (fun k => r.inside.contains k) with
      | some k => r.grant k
      | none =>
        match r.waiting with
        | [] => r
        | k :: _ => r.grant k

/-- The grant pass (R49). -/
def ZoneRt.grantPass (r : ZoneRt) : ZoneRt :=
  if r.holder.isSome then r
  else if !r.claims.isEmpty && !r.activeReservation then r.admitClaims.grantNext
  else r.grantNext

/-- A request of *k* that finds it not involved (R45). -/
def ZoneRt.request (r : ZoneRt) (k : Crane) : ZoneRt :=
  if r.grantsNow k then { r with holder := some k } else { r with waiting := r.waiting ++ [k] }

/-- The mover is made none if it is *k*. -/
def ZoneRt.dropMover (r : ZoneRt) (k : Crane) : ZoneRt :=
  if r.mover == some k then { r with mover := none } else r

/-- The holding of *k* converts: *k* and every claimant join the sweep set (R61). -/
def ZoneRt.convert (r : ZoneRt) (k : Crane) : ZoneRt :=
  let swept := r.admitClaims
  { swept with holder := none, sweep := addTo k swept.sweep, waiting := swept.waiting.filter (· != k) }

/-- A sweep claim of *k* at a shared zone (R60). -/
def ZoneRt.claim (r : ZoneRt) (k : Crane) : ZoneRt :=
  if r.sweep.contains k || r.claims.contains k then r
  else if r.activeReservation then { r with claims := addTo k r.claims }
  else match r.holder with
    | none => { r with sweep := addTo k r.sweep, waiting := r.waiting.filter (· != k) }
    | some j => if j = k then r.convert k else { r with claims := addTo k r.claims }

/-- *k* leaves the sweep set and the claims (R62). -/
def ZoneRt.withdrawSweep (r : ZoneRt) (k : Crane) : ZoneRt :=
  { r with sweep := r.sweep.filter (· != k), claims := r.claims.filter (· != k) }

/-- Every place of *k* in the zone is taken from it (R58). -/
def ZoneRt.remove (r : ZoneRt) (k : Crane) : ZoneRt :=
  { r with
    holder := if r.holder == some k then none else r.holder
    sweep := r.sweep.filter (· != k)
    claims := r.claims.filter (· != k)
    waiting := r.waiting.filter (· != k)
    guard := r.guard.filter (· != k)
    inside := r.inside.filter (· != k)
    mover := if r.mover == some k then none else r.mover }

/-- The zone is clear for the crane of a booking: no other holder and no sweep (R65, R112). -/
def ZoneRt.clearFor (r : ZoneRt) (k : Crane) : Bool :=
  (r.holder.isNone || r.holder == some k) && r.sweep.isEmpty

/-! ## Events and notices of an action at a shared zone -/

/-- The crane a conflict event names: the acting crane if its own standing changed, else the lowest-numbered crane
whose standing did (R52; log 7). -/
def conflictCrane (actor : Crane) (changed : List Crane) : Crane :=
  if changed.contains actor then actor else changed.headD actor

/-- Re-examines whether the zone is contested, and appends the event of a change (R52). -/
def State.conflictEvents (s : State) (z : Zone) (actor : Crane) (before after : ZoneRt) : State :=
  if !before.contested && after.contested then
    s.emit .conflictBegin (number (conflictCrane actor after.intruders)) (number z) 0 after.intruders.length 0
  else if before.contested && !after.contested then
    s.emit .conflictEnd (number (conflictCrane actor before.intruders)) (number z) 0 0 0
  else s

/-- Hands the Booking Scheduler the clearance notice of a reserved zone (R65). -/
def State.postClearance (s : State) (z : Zone) (r : ZoneRt) : State :=
  match r.reservation with
  | none => s
  | some v => s.post (.clearance z v.id (r.clearFor v.crane))

/-- The record changed in a way that a clearance notice reports: the holder changed, or the sweep set emptied, or a
pass changed the sweep set (R49, R65). -/
def noticeDue (before applied after : ZoneRt) : Bool :=
  before.holder != after.holder || (!before.sweep.isEmpty && after.sweep.isEmpty) || applied.sweep != after.sweep

/-- Ends an action at a shared zone whose own changes took the record from `before` to `applied`: the grant pass, if
the action asks for one or ended a contest (R50), then the notice of R65 (`always` when the action sends it in any
case), then the re-examination of the contested item (R52). -/
def State.settle (s : State) (z : Zone) (actor : Crane) (before applied : ZoneRt) (pass always : Bool) : State :=
  let after := if pass || (before.contested && !applied.contested) then applied.grantPass else applied
  let s := s.setZone z after
  let s := if always || noticeDue before applied after then s.postClearance z after else s
  s.conflictEvents z actor before after

/-! ## Actions of the Reach Evaluator -/

/-- A request of *k* (R45, R48). -/
def State.requestZone (s : State) (z : Zone) (k : Crane) : State :=
  let r := s.zone z
  if r.involves k then s else s.settle z k r (r.request k) false false

/-- A withdraw of *k* (R46, R48). -/
def State.withdrawZone (s : State) (z : Zone) (k : Crane) : State :=
  let r := s.zone z
  if r.waiting.contains k then
    s.setZone z ({ r with waiting := r.waiting.filter (· != k) }.dropMover k)
  else s

/-- A release of *k* (R47, R48). -/
def State.releaseZone (s : State) (z : Zone) (k : Crane) : State :=
  let r := s.zone z
  if r.holder = some k then s.settle z k r { r with holder := none } true false else s

/-- An inside-set update that adds *k* (R51). -/
def State.insideAdd (s : State) (z : Zone) (k : Crane) : State :=
  let r := s.zone z
  if r.inside.contains k then s
  else
    let r' := { r with inside := addTo k r.inside }
    if s.isShared z then s.settle z k r r' false false else s.setZone z r'

/-- An inside-set update that removes *k*; a mover that leaves brings a pass (R51, R54), and leaving a restricted
zone is told to the scheduler. -/
def State.insideRemove (s : State) (z : Zone) (k : Crane) : State :=
  let r := s.zone z
  if r.inside.contains k then
    let r' := { r with inside := r.inside.filter (· != k) }
    if s.isShared z then s.settle z k r (r'.dropMover k) (r.mover == some k) false
    else (s.setZone z r').post (.insideLeft k z)
  else s

/-! ## Guards -/

/-- The shared zones in which *k* has a face. -/
def State.sharedZonesOf (s : State) (k : Crane) : List Zone := (s.zonesOf k).filter s.isShared

/-- Adds *k* to a zone's guard set. -/
def State.guardZone (k : Crane) (s : State) (z : Zone) : State :=
  s.setZone z { s.zone z with guard := addTo k (s.zone z).guard }

/-- Guards the shared zones of *k*, except those declared clear and those it guards already (R55). -/
def State.guardBegin (s : State) (k : Crane) : State :=
  let skipped := (s.sharedZonesOf k).filter (fun z => s.declared[k].contains z)
  let added := (s.sharedZonesOf k).filter
    (fun z => !s.declared[k].contains z && !(s.zone z).guard.contains k)
  if added.isEmpty then s
  else (added.foldl (State.guardZone k) s).emitCrane .guardBegin k added.length skipped.length

/-- Takes *k* out of one zone's guard set, with the pass of a set that empties (R57). -/
def State.unguardZone (k : Crane) (s : State) (z : Zone) : State :=
  let r := s.zone z
  let r' := { r with guard := r.guard.filter (· != k) }
  if r.guard.contains k then s.settle z k r r' r'.guard.isEmpty false else s

/-- The guard-end notice of *k* (R57). R57 gives no order of the zones: that they are taken in ascending zone number,
each with its pass and events before the next, is the model's choice (log 33), and so is the place of GUARD_END after
them (log 8). -/
def State.guardEnd (s : State) (k : Crane) : State :=
  let guarded := allZones.filter (fun z => (s.zone z).guard.contains k)
  if guarded.isEmpty then s
  else (guarded.foldl (State.unguardZone k) s).emitCrane .guardEnd k guarded.length 0

/-! ## DECLARE -/

/-- DECLARE at one zone: *k* loses every place, the zone joins its declared-clear list, and a shared zone receives a
grant pass (R58). -/
def State.declareZone (k : Crane) (s : State) (z : Zone) : State :=
  let r := s.zone z
  let s := s.setDeclared k (addTo z s.declared[k])
  if s.isShared z then s.settle z k r (r.remove k) true false
  else s.setZone z { r with inside := r.inside.filter (· != k), sweep := r.sweep.filter (· != k) }

/-- DECLARE at the zones it names, in ascending number, and the GUARD_END it raises (R58). -/
def State.declareZones (s : State) (k : Crane) (zones : List Zone) : State :=
  let unguarded := zones.filter (fun z => (s.zone z).guard.contains k)
  let s := zones.foldl (State.declareZone k) s
  if unguarded.isEmpty then s else s.emitCrane .guardEnd k unguarded.length 1

/-! ## Sweeps -/

/-- A sweep claim of *k* at a zone (R60, R61). -/
def State.claimZone (k : Crane) (s : State) (z : Zone) : State :=
  let r := s.zone z
  if s.isShared z then s.settle z k r (r.claim k) false false
  else s.setZone z { r with sweep := addTo k r.sweep }

/-- The sweep withdrawal of *k* at one zone (R62). -/
def State.withdrawSweepZone (k : Crane) (s : State) (z : Zone) : State :=
  let r := s.zone z
  let r' := r.withdrawSweep k
  if s.isShared z then s.settle z k r r' (!r.sweep.isEmpty && r'.sweep.isEmpty) false
  else s.setZone z { r with sweep := r.sweep.filter (· != k) }

/-- The sweep withdrawal of *k* at every zone in which it has a face (R62). R62 gives no order of the zones: that they
are taken in ascending zone number is the model's choice (log 33). -/
def State.withdrawSweeps (s : State) (k : Crane) : State := (s.zonesOf k).foldl (State.withdrawSweepZone k) s

/-! ## Reservations -/

/-- A reservation placement (R63). -/
def State.placeReservation (id : Nat) (k : Crane) (s : State) (z : Zone) : State :=
  let r := s.zone z
  let r' := { r with reservation := some { id := id, crane := k, phase := .calling } }
  s.settle z k r r' (r.waiting.contains k && r.holder.isNone && r.sweep.isEmpty && r.guard.isEmpty) true

/-- A phase change to ACTIVE (R64). -/
def State.phaseActive (id : Nat) (s : State) (z : Zone) : State :=
  let r := s.zone z
  match r.reservation with
  | none => s
  | some v =>
    if v.id = id then
      s.settle z v.crane r { r with reservation := some { v with phase := .active } } false (!r.clearFor v.crane)
    else s

/-- A phase change to SUSPENDED: from ACTIVE it frees the claims held back (R64). -/
def State.phaseSuspended (id : Nat) (s : State) (z : Zone) : State :=
  let r := s.zone z
  match r.reservation with
  | none => s
  | some v =>
    if v.id = id then
      let r' := { r with reservation := some { v with phase := .suspended } }
      if v.phase = .active then
        match r.holder with
        | none => s.settle z v.crane r r' true false
        | some j =>
          if r.claims.contains j then s.settle z j r (r'.convert j) false false
          else s.settle z v.crane r r' true false
      else s.setZone z r'
    else s

/-- A reservation removal (R66). -/
def State.removeReservation (id : Nat) (s : State) (z : Zone) : State :=
  let r := s.zone z
  match r.reservation with
  | none => s
  | some v =>
    if v.id = id then s.settle z v.crane r { r with reservation := none } r.holder.isNone false else s

/-! ## Yield marks, clearing -/

/-- The zone gives the mark to its holder *k* (R67). -/
def ZoneRt.yields (r : ZoneRt) (k : Crane) : Bool :=
  r.holder == some k &&
    (!r.waiting.isEmpty || !r.claims.isEmpty ||
      match r.reservation with
      | none => false
      | some v => v.phase == .calling && v.crane != k)

/-- The arbiter has *k* marked as yielding (R67). -/
def State.yielding (s : State) (k : Crane) : Bool := allZones.any (fun z => s.isShared z && (s.zone z).yields k)

/-- Zone runtime is cleared whole (R68). -/
def State.clearZones (s : State) : State :=
  { s with arb := Vector.replicate 32 .empty, declared := Vector.replicate 8 [] }

end Sys2Proof.Machine
end

