-- ==== Sys2Proof/Machine/Reach.lean ====
section
/-! DEFINITION. The Reach Evaluator (02) and the arc tests of the Site Model (R1, R2): windows and spans, face levels,
the zone actions of an evaluation, and what each face contributes to the permit. -/

namespace Sys2Proof.Machine

/-! ## Angles and arcs (R1, R2) -/

/-- x mod 3600 (00, Angles and arcs). -/
def turn (x : Int) : Nat := (x % 3600).toNat

/-- The width of an arc given by a start and an end (R1). -/
def arcWidth (s e : Nat) : Nat := if e = s then 3600 else turn ((e : Int) - s)

/-- The angle lies in the arc that starts at `s` and is `w` wide (R1). -/
def inArc (angle s w : Nat) : Bool := turn ((angle : Int) - s) < w

/-- The arc from `x`, `wx` wide, and the arc from `y`, `wy` wide, overlap (R2). -/
def overlap (x wx y wy : Nat) : Bool := turn ((y : Int) - x) < wx || turn ((x : Int) - y) < wy

/-- Two closed intervals overlap (R26). -/
def meets (a b c d : Int) : Bool := a ≤ d && c ≤ b

/-- Division rounded up (00, Rounding). -/
def ceilDiv (a b : Nat) : Nat := (a + b - 1) / b

/-! ## Latency, windows and spans (R24 to R26) -/

/-- The latency L in milliseconds (R24). -/
def latency (c : CraneRec) (cycle misses age : Nat) : Nat :=
  min 10000 (c.latency + cycle * (1 + misses) + age)

/-- The stop extent of a speed: braking distance, latency run and margin, at most `cap` (R25, R26). -/
def stopExtent (cap speed decel latency margin : Nat) : Nat :=
  min cap (ceilDiv (speed * speed) (2 * decel) + ceilDiv (speed * latency) 1000 + margin)

/-- The slow extent that goes with a stop extent (R25, R26). -/
def slowExtent (cap stop extra : Nat) : Nat := min cap (stop + extra)

/-- The extents an evaluation forms from a report: angles for the two slew directions, distances for the two
trolley directions (R25, R26). -/
structure Extents where
  cwStop : Nat
  cwSlow : Nat
  ccwStop : Nat
  ccwSlow : Nat
  outStop : Nat
  outSlow : Nat
  inStop : Nat
  inSlow : Nat
  deriving DecidableEq, Repr

/-- The extents of a crane's report at latency `lat` (R25, R26). -/
def extents (c : CraneRec) (r : Report) (lat : Nat) : Extents :=
  let cw := stopExtent 1799 r.omega.toNat c.alpha lat c.marginM
  let ccw := stopExtent 1799 (-r.omega).toNat c.alpha lat c.marginM
  let outward := stopExtent 9000 r.speed.toNat c.beta lat c.marginMr
  let inward := stopExtent 9000 (-r.speed).toNat c.beta lat c.marginMr
  { cwStop := cw, cwSlow := slowExtent 1799 cw c.slowMs
    ccwStop := ccw, ccwSlow := slowExtent 1799 ccw c.slowMs
    outStop := outward, outSlow := slowExtent 9000 outward c.slowMrs
    inStop := inward, inSlow := slowExtent 9000 inward c.slowMrs }

/-! ## Face levels (R11, R27 to R32) -/

/-- h < C + n·Mv, always true under a ceiling that stands for any height (R11). -/
def below (h : Int) (b : HookBand) (n mv : Nat) : Bool :=
  b.ceiling == Config.anyHeight || h < b.ceiling + n * mv

/-- REACH when the first holds, otherwise NEAR when the second does, otherwise CLEAR. -/
def levelOf (reach near : Bool) : FaceLevel := if reach then .reach else if near then .near else .clear

/-- θ lies in the face's arc (R27). -/
def Face.holdsAngle (f : Face) (theta : Nat) : Bool := inArc theta f.arcStart (arcWidth f.arcStart f.arcEnd)

/-- The window that starts at `start` and is `extent` + 1 wide overlaps the face's arc (R28). -/
def Face.windowMeets (f : Face) (start extent : Nat) : Bool :=
  overlap start (extent + 1) f.arcStart (arcWidth f.arcStart f.arcEnd)

/-- The hook is plan-inside the face: over its band (R27). -/
def Face.planInside (f : Face) (theta radius : Nat) : Bool :=
  match f.band with
  | none => false
  | some b => f.holdsAngle theta && b.rmin ≤ radius && radius ≤ b.rmax

/-- The hook is low enough for the face (R27); a JIB face asks for no height. -/
def Face.lowEnough (f : Face) (mv : Nat) (h : Int) : Bool :=
  match f.band with
  | none => true
  | some b => below h b 1 mv

/-- The crane is INSIDE the face (R27). -/
def Face.isInside (f : Face) (mv theta radius : Nat) (h : Int) : Bool :=
  match f.band with
  | none => f.holdsAngle theta
  | some _ => f.planInside theta radius && f.lowEnough mv h

/-- The span of a HOOK face's conditions is met; a JIB face has none (R28). -/
def Face.spanMeets (f : Face) (radius inward outward : Nat) : Bool :=
  match f.band with
  | none => true
  | some b => meets ((radius : Int) - inward) (radius + outward) b.rmin b.rmax

/-- A slew level, from the windows' starts and extents in its direction (R28). -/
def Face.slewLevel (f : Face) (mv radius : Nat) (h : Int) (e : Extents)
    (stopStart stopExt slowStart slowExt : Nat) : FaceLevel :=
  levelOf
    (f.windowMeets stopStart stopExt && f.spanMeets radius e.inStop e.outStop && f.lowEnough mv h)
    (f.windowMeets slowStart slowExt && f.spanMeets radius e.inSlow e.outSlow && f.lowEnough mv h)

/-- The OUT level (R29). -/
def Face.outLevel (f : Face) (mv theta radius : Nat) (h : Int) (e : Extents) : FaceLevel :=
  match f.band with
  | none => .clear
  | some b =>
    if f.holdsAngle theta && f.lowEnough mv h && radius < b.rmin then
      levelOf (decide (b.rmin ≤ radius + e.outStop)) (decide (b.rmin ≤ radius + e.outSlow))
    else .clear

/-- The IN level (R29). -/
def Face.inLevel (f : Face) (mv theta radius : Nat) (h : Int) (e : Extents) : FaceLevel :=
  match f.band with
  | none => .clear
  | some b =>
    if f.holdsAngle theta && f.lowEnough mv h && b.rmax < radius then
      levelOf (decide ((radius : Int) - e.inStop ≤ b.rmax)) (decide ((radius : Int) - e.inSlow ≤ b.rmax))
    else .clear

/-- The DOWN level (R30). -/
def Face.downLevel (f : Face) (mv theta radius : Nat) (h : Int) : FaceLevel :=
  match f.band with
  | none => .clear
  | some b =>
    if f.planInside theta radius && !f.isInside mv theta radius h then levelOf (below h b 2 mv) (below h b 3 mv)
    else .clear

/-- The state of one face for a report at radius `radius` (R27 to R31); clear-since is carried in. -/
def Face.state (f : Face) (z : Zone) (mv : Nat) (r : Report) (radius : Nat) (e : Extents)
    (clearSince : Option Moment) : FaceState :=
  { zone := z
    cw := f.slewLevel mv radius r.height e r.theta e.cwStop r.theta e.cwSlow
    ccw := f.slewLevel mv radius r.height e (turn ((r.theta : Int) - e.ccwStop)) e.ccwStop
      (turn ((r.theta : Int) - e.ccwSlow)) e.ccwSlow
    outward := f.outLevel mv r.theta radius r.height e
    inward := f.inLevel mv r.theta radius r.height e
    down := f.downLevel mv r.theta radius r.height
    planInside := f.planInside r.theta radius
    inside := f.isInside mv r.theta radius r.height
    clearSince := clearSince }

/-- The face is CLEAR (R31). -/
def FaceState.isClear (s : FaceState) : Bool :=
  !s.inside && s.cw == .clear && s.ccw == .clear && s.outward == .clear && s.inward == .clear && s.down == .clear

/-- A slew direction. -/
inductive Slew where
  | cw | ccw
  deriving DecidableEq, Repr

/-- The leaving direction of a face at angle θ; a full circle has none (R32). -/
def Face.leaving (f : Face) (theta : Nat) : Option Slew :=
  if f.arcStart = f.arcEnd then none
  else if turn ((f.arcEnd : Int) - theta) ≤ turn ((theta : Int) - f.arcStart) + 1 then some .cw
  else some .ccw

/-! ## The evaluation (R21, R33 to R36) -/

/-- The last report of *k*, when *k* is to be evaluated: ONLINE, a report since ONLINE, not absent (R21). -/
def State.evaluable (s : State) (k : Crane) : Option Report :=
  if (s.line k).link == .online && (s.line k).reportSince && s.worked k then (s.line k).lastReport else none

/-- The extents of *k*'s report as the line and the crane record now stand (R24 to R26). -/
def State.extentsOf (s : State) (k : Crane) (r : Report) : Extents :=
  extents (s.craneRec k) r
    (latency (s.craneRec k) ((s.line k).effCycle.getD 0) (s.line k).missCount r.age)

/-- The radius an evaluation takes: the stored one, at most the present jib length (R23). -/
def State.radiusOf (s : State) (k : Crane) (r : Report) : Nat := min r.radius (s.craneRec k).jib

/-- The clear-since of *k*'s face in a zone as the last evaluation left it (R22). -/
def State.clearSince (s : State) (k : Crane) (z : Zone) : Option Moment :=
  match s.faces[k].find? (fun f => f.zone == z) with
  | none => none
  | some f => f.clearSince

/-- The face states of *k*, one for each of its faces in ascending zone number; in SETUP with no clear-since
(R21, R22, R31). -/
def State.faceStates (s : State) (k : Crane) (r : Report) : List FaceState :=
  allZones.filterMap (fun z =>
    match s.faceIn k z with
    | none => none
    | some (d, f) =>
      some (f.state z d.mv r (s.radiusOf k r) (s.extentsOf k r)
        (if s.mode = .setup then none else s.clearSince k z)))

/-- Writes the clear-since of *k*'s face in a zone. -/
def State.setClearSince (s : State) (k : Crane) (z : Zone) (t : Option Moment) : State :=
  s.setFaces k (s.faces[k].map (fun f => if f.zone = z then { f with clearSince := t } else f))

/-- The inside-set update of a face (R36). -/
def State.postInside (s : State) (k : Crane) (f : FaceState) : State :=
  if f.inside then s.insideAdd f.zone k else s.insideRemove f.zone k

/-- The dwell of a CLEAR face of the zone's normal holder (R35). -/
def State.dwell (s : State) (k : Crane) (f : FaceState) : State :=
  let t := f.clearSince.getD s.msCount
  let s' := s.setClearSince k f.zone (some t)
  if s.params.release ≤ s.since t then s'.releaseZone f.zone k else s'

/-- The actions of one face (R33 to R36): first its inside update, then what R34 and R35 say from *k*'s standing in the
zone. DESIGN CHOICE, unsafe: that standing is read once the inside update has been taken, so a crane that the grant pass of
its own leaving makes the holder begins its dwell in this evaluation (log 35). -/
def State.faceActions (k : Crane) (s : State) (f : FaceState) : State :=
  let s := s.postInside k f
  if s.isShared f.zone then
    if f.isClear then
      let s' := s.withdrawZone f.zone k
      if (s.zone f.zone).holder = some k then s'.dwell k f else s'.setClearSince k f.zone none
    else
      let s' := s.setClearSince k f.zone none
      if s.service[k] = .restricted then s' else s'.requestZone f.zone k
  else s.setClearSince k f.zone none

/-- The guard-end notice of *k*'s first evaluation since ONLINE (R33, R57). -/
def State.firstEvaluation (s : State) (k : Crane) : State :=
  if (s.line k).guardEndDue then (s.modLine k (fun l => { l with guardEndDue := false })).guardEnd k else s

/-- The evaluation of *k* on a report (R21, R33): every face state is written, and in RUN and HOLD the zone actions
follow. -/
def State.evaluate (s : State) (k : Crane) (r : Report) : State :=
  let fs := s.faceStates k r
  let s := s.setFaces k fs
  if s.mode = .setup then s else fs.foldl (State.faceActions k) (s.firstEvaluation k)

/-! ## Contributions to the permit (R37 to R41) -/

/-- STOP < SLOW < FULL. -/
def MotionLevel.lower : MotionLevel → MotionLevel → MotionLevel
  | .stop, _ => .stop
  | _, .stop => .stop
  | .slow, _ => .slow
  | _, .slow => .slow
  | .full, .full => .full

/-- On every motion the lower of two permits' levels. -/
def Permit.lower (p q : Permit) : Permit :=
  { cw := p.cw.lower q.cw, ccw := p.ccw.lower q.ccw, outward := p.outward.lower q.outward,
    inward := p.inward.lower q.inward, up := p.up.lower q.up, down := p.down.lower q.down }

/-- The permit that limits nothing. -/
def Permit.allFull : Permit :=
  { cw := .full, ccw := .full, outward := .full, inward := .full, up := .full, down := .full }

/-- REACH gives STOP, NEAR gives SLOW, CLEAR gives FULL (R38). -/
def FaceLevel.limit : FaceLevel → MotionLevel
  | .reach => .stop
  | .near => .slow
  | .clear => .full

/-- A face's contribution by its levels (R38). -/
def FaceState.byLevels (f : FaceState) : Permit :=
  { cw := f.cw.limit, ccw := f.ccw.limit, outward := f.outward.limit, inward := f.inward.limit, up := .full,
    down := f.down.limit }

/-- STOP on all five zone motions, but SLOW on the leaving slew direction (R39, R40). -/
def ledOut (leaving : Option Slew) : Permit :=
  { cw := if leaving = some .cw then .slow else .stop
    ccw := if leaving = some .ccw then .slow else .stop
    outward := .stop, inward := .stop, up := .full, down := .stop }

/-- The booking holds its openings in force (R106, R118). -/
def BookingState.opens : BookingState → Bool
  | .active | .suspended | .closing => true
  | .booked | .calling | .ended | .cancelled | .lapsed => false

/-- A booking of *k* opens the restricted zone to it (R37, R118). -/
def State.openedTo (s : State) (k : Crane) (z : Zone) : Bool :=
  s.bookings.any (fun b => b.crane == k && b.state.opens && b.opened.contains z)

/-- The contribution of one face of *k* (R37 to R40), read from the arbiter's record as it stands. -/
def State.contribution (s : State) (k : Crane) (r : Report) (fs : FaceState) : Permit :=
  match s.faceIn k fs.zone with
  | none => .allFull
  | some (d, f) =>
    let rt := s.zone fs.zone
    match d.kind with
    | .shared =>
      if rt.sweep.contains k || (rt.holder == some k && !rt.contested) then .allFull
      else if rt.contested && fs.inside then
        ledOut (if rt.mover = some k then f.leaving r.theta else none)
      else fs.byLevels
    | .restricted =>
      if s.openedTo k fs.zone then .allFull
      else if fs.inside then ledOut (f.leaving r.theta)
      else fs.byLevels

/-- The limit the evaluator hands the composer: the lowest of all faces' contributions (R41). -/
def State.faceLimits (s : State) (k : Crane) (r : Report) : Permit :=
  s.faces[k].foldl (fun p fs => p.lower (s.contribution k r fs)) .allFull

end Sys2Proof.Machine
end

