-- ==== Sys2Proof/Machine/Wind.lean ====
section
/-! DEFINITION. The Wind Evaluator (05): samples, the slot close with its steps, and the mast copies. -/

namespace Sys2Proof.Machine

/-! ## Figures -/

/-- The gust: the rounded-up average of the second values held (R94). -/
def WindRec.gust (w : WindRec) : Option Nat :=
  if w.values.isEmpty then none else some (ceilDiv w.values.sum w.values.length)

/-- The mean (R95). -/
def WindRec.mean (w : WindRec) : Option Nat := w.acc.map (· / 256)

/-- The level's place in the rising order CALM, CAUTION, STOP, STORM. -/
def WindLevel.rank : WindLevel → Nat
  | .calm => 0 | .caution => 1 | .stop => 2 | .storm => 3

/-- The level one step down (R98). -/
def WindLevel.lowered : WindLevel → WindLevel
  | .storm => .stop
  | .stop => .caution
  | .caution => .calm
  | .calm => .calm

/-- The hold time in force for a level, in seconds; CALM has none (R98). -/
def SiteParams.holdTime (p : SiteParams) : WindLevel → Nat
  | .storm => p.holdStorm
  | .stop => p.holdStop
  | .caution => p.holdCaution
  | .calm => 0

/-! ## Samples (R89, R90) -/

/-- An own sample: the wind of a valid REPORT with its wind-valid flag set, for a crane worked for (R88, R89). -/
def State.ownSample (s : State) (k : Crane) (speed : Nat) : State :=
  if s.worked k then
    s.setWind k { s.wind[k] with ownSum := s.wind[k].ownSum + speed, ownCount := s.wind[k].ownCount + 1 }
  else s

/-- The crane's own source is stale at once (R89); the record of a crane not worked for stays fresh (R88). -/
def State.ownStale (s : State) (k : Crane) : State :=
  if s.worked k then s.setWind k { s.wind[k] with quiet := 5, ownSum := 0, ownCount := 0 } else s

/-- A mast notice: the state is taken, and a valid reply's speed becomes the latest sample and sets fresh (R90, R163). -/
def State.takeMastNotice (s : State) (m : Mast) (state : MastState) (speed : Option Nat) : State :=
  match speed with
  | none => s.setMastCopy m { s.windMasts[m] with state := state }
  | some v => s.setMastCopy m { state := state, sample := some v, fresh := true }

/-! ## The slot close (R91) -/

/-- The mast is usable as a backup (R90). -/
def State.mastUsable (s : State) (m : Mast) : Bool := s.mastDefined m && s.windMasts[m].state != .missing

/-- The crane's backup mast, if it is usable (R92). -/
def State.usableBackup (s : State) (c : CraneRec) : Option Mast :=
  match c.backup with
  | none => none
  | some m => if s.mastUsable m then some m else none

/-- Step 1: the source of the closing second and quiet seconds after it (R92). -/
def settleSource (w : WindRec) (usable : Bool) : WindSource × Nat :=
  if 1 ≤ w.ownCount then (.own, 0)
  else if w.quiet ≤ 3 then (.own, w.quiet + 1)
  else if usable then (.mast, 5)
  else (.missing, 5)

/-- Step 2: the second value of the closing second, if there is one (R93). -/
def secondValue (w : WindRec) (source : WindSource) (mast : Option MastCopy) : Option Nat :=
  match source, mast with
  | .own, _ => if 1 ≤ w.ownCount then some (w.ownSum / w.ownCount) else w.values.head?
  | .mast, some c => if c.fresh then (match c.sample with | some v => some v | none => w.values.head?)
                     else w.values.head?
  | _, _ => w.values.head?

/-- Step 3: the second values and the accumulator with a new second value (R93, R95). -/
def WindRec.push (w : WindRec) (v : Nat) : WindRec :=
  { w with
    values := (v :: w.values).take 3
    acc := match w.acc with
      | none => some (256 * v)
      | some a => some (a + v - a / 256) }

/-- Step 4: the target level (R96). -/
def WindRec.target (w : WindRec) (c : CraneRec) : WindLevel :=
  match w.gust, w.mean with
  | some g, some m =>
    if c.stormGust ≤ g || c.stormMean ≤ m then .storm
    else if c.stopGust ≤ g || c.stopMean ≤ m then .stop
    else if w.source = .missing then .stop
    else if c.cautionGust ≤ g then .caution
    else .calm
  | _, _ => if w.source = .missing then .stop else .calm

/-- The level may step down at this close (R98). -/
def WindRec.downEligible (w : WindRec) (c : CraneRec) (h : Nat) : Bool :=
  match w.gust, w.mean with
  | some g, some m =>
    match w.level with
    | .storm => g + h < c.stormGust && m + h < c.stormMean
    | .stop => g + h < c.stopGust && m + h < c.stopMean && w.source != .missing
    | .caution => g + h < c.cautionGust
    | .calm => false
  | _, _ => false

/-- Step 5 for an UNSETTLED record (R100). -/
def WindRec.settleUnsettled (w : WindRec) (target : WindLevel) : WindRec :=
  if w.values.length < 3 then
    { w with level := if target = .storm then .storm else w.level, eligible := 0 }
  else { w with level := target, unsettled := false, eligible := 0 }

/-- Step 5 for a settled record: a rise, or down-eligibility and a drop (R97, R98). -/
def WindRec.moveSettled (w : WindRec) (c : CraneRec) (p : SiteParams) (target : WindLevel) : WindRec :=
  if w.level.rank < target.rank then { w with level := target, eligible := 0 }
  else if w.downEligible c p.hysteresis then
    if p.holdTime w.level ≤ w.eligible + 1 then { w with level := w.level.lowered, eligible := 0 }
    else { w with eligible := w.eligible + 1 }
  else { w with eligible := 0 }

/-- Steps 1 to 6 of the close of one record (R91). -/
def WindRec.close (w : WindRec) (c : CraneRec) (p : SiteParams) (backup : Option MastCopy) : WindRec :=
  let (source, quiet) := settleSource w backup.isSome
  let valued := match secondValue w source backup with
    | none => w
    | some v => w.push v
  let sourced := { valued with source := source, quiet := quiet }
  let target := sourced.target c
  let moved := if sourced.unsettled then sourced.settleUnsettled target else sourced.moveSettled c p target
  { moved with ownSum := 0, ownCount := 0 }

/-- Step 7: the events of a close, and the level notice to the scheduler (R91, R102, R103). -/
def State.windEvents (s : State) (k : Crane) (before after : WindRec) : State :=
  let s := if before.source != after.source then
      s.emitCrane .windSource k after.source.code before.source.code else s
  if before.level != after.level then
    (s.emitCrane .windLevel k after.level.code before.level.code).post (.level k after.level)
  else s

/-- The close of crane *k*'s slot; only a crane worked for has one (R88, R91). -/
def State.closeSlot (s : State) (k : Crane) : State :=
  match s.crane k with
  | none => s
  | some c =>
    if c.absent then s
    else
      let before := s.wind[k]
      let after := before.close c s.params ((s.usableBackup c).map (fun m => s.windMasts[m]))
      (s.setWind k after).windEvents k before after

/-- Every mast copy's fresh item is made no (R90). -/
def State.staleMasts (s : State) : State :=
  allMasts.foldl (fun s m => s.setMastCopy m { s.windMasts[m] with fresh := false }) s

/-- One expiry of the Wind Evaluator's timer: every slot is closed, in the order given first (R91; log 6). -/
def State.closeSlots (s : State) (order : List Crane) : State :=
  ((inOrder order allCranes).foldl State.closeSlot s).staleMasts

/-! ## Reading (R104) -/

/-- Seconds of hold remaining (R104). -/
def WindRec.holdRemaining (w : WindRec) (p : SiteParams) : Nat :=
  if w.unsettled then 0 else p.holdTime w.level - w.eligible

/-- The WIND_READ payload (R104, R188). -/
def State.windPayload (s : State) (k : Crane) : List Byte :=
  let w := s.wind[k]
  put2 (w.values.getD 0 0) ++ put2 (w.values.getD 1 0) ++ put2 (w.values.getD 2 0) ++ put1 w.values.length ++
    put2 (w.gust.getD 0) ++ put2 (w.mean.getD 0) ++ put1 w.level.code ++ put1 w.source.code ++ put1 w.quiet ++
    put2 (w.holdRemaining s.params) ++ putFlag w.unsettled

end Sys2Proof.Machine
end

