-- ==== Sys2Proof/Machine/Scheduler.lean ====
section
/-! DEFINITION. The Booking Scheduler (06): the table, admission, reviews, cancelling. -/

namespace Sys2Proof.Machine

/-! ## The table (R105, R106) -/

/-- The booking with this id. -/
def State.booking (s : State) (id : Nat) : Option Booking := s.bookings.find? (fun b => b.id == id)

/-- A terminal state (R106). -/
def BookingState.terminal : BookingState → Bool
  | .ended | .cancelled | .lapsed => true
  | .booked | .calling | .active | .suspended | .closing => false

/-- A state in which the booking's reservations are placed (R106). -/
def BookingState.reserves : BookingState → Bool
  | .calling | .active | .suspended => true
  | .booked | .closing | .ended | .cancelled | .lapsed => false

/-- Puts a record into the table, which is kept in ascending id (log 17). -/
def insertBooking (b : Booking) : List Booking → List Booking
  | [] => [b]
  | c :: rest => if b.id < c.id then b :: c :: rest else c :: insertBooking b rest

/-- Replaces the record with this record's id. -/
def State.putBooking (s : State) (b : Booking) : State :=
  { s with bookings := s.bookings.map (fun c => if c.id = b.id then b else c) }

/-- A change of a booking's state, with its cause; a terminal state takes the site clock as terminal time (R106,
R113 to R120). -/
def State.changeState (s : State) (b : Booking) (state : BookingState) (cause : BookingCause) : State :=
  if state.terminal then
    { (s.putBooking { b with state := state, cause := cause, terminal := some s.clock, termSeq := s.termSeq }) with
      termSeq := s.termSeq + 1 }
  else s.putBooking { b with state := state, cause := cause }

/-- The BOOKING_STATE event of a change (R122). -/
def State.bookingEvent (s : State) (b : Booking) (state : BookingState) (cause : BookingCause) : State :=
  s.emit .bookingState (number b.crane) 0 b.id state.code cause.code

/-- Records a change of state and appends its event (R117). -/
def State.move (s : State) (b : Booking) (state : BookingState) (cause : BookingCause) : State :=
  (s.changeState b state cause).bookingEvent b state cause

/-- The message that removes a booking's reservations, zone by zone in ascending number (R117). -/
def State.dropReservations (s : State) (b : Booking) : State := b.reserved.foldl (State.removeReservation b.id) s

/-- Leaves a state that reserves for one that does not: the change, then the removals (R117). -/
def State.leaveReserving (s : State) (b : Booking) (state : BookingState) (cause : BookingCause) : State :=
  (s.move b state cause).dropReservations b

/-! ## Conditions (R111, R112) -/

/-- The wind level and gust allow the booking (R111). -/
def State.windAllows (s : State) (b : Booking) : Bool :=
  let w := s.wind[b.crane]
  let limit := match b.windLimit with
    | some l => l
    | none => (s.craneRec b.crane).stopGust
  (w.level == .calm || w.level == .caution) &&
    match w.gust with
    | none => false
    | some g => g ≤ limit

/-- The cause of the first call condition that fails, none when all five hold (R111). -/
def State.callFailure (s : State) (b : Booking) : Option BookingCause :=
  if s.mode ≠ .run then some .hold
  else if (s.line b.crane).link ≠ .online then some .link
  else if s.service[b.crane] ≠ .inService then some .service
  else if !s.windAllows b then some .wind
  else none

/-- The booking's reserved zones are clear for it (R112). -/
def State.reservedClear (s : State) (b : Booking) : Bool :=
  b.reserved.all (fun z => (s.zone z).clearFor b.crane)

/-- The booking's crane is in the inside set of an opened zone (R115). -/
def State.overOpened (s : State) (b : Booking) : Bool :=
  b.opened.any (fun z => (s.zone z).inside.contains b.crane)

/-! ## Reviews (R113 to R119) -/

/-- The clock is at or past a moment of the site clock, or is taken to be at the second that wraps (R110). -/
def State.atOrPast (s : State) (wrap : Bool) (t : Nat) : Bool := wrap || t ≤ s.clock

/-- A booking becomes ACTIVE (R114, R116). -/
def State.activate (s : State) (b : Booking) (cause : BookingCause) : State :=
  b.reserved.foldl (State.phaseActive b.id) (s.move b .active cause)

/-- The review of a CALLING booking (R114). -/
def State.reviewCalling (s : State) (wrap : Bool) (b : Booking) : State :=
  if s.atOrPast wrap b.deadline || s.atOrPast wrap b.finish then s.leaveReserving b .lapsed .notClear
  else if (s.callFailure b).isNone && s.reservedClear b then s.activate b .cleared
  else s

/-- A booking is called: the change, the placements, and the rest of the same review (R113, R117). -/
def State.call (s : State) (wrap : Bool) (b : Booking) : State :=
  let s := b.reserved.foldl (State.placeReservation b.id b.crane) (s.move b .calling .called)
  s.reviewCalling wrap { b with state := .calling, cause := .called }

/-- The review of a BOOKED booking (R113). -/
def State.reviewBooked (s : State) (wrap : Bool) (b : Booking) : State :=
  if !s.atOrPast wrap b.start then s
  else if s.atOrPast wrap b.deadline || s.atOrPast wrap b.finish then s.move b .lapsed .noStart
  else if (s.callFailure b).isNone then s.call wrap b
  else s

/-- The booking's time is over (R115 step 1, R116 step 1). -/
def State.finishBooking (s : State) (b : Booking) : State :=
  s.leaveReserving b (if s.overOpened b then .closing else .ended) .finished

/-- The review of an ACTIVE booking (R115). -/
def State.reviewActive (s : State) (wrap : Bool) (b : Booking) : State :=
  if s.atOrPast wrap b.finish then s.finishBooking b
  else match s.callFailure b with
    | none => s
    | some cause => b.reserved.foldl (State.phaseSuspended b.id) (s.move b .suspended cause)

/-- The review of a SUSPENDED booking (R116). -/
def State.reviewSuspended (s : State) (wrap : Bool) (b : Booking) : State :=
  if s.atOrPast wrap b.finish then s.finishBooking b
  else if (s.callFailure b).isNone && s.reservedClear b then s.activate b .resumed
  else s

/-- The review of a CLOSING booking (R119). -/
def State.reviewClosing (s : State) (b : Booking) : State :=
  if s.overOpened b then s else s.move b .ended .left

/-- The review of one booking; none is made while CLOCK_VALID is clear (R110). -/
def State.review (wrap : Bool) (s : State) (id : Nat) : State :=
  if !s.clockValid then s
  else match s.booking id with
    | none => s
    | some b =>
      match b.state with
      | .booked => s.reviewBooked wrap b
      | .calling => s.reviewCalling wrap b
      | .active => s.reviewActive wrap b
      | .suspended => s.reviewSuspended wrap b
      | .closing => s.reviewClosing b
      | .ended | .cancelled | .lapsed => s

/-- Reviews of the bookings that `p` picks, those that `order` names first (R110; log 6). -/
def State.reviewAll (s : State) (wrap : Bool) (order : List Nat) (p : Booking → Bool) : State :=
  (inOrder order ((s.bookings.filter p).map (·.id))).foldl (State.review wrap) s

/-- Reviews of every booking that is not terminal (R110). -/
def State.reviewOpen (s : State) (wrap : Bool) (order : List Nat) : State :=
  s.reviewAll wrap order (fun b => !b.state.terminal)

/-- Reviews of the bookings of a crane (R110). -/
def State.reviewCrane (s : State) (order : List Nat) (k : Crane) : State :=
  s.reviewAll false order (fun b => b.crane == k)

/-! ## Admission (R107 to R109) -/

/-- A BOOK request whose numbers are in range. -/
structure BookRequest where
  crane : Crane
  start : Nat
  finish : Nat
  reserved : List Zone
  opened : List Zone
  windLimit : Option Nat
  label : List Byte
  deriving DecidableEq, Repr

/-- Two intervals share a second (R108). -/
def sharesSecond (a b c d : Nat) : Bool := a < d && c < b

/-- The request clashes with a booking of the table (R108). -/
def BookRequest.clashes (q : BookRequest) (b : Booking) : Bool :=
  !b.state.terminal && sharesSecond b.start b.finish q.start q.finish &&
    (b.crane == q.crane || b.reserved.any (fun z => q.reserved.contains z))

/-- Record `b` is evicted before record `c` (R109). -/
def evictedBefore (b c : Booking) : Bool :=
  let t := b.terminal.getD 0
  let u := c.terminal.getD 0
  t < u || (t == u && b.termSeq < c.termSeq)

/-- The terminal record to evict (R109). -/
def evictee : List Booking → Option Booking
  | [] => none
  | b :: rest =>
    if b.state.terminal then
      match evictee rest with
      | none => some b
      | some c => if evictedBefore c b then some c else some b
    else evictee rest

/-- The id after `id` (R109). -/
def idAfter (id : Nat) : Nat := if id = 65535 then 1 else id + 1

/-- The first id from `id` on that no record holds, within `fuel` further tries (R109). -/
def freeId (l : List Booking) : Nat → Nat → Nat
  | 0, id => id
  | fuel + 1, id => if l.any (fun b => b.id == id) then freeId l fuel (idAfter id) else id

/-- The deadline fixed at admission (R105). -/
def State.deadlineFor (s : State) (start : Nat) : Nat := min (start + s.params.callTimeout) (Config.clockRange - 1)

/-- The record that makes room, when every place is filled (R109 step 1). -/
def State.evicted (s : State) : Option Booking :=
  if s.bookings.length < Config.bookingCapacity then none else evictee s.bookings

/-- The table after the eviction (R109 step 1). -/
def State.afterEviction (s : State) : List Booking :=
  match s.evicted with
  | none => s.bookings
  | some v => s.bookings.filter (fun b => b.id != v.id)

/-- The id the admission gives (R109 step 2). -/
def State.idToGive (s : State) : Nat := freeId s.afterEviction 32 s.nextId

/-- Admission (R109). -/
def State.enterBooking (s : State) (q : BookRequest) : State :=
  let id := s.idToGive
  let b : Booking :=
    { id := id, crane := q.crane, start := q.start, finish := q.finish, reserved := q.reserved, opened := q.opened,
      windLimit := q.windLimit, label := q.label, state := .booked, cause := .admitted,
      deadline := s.deadlineFor q.start, terminal := none, termSeq := 0 }
  { s with bookings := insertBooking b s.afterEviction, nextId := idAfter id }.bookingEvent b .booked .admitted

/-! ## Cancelling (R120, R121) -/

/-- CANCEL of a booking that is not terminal (R120). -/
def State.cancelBooking (s : State) (b : Booking) : State :=
  match b.state with
  | .booked => s.move b .cancelled .cancel
  | .calling => s.leaveReserving b .cancelled .cancel
  | .active | .suspended =>
    s.leaveReserving b (if s.overOpened b then .closing else .cancelled) .cancel
  | .closing => s.move b .cancelled .cancel
  | .ended | .cancelled | .lapsed => s

/-- A booking in progress: CALLING, ACTIVE, SUSPENDED or CLOSING (R121). -/
def BookingState.inProgress : BookingState → Bool
  | .calling | .active | .suspended | .closing => true
  | .booked | .ended | .cancelled | .lapsed => false

/-- Cancels one booking in progress at a SETUP or a RESTART; SETUP appends the event, RESTART none (R121). -/
def State.cancelInProgress (cause : BookingCause) (events : Bool) (s : State) (id : Nat) : State :=
  match s.booking id with
  | none => s
  | some b =>
    if b.state.inProgress then
      if events then s.move b .cancelled cause else s.changeState b .cancelled cause
    else s

/-- Cancels every booking in progress, in ascending id (R121). -/
def State.cancelAll (s : State) (cause : BookingCause) (events : Bool) : State :=
  (s.bookings.map (·.id)).foldl (State.cancelInProgress cause events) s

/-! ## Readings (R123) -/

/-- The BOOKING_READ payload (R123, R188). -/
def Booking.payload (b : Booking) : List Byte :=
  put2 b.id ++ put1 (number b.crane) ++ put4 b.start ++ put4 b.finish ++ putList b.reserved ++ putList b.opened ++
    putFlag b.windLimit.isSome ++ put2 (b.windLimit.getD 0) ++ put1 b.label.length ++ b.label ++
    put1 b.state.code ++ put1 b.cause.code ++ put4 b.deadline ++ putFlag b.terminal.isSome ++
    put4 (b.terminal.getD 0)

/-- A list of bookings in ascending start, equal starts in ascending id (R123). -/
def byStart (l : List Booking) : List Booking :=
  l.foldr (fun b acc => acc.orderedInsert (fun x y => x.start < y.start ∨ (x.start = y.start ∧ x.id ≤ y.id)) b) []

/-- The BOOKING_LIST payload (R123, R188). -/
def State.bookingListPayload (s : State) : List Byte :=
  put1 s.bookings.length ++ ((byStart s.bookings).map (fun b => put2 b.id ++ put1 b.state.code)).flatten

end Sys2Proof.Machine
end

