-- ==== Sys2Proof/Machine/Lines.lean ====
section
/-! DEFINITION. The Crane Line Controllers (07, 08): rates and cycles, exchanges and their judgement, link changes and
the steps of enrolment. -/

namespace Sys2Proof.Machine

/-! ## Rates and the effective cycle (R129, R135) -/

/-- The bit rate of a line rate (R129). -/
def Rate.bits : Rate → Nat
  | .fast => 76800
  | .mid => 19200
  | .slow => 2400

/-- The minimum exchange time T_x (R135). -/
def exchangeTime (rate : Rate) (window : Nat) : Nat := ceilDiv (ceilDiv 473000 rate.bits + window) 10 * 10

/-- The effective cycle (R135). -/
def effectiveCycle (rate : Rate) (c : CraneRec) : Nat := max c.cycle (exchangeTime rate c.window)

/-- The effective cycle of line *k* as it would now be computed; none while the rate is none (R135). -/
def State.cycleNow (s : State) (k : Crane) : Option Nat :=
  (s.line k).rate.map (fun r => effectiveCycle r (s.craneRec k))

/-- Starts or restarts the cycle timer with the effective cycle (R135, R136). -/
def State.startCycle (s : State) (k : Crane) : State :=
  s.modLine k (fun l => { l with effCycle := s.cycleNow k, cycleTimer := some (s.later ((s.cycleNow k).getD 0)) })

/-- CLk_DE is asserted while a frame or the wake pulse is being sent (R126, R144). -/
def Line.de (l : Line) : Bool :=
  (match l.exchange with
    | some x => x.progress == .sending
    | none => false) ||
  (match l.wait with
    | .pulse _ => true
    | _ => false)

/-- The level of CLk_TXD, `i` bit times after what is being sent began: the bits of the frame, back to back; space
throughout the wake pulse; mark at all other times (R126, R127, R144). -/
def Line.txd (l : Line) (i : Nat) : Bool :=
  match l.exchange with
  | some x => if x.progress = .sending then ((x.sent.map lineBits).flatten).getD i true else true
  | none =>
    match l.wait with
    | .pulse _ => false
    | .nothing | .idle _ | .backoff _ | .lost _ => true

/-- The receiver listens: DE is deasserted, and there is a rate to sample at (R126, R129). -/
def Line.listens (l : Line) : Bool := !l.de && l.rate.isSome

/-! ## Fault flags (R134) -/

/-- The flags of both. -/
def Faults.or (a b : Faults) : Faults :=
  { timeout := a.timeout || b.timeout, parity := a.parity || b.parity, framing := a.framing || b.framing,
    check := a.check || b.check, size := a.size || b.size, tag := a.tag || b.tag, range := a.range || b.range }

/-- Some flag is set. -/
def Faults.any (f : Faults) : Bool :=
  f.timeout || f.parity || f.framing || f.check || f.size || f.tag || f.range

/-- The flags in one octet (R188). -/
def Faults.octet (f : Faults) : Nat :=
  f.timeout.toNat + 2 * f.parity.toNat + 4 * f.framing.toNat + 8 * f.check.toNat + 16 * f.size.toNat +
    32 * f.tag.toNat + 64 * f.range.toNat

/-- Sets flags on a line. -/
def State.setFaults (s : State) (k : Crane) (f : Faults) : State :=
  s.modLine k (fun l => { l with faults := l.faults.or f })

/-! ## Link changes (R139) -/

/-- The head text goes back to its first chunk (R86). -/
def rewind : List CabText → List CabText
  | [] => []
  | t :: rest => { t with progress := .first } :: rest

/-- Records a new link state and hands on the notice of R139; leaving ONLINE sends the head text back to its first
chunk (R86). -/
def State.setLink (s : State) (k : Crane) (new : LinkState) : State :=
  let old := (s.line k).link
  (s.modLine k (fun l =>
    { l with link := new, texts := if old = .online ∧ new ≠ .online then rewind l.texts else l.texts })).post
    (.link k old new)

/-- The enrolment record on entry to OFF, ONLINE, LOST or MISMATCH (R143). -/
def Line.clearEnrolment (l : Line) : Line :=
  { l with nextPattern := 0, attempts := 0, readyDeadline := none, wait := .nothing }

/-- Entry to WAKING: the wake pulse begins, tag and rate go; the last report is kept only on LINE_ON (R140, R144,
R145). -/
def State.enterWaking (s : State) (k : Crane) (keepReport : Bool) : State :=
  (s.modLine k (fun l =>
    { l with
      rate := none, tag := 0, effCycle := none, exchange := none, cycleTimer := none, readyDeadline := none
      lastReport := if keepReport then l.lastReport else none
      rx := .fresh
      wait := .pulse (s.later Config.wakePulse) })).setLink k .waking

/-- The code of a LOST cause in LINK_LOST (R155). -/
def lostCode : LinkCause → Nat
  | .misses => 1 | .notReady => 2 | .noIdent => 3 | _ => 0

/-- Entry to LOST (R155). -/
def State.enterLost (s : State) (k : Crane) (cause : LinkCause) : State :=
  ((s.modLine k (fun l =>
      { l.clearEnrolment with
        exchange := none, cycleTimer := none, linkCause := cause
        wait := .lost (s.later Config.lostTime) })).emitCrane .linkLost k (lostCode cause) (s.line k).missCount).setLink
    k .lost

/-- Entry to MISMATCH, with value A of its event 1 for VERSION and 2 for IDENTITY (R156). -/
def State.enterMismatch (s : State) (k : Crane) (cause : LinkCause) (b : Int) : State :=
  ((s.modLine k (fun l =>
      { l.clearEnrolment with exchange := none, cycleTimer := none, linkCause := cause })).emitCrane
    .linkMismatch k (if cause = .version then 1 else 2) b).setLink k .mismatch

/-- Entry to ONLINE with a tag: the events, the notice, and a cycle timer whose first expiry comes at once (R154). -/
def State.enterOnline (s : State) (k : Crane) (tag : Byte) : State :=
  let s := s.modLine k (fun l =>
    { l.clearEnrolment with
      exchange := none, tag := tag, missCount := 0, reportSince := false, guardEndDue := true })
  let rate := (s.line k).rate
  let s := s.emitCrane .linkOnline k (rateCode rate) tag.toNat
  let s := if rate = some .fast then s
    else s.emitCrane .rateChange k (rateCode rate) ((s.line k).effCycle.getD 0)
  let s := s.setLink k .online
  s.modLine k (fun l => { l with effCycle := s.cycleNow k, cycleTimer := some s.msCount })

/-! ## Exchanges (R130 to R132) -/

/-- Begins an exchange: its frame is being sent, and its reply window is the crane's as it stands (R132, R7). DE is
asserted, so the receiver listens afresh once the frame is sent (R126). -/
def State.beginExchange (s : State) (k : Crane) (kind : ExchangeKind) (frame : List Byte) : State :=
  s.modLine k (fun l =>
    { l with
      rx := .fresh
      exchange := some { kind := kind, sent := frame, window := (s.craneRec k).window, progress := .sending } })

/-- Sends a WAKE_CHECK with the next pattern, which then rises by one (R146, R149). -/
def State.sendWakeCheck (s : State) (k : Crane) : State :=
  let p := (s.line k).nextPattern
  (s.beginExchange k (.wakeCheck p) (lineFrame 0x11 0 [Config.protocolVersion, p])).modLine k
    (fun l => { l with nextPattern := p + 1 })

/-- The rate of an attempt of the rate search (R146). -/
def searchRate : Nat → Rate
  | 0 => .fast
  | 1 => .mid
  | _ => .slow

/-- An attempt of the rate search, at the rate its number gives (R146). -/
def State.searchAttempt (s : State) (k : Crane) : State :=
  (s.modLine k (fun l => { l with rate := some (searchRate l.attempts) })).sendWakeCheck k

/-- Entry to RATE_SEARCH (R146). -/
def State.enterRateSearch (s : State) (k : Crane) : State :=
  ((s.setLink k .rateSearch).modLine k
    (fun l => { l with nextPattern := l.tagCounter, attempts := 0, wait := .nothing })).searchAttempt k

/-- Entry to CHECK (R149). -/
def State.enterCheck (s : State) (k : Crane) : State :=
  ((s.setLink k .check).modLine k (fun l => { l with attempts := 0 })).sendWakeCheck k

/-- Sends a READY_Q (R150). -/
def State.sendReadyQ (s : State) (k : Crane) : State := s.beginExchange k .readyQ (lineFrame 0x12 0 [])

/-- Entry to WAITREADY (R150). -/
def State.enterWaitready (s : State) (k : Crane) : State :=
  (((s.setLink k .waitready).startCycle k).modLine k
    (fun l => { l with readyDeadline := some (s.later Config.readyTime) })).sendReadyQ k

/-- The tag after `t`: from 254 back to 1 (R152). -/
def tagAfter (t : Byte) : Byte := if t = 254 then 1 else t + 1

/-- An attempt of TAGGING with the next tag (R152). -/
def State.tagAttempt (s : State) (k : Crane) : State :=
  let t := (s.line k).tagCounter
  (s.beginExchange k (.tagSet t) (lineFrame 0x13 0 [t])).modLine k (fun l => { l with tagCounter := tagAfter t })

/-- Entry to TAGGING (R150, R152). -/
def State.enterTagging (s : State) (k : Crane) : State :=
  ((s.setLink k .tagging).modLine k
    (fun l => { l with cycleTimer := none, readyDeadline := none, attempts := 0 })).tagAttempt k

/-! ## Exchanges that fail (R132, R138, R148, R149, R150, R152) -/

/-- A missed REPORT: the count rises, and at the miss limit the link becomes LOST (R138). -/
def State.countMiss (s : State) (k : Crane) : State :=
  let n := (s.line k).missCount + 1
  let s := s.modLine k (fun l => { l with missCount := n })
  if (s.craneRec k).missLimit ≤ n then s.enterLost k .misses else s

/-- The rate search goes on with the next rate, or backs off (R146, R148). -/
def State.searchFailed (s : State) (k : Crane) : State :=
  let n := (s.line k).attempts + 1
  let s := s.modLine k (fun l => { l with attempts := n })
  if n < Config.searchAttempts then s.searchAttempt k
  else s.modLine k (fun l => { l with rate := none, wait := .backoff (s.later Config.backoff) })

/-- CHECK confirms once more, or returns to WAKING (R149). -/
def State.checkFailed (s : State) (k : Crane) : State :=
  let n := (s.line k).attempts + 1
  let s := s.modLine k (fun l => { l with attempts := n })
  if n < Config.checkAttempts then s.sendWakeCheck k else s.enterWaking k false

/-- TAGGING tries the next tag, or the link becomes LOST (R152). -/
def State.taggingFailed (s : State) (k : Crane) : State :=
  let n := (s.line k).attempts + 1
  let s := s.modLine k (fun l => { l with attempts := n })
  if n < Config.tagAttempts then s.tagAttempt k else s.enterLost k .noIdent

/-- The exchange in flight is over. -/
def State.dropExchange (s : State) (k : Crane) : State := s.modLine k (fun l => { l with exchange := none })

/-- An exchange has ended with its reply invalid or missing: its flags are set, except in RATE_SEARCH (R134), and the
step of the link state that began it goes on. -/
def State.exchangeFailed (s : State) (k : Crane) (f : Faults) : State :=
  let s := s.dropExchange k
  match (s.line k).link with
  | .rateSearch => s.searchFailed k
  | .check => (s.setFaults k f).checkFailed k
  | .waitready => s.setFaults k f
  | .tagging => (s.setFaults k f).taggingFailed k
  | .online => (s.setFaults k f).countMiss k
  | .off | .waking | .lost | .mismatch => s

/-- The flags of a reply that ended without being complete: the one R132 gives, with the parity and framing errors of
its characters (R133). -/
def Exchange.endedFaults (x : Exchange) (f : Faults) : Faults :=
  match x.progress with
  | .receiving _ p fr => f.or { Faults.clear with parity := p, framing := fr }
  | .sending | .waiting _ => f

/-- SIZE alone (R132). -/
def Faults.sizeOnly : Faults := { Faults.clear with size := true }

/-- TIMEOUT alone (R132). -/
def Faults.timeoutOnly : Faults := { Faults.clear with timeout := true }

/-- The exchange in flight, if any, ends with SIZE (R132, R136, R150). -/
def State.endIncomplete (s : State) (k : Crane) : State :=
  match (s.line k).exchange with
  | none => s
  | some x => s.exchangeFailed k (x.endedFaults .sizeOnly)

/-! ## Judging a complete reply (R133) -/

/-- The reply kind, tag and payload length an exchange expects (R130, R131). -/
def ExchangeKind.expects (x : ExchangeKind) (lineTag : Byte) : Byte × Byte × Nat :=
  match x with
  | .wakeCheck _ => (0x91, 0, 2)
  | .readyQ => (0x92, 0, 1)
  | .tagSet t => (0x93, t, 6)
  | .poll _ => (0x94, lineTag, 13)

/-- The flags of the checks on characters, check octet, length, kind and tag of a complete reply (R133). -/
def frameFaults (x : ExchangeKind) (lineTag : Byte) (o : List Byte) (parity framing : Bool) : Faults :=
  let e := x.expects lineTag
  { Faults.clear with
    parity := parity
    framing := framing
    check := o.getLast? != some (checkOctet o.dropLast)
    size := oct o 2 != e.2.2
    tag := o.getD 0 0 != e.1 || o.getD 1 0 != e.2.1 }

/-- The content check of a reply whose frame is good (R133, R147, R150). -/
def contentFails (x : ExchangeKind) (o : List Byte) : Bool :=
  match x with
  | .wakeCheck p => o.getD 4 0 != p
  | .readyQ => 1 < oct o 3
  | .tagSet _ => false
  | .poll _ => 3600 ≤ oct2 o 3

/-- The flags of a complete reply: valid when none is set (R133). -/
def replyFaults (x : ExchangeKind) (lineTag : Byte) (o : List Byte) (parity framing : Bool) : Faults :=
  let f := frameFaults x lineTag o parity framing
  if f.any then f else { f with range := contentFails x o }

/-- A number brought into a range. -/
def clampInt (lo hi x : Int) : Int := max lo (min hi x)

/-- A REPORT's payload as received (R189); `p` is the whole frame, the payload beginning at octet 3. -/
def rawReport (p : List Byte) : Report :=
  { theta := oct2 p 3, omega := int1 p 5, radius := oct2 p 6, speed := int2 p 8, height := int2 p 10,
    wind := oct2 p 12, windValid := (p.getD 14 0).getLsbD 0, age := oct p 15 }

/-- The clamps of R23, with the crane's jib length. -/
def Report.clamped (r : Report) (jib : Nat) : Report :=
  { r with
    omega := clampInt (-100) 100 r.omega
    speed := clampInt (-200) 200 r.speed
    radius := min r.radius jib
    height := clampInt (-5000) 30000 r.height
    wind := min r.wind 600 }

/-- A valid REPORT's acknowledgement of the chunk its POLL carried (R85). -/
def acknowledge (m : ChunkMarker) (l : List CabText) : List CabText :=
  match m, l with
  | .none, l => l
  | _, [] => []
  | .only, _ :: rest => rest
  | .last, _ :: rest => rest
  | .first, t :: rest => { t with progress := .second } :: rest

/-- A valid REPORT is taken (R137). -/
def State.takeReport (s : State) (k : Crane) (m : ChunkMarker) (o : List Byte) : State :=
  let raw := rawReport o
  let r := raw.clamped (s.craneRec k).jib
  let s := s.modLine k (fun l =>
    { l with
      exchange := none, lastReport := some r, reportSince := true, missCount := 0
      texts := acknowledge m l.texts
      faults := if r = raw then l.faults else { l.faults with range := true } })
  if r.windValid then s.ownSample k r.wind else s

/-- An ECHO with the right pattern: good, or of an unsupported version (R147, R148, R149). -/
def State.takeEcho (s : State) (k : Crane) (version : Byte) : State :=
  let s := s.dropExchange k
  if version ≠ Config.protocolVersion then s.enterMismatch k .version version.toNat
  else if (s.line k).link = .check then s.enterWaitready k
  else s.enterCheck k

/-- A valid READY (R150). -/
def State.takeReady (s : State) (k : Crane) (flag : Nat) : State :=
  let s := s.dropExchange k
  if flag = 1 then s.enterTagging k else s

/-- A valid IDENT (R153); value B of a mismatch is 1 for the identity, 2 for the digest, 3 for both (R156). -/
def State.takeIdent (s : State) (k : Crane) (tag : Byte) (o : List Byte) : State :=
  let c := s.craneRec k
  let sameId := oct4 o 3 == c.identity.toNat
  let sameDigest := oct2 o 7 == c.digest.toNat
  if sameId && sameDigest then s.enterOnline k tag
  else s.enterMismatch k .identity ((!sameId).toNat + 2 * (!sameDigest).toNat)

/-- A complete reply is judged (R133). -/
def State.judge (s : State) (k : Crane) (x : ExchangeKind) (o : List Byte) (parity framing : Bool) : State :=
  let f := replyFaults x (s.line k).tag o parity framing
  if f.any then s.exchangeFailed k f
  else match x with
    | .wakeCheck _ => s.takeEcho k (o.getD 3 0)
    | .readyQ => s.takeReady k (oct o 3)
    | .tagSet t => s.takeIdent k t o
    | .poll m => s.takeReport k m o

/-! ## Characters of a reply (R126, R132) -/

/-- The reply is complete: it holds 4 + n octets, n being its third (R132). -/
def replyComplete (o : List Byte) : Bool := 3 ≤ o.length && o.length == 4 + oct o 2

/-- A reply with one more character: it goes on, is judged complete, or overflows the buffer (R132). -/
def State.extendReply (s : State) (k : Crane) (x : Exchange) (o : List Byte) (parity framing : Bool) : State :=
  if replyComplete o then s.judge k x.kind o parity framing
  else if Config.replyBuffer ≤ o.length then
    s.exchangeFailed k { Faults.sizeOnly with parity := parity, framing := framing }
  else s.modLine k (fun l => { l with exchange := some { x with progress := .receiving o parity framing } })

/-- A start bit is accepted on the receiver of line *k*: in an open reply window the reply begins (R132 step 2). -/
def State.replyBegins (s : State) (k : Crane) : State :=
  match (s.line k).exchange with
  | none => s
  | some x =>
    match x.progress with
    | .waiting _ => s.modLine k (fun l => { l with exchange := some { x with progress := .receiving [] false false } })
    | .sending | .receiving _ _ _ => s

/-- A character completes on the receiver of line *k*: it extends the reply, or is discarded (R126, R132). -/
def State.takeChar (s : State) (k : Crane) (c : LineChar) : State :=
  match (s.line k).exchange with
  | none => s
  | some x =>
    match x.progress with
    | .receiving o p f => s.extendReply k x (o ++ [c.octet]) (p || c.parity) (f || c.framing)
    | .sending | .waiting _ => s

/-- What the receiver of line *k* hears is taken (R128, R132). -/
def State.hear (s : State) (k : Crane) : Heard → State
  | .nothing => s
  | .start => s.replyBegins k
  | .character bits => s.takeChar k (lineChar bits)

/-- The receiver of line *k* takes one sample, if it listens (R126, R128). -/
def State.sampleLine (k : Crane) (s : State) (b : Bool) : State :=
  if (s.line k).listens then
    let h := (s.line k).rx.sample Config.lineBits b
    (s.modLine k (fun l => { l with rx := h.1 })).hear k h.2
  else s

/-- The receiver of line *k* takes samples one after another. Characters after the end of the exchange find none in
flight and are discarded, and samples while a new frame is being sent are not taken (R126). -/
def State.sampleLines (s : State) (k : Crane) (x : Samples) : State := x.foldl (State.sampleLine k) s

/-- The kind of frame the exchange in flight on line *k* sent. -/
def State.inFlight (s : State) (k : Crane) : Option ExchangeKind := (s.line k).exchange.map (·.kind)

end Sys2Proof.Machine
end

