-- ==== Sys2Proof/Machine/Permits.lean ====
section
/-! DEFINITION. The Permit Composer (04): the weathervane record at a composition, the permit, the POLL; and the cycle
expiry that ties evaluation, composition and POLL together (R136). -/

namespace Sys2Proof.Machine

/-! ## Weathervaning (R77 to R80) -/

/-- The weathervane condition (R77). -/
def State.vaneCondition (s : State) (k : Crane) : Bool := s.wind[k].level == .storm || s.service[k] == .out

/-- The cause an episode that begins now records (R77). -/
def State.vaneCause (s : State) (k : Crane) : VaneCause :=
  if s.service[k] ≠ .out then .wind else if s.wind[k].level ≠ .storm then .service else .both

/-- The zones of *k* in which it is not a sweep member. -/
def State.unswept (s : State) (k : Crane) : List Zone := (s.zonesOf k).filter (fun z => !(s.zone z).sweep.contains k)

/-- The zones of *k* in which it is a sweep member. -/
def State.swept (s : State) (k : Crane) : List Zone := (s.zonesOf k).filter (fun z => (s.zone z).sweep.contains k)

/-- The composer's claims: one for each zone of *k* in which it neither sweeps nor claims, in ascending zone number
(R78). -/
def State.sendClaims (s : State) (k : Crane) : State :=
  ((s.zonesOf k).filter (fun z => !(s.zone z).sweep.contains k && !(s.zone z).claims.contains k)).foldl
    (State.claimZone k) s

/-- An episode begins if the state is NONE (R77). -/
def State.beginEpisode (s : State) (k : Crane) : State :=
  if s.vane[k].state = .none then
    s.setVane k { state := .pending, pendingSince := some s.msCount, alarm := false, cause := s.vaneCause k }
  else s

/-- The state becomes ACTIVE; from PENDING that is a WEATHERVANE_ON (R78). -/
def State.becomeActive (s : State) (k : Crane) : State :=
  if s.vane[k].state = .active then s
  else
    (s.setVane k { s.vane[k] with state := .active, pendingSince := none }).emitCrane .weathervaneOn k
      (s.swept k).length s.vane[k].cause.code

/-- The state becomes PENDING; from ACTIVE that is a WEATHERVANE_OFF (R78). -/
def State.becomePending (s : State) (k : Crane) : State :=
  if s.vane[k].state = .active then
    (s.setVane k { s.vane[k] with state := .pending, pendingSince := some s.msCount }).emitCrane .weathervaneOff k 0 1
  else s

/-- The alarm of a crane that is still PENDING (R79). -/
def State.vaneAlarm (s : State) (k : Crane) : State :=
  let v := s.vane[k]
  match v.state, v.pendingSince with
  | .pending, some t =>
    if !v.alarm && s.params.sweepAlarm * 1000 ≤ s.since t then
      (s.setVane k { v with alarm := true }).emit .weathervaneBlocked (number k) (numberOr0 (s.unswept k).head?) 0
        (s.unswept k).length ((s.unswept k).filter (fun z => (s.zone z).claims.contains k)).length
    else s
  | _, _ => s

/-- A composition in which the condition holds (R77, R78, R79). -/
def State.vaneHolds (s : State) (k : Crane) : State :=
  let s := s.beginEpisode k
  if s.mode = .setup then s.becomeActive k
  else
    let s := s.sendClaims k
    (if (s.unswept k).isEmpty then s.becomeActive k else s.becomePending k).vaneAlarm k

/-- A composition in which the condition does not hold: an episode ends (R80). -/
def State.vaneEnds (s : State) (k : Crane) : State :=
  let v := s.vane[k]
  if v.state = .none then s
  else
    let s := if s.mode = .setup then s else s.withdrawSweeps k
    (s.setVane k { v with state := .none, pendingSince := none, alarm := false }).emitCrane .weathervaneOff k 1
      (if v.state = .active then 1 else 0)

/-- The weathervane handling of a composition (R77 to R80). -/
def State.weathervane (s : State) (k : Crane) : State :=
  if s.vaneCondition k then s.vaneHolds k else s.vaneEnds k

/-- The record is set to NONE outside a composition (R83). -/
def State.vaneClear (s : State) (k : Crane) : State :=
  let v := s.vane[k]
  if v.state = .none then s.setVane k { v with state := .none, pendingSince := none, alarm := false }
  else
    (s.setVane k { v with state := .none, pendingSince := none, alarm := false }).emitCrane .weathervaneOff k 1
      (if v.state = .active then 1 else 0)

/-! ## The permit (R71 to R73, R75) -/

/-- The mode contribution (R71, R72). -/
def modeLimits (m : Mode) : Permit :=
  match m with
  | .run => .allFull
  | .setup | .hold => .allStop

/-- The report contribution (R71, R72). -/
def reportLimits (since : Bool) : Permit := if since then .allFull else .allStop

/-- STOP on the five zone motions, SLOW on UP: the limits of a crane that is OUT or in STORM (R71). -/
def Permit.outOfUse : Permit :=
  { cw := .stop, ccw := .stop, outward := .stop, inward := .stop, up := .slow, down := .stop }

/-- The service contribution (R71). -/
def serviceLimits : ServiceState → Permit
  | .out => .outOfUse
  | .inService | .restricted => .allFull

/-- The wind contribution (R71, R73). -/
def windLimits : WindLevel → Permit
  | .storm => .outOfUse
  | .stop => { cw := .slow, ccw := .slow, outward := .stop, inward := .full, up := .full, down := .slow }
  | .caution | .calm => .allFull

/-- The faces' contribution: in RUN and HOLD, when an evaluation took place (R71, R72). -/
def State.facesPart (s : State) (k : Crane) (evaluated : Option Report) : Permit :=
  match evaluated with
  | none => .allFull
  | some r => if s.mode = .setup then .allFull else s.faceLimits k r

/-- The permit of a composition: on each motion the lowest contribution (R71). -/
def State.permitFor (s : State) (k : Crane) (evaluated : Option Report) : Permit :=
  (modeLimits s.mode).lower ((reportLimits (s.line k).reportSince).lower ((serviceLimits s.service[k]).lower
    ((windLimits s.wind[k].level).lower (s.facesPart k evaluated))))

/-! ## The rest of the POLL (R76, R85, R189) -/

/-- Among the bookings of *k* that `p` picks, the one with the latest start. -/
def State.latest (s : State) (k : Crane) (p : BookingState → Bool) : Option Booking :=
  (s.bookings.filter (fun b => b.crane == k && p b.state)).foldl
    (fun acc b => match acc with
      | none => some b
      | some c => if c.start < b.start then some b else some c) none

/-- The booking id a POLL carries, 0 for none (R76). -/
def State.pollBooking (s : State) (k : Crane) : Nat :=
  match s.latest k (fun t => t == .active || t == .suspended) with
  | some b => b.id
  | none =>
    match s.latest k (fun t => t == .closing) with
    | some b => b.id
    | none => 0

/-- The text chunk at the head of a queue: serial, marker and characters (R85). -/
def textChunk : List CabText → Byte × ChunkMarker × List Byte
  | [] => (0, .none, [])
  | t :: _ =>
    if t.chars.length ≤ Config.chunkLength then (t.serial, .only, t.chars)
    else match t.progress with
      | .first => (t.serial, .first, t.chars.take Config.chunkLength)
      | .second => (t.serial, .last, t.chars.drop Config.chunkLength)

/-- Octets 1 to 5 of a POLL payload: the levels, the flags, the wind level and the booking id (11, POLL). -/
def SentPermit.octets (p : SentPermit) (marker : ChunkMarker) : List Byte :=
  put1 (p.permit.cw.code + 4 * p.permit.ccw.code + 16 * p.permit.outward.code + 64 * p.permit.inward.code) ++
    put1 (p.permit.up.code + 4 * p.permit.down.code) ++
    put1 (p.weathervane.toNat + 2 * p.yielding.toNat + 4 * p.wind.code + 16 * marker.code) ++
    put2 p.booking

/-- The POLL payload (11, POLL). -/
def pollPayload (p : SentPermit) (chunk : Byte × ChunkMarker × List Byte) : List Byte :=
  p.octets chunk.2.1 ++ [chunk.1] ++ chunk.2.2

/-- What a composition sends beside the text chunk (R70, R76). -/
def State.composed (s : State) (k : Crane) (evaluated : Option Report) : SentPermit :=
  { permit := s.permitFor k evaluated
    weathervane := s.vane[k].state == .active
    yielding := s.yielding k
    wind := s.wind[k].level
    booking := s.pollBooking k }

/-- Keeps the permit as the last one sent, and begins the POLL that carries it (R70, R136 step 4). -/
def State.sendPoll (s : State) (k : Crane) (p : SentPermit) : State :=
  let chunk := textChunk (s.line k).texts
  ({ s with sent := s.sent.set k p }).beginExchange k (.poll chunk.2.1)
    (lineFrame 0x14 (s.line k).tag (pollPayload p chunk))

/-- Steps 3 and 4 of a cycle expiry: evaluation, composition, POLL (R136). -/
def State.evaluateAndPoll (s : State) (k : Crane) : State :=
  let evaluated := s.evaluable k
  let s := match evaluated with
    | none => s
    | some r => s.evaluate k r
  let s := s.weathervane k
  s.sendPoll k (s.composed k evaluated)

/-- A cycle expiry of an ONLINE line: the last exchange is ended; unless that made the link LOST, the timer is
restarted and steps 3 and 4 follow (R136). -/
def State.expireCycle (s : State) (k : Crane) : State :=
  let s := s.endIncomplete k
  if (s.line k).link = .online then (s.startCycle k).evaluateAndPoll k else s

end Sys2Proof.Machine
end

