-- ==== Sys2Proof/Machine/MastLine.lean ====
section
/-! DEFINITION. The Mast Line Controller (09): the scan, the exchange, the judgement of a reply, the mast states. -/

namespace Sys2Proof.Machine

/-- MDE is asserted while the address and request characters are being sent (R158). -/
def MastLine.de (l : MastLine) : Bool :=
  match l.exchange with
  | some x => x.progress == .sending
  | none => false

/-- The bits of the two characters a slot sends for a Defined mast (R160). -/
def mastCall (m : Mast) : List Bool :=
  mastBits (BitVec.ofNat 8 (number m)) true ++ mastBits Config.mastRequest false

/-- The level of MTXD, `i` bit times after the slot's characters began: their bits, back to back; mark at all other
times (R158, R160). -/
def MastLine.txd (l : MastLine) (i : Nat) : Bool :=
  match l.exchange with
  | some x => if x.progress = .sending then (mastCall x.mast).getD i true else true
  | none => true

/-- The denominator 8N + F of the bit rate 3 686 400 / (8N + F) of the divider in use (R159). -/
def MastLine.divider (l : MastLine) : Nat := 8 * l.divN + l.divF

/-- A slot begins: the divider is loaded, and a Defined mast is called; its characters assert DE, so the receiver
listens afresh once they are sent (R160, R158). -/
def State.beginSlot (s : State) (m : Mast) (due : Moment) : State :=
  { s with mastLine :=
    { s.mastLine with
      divN := s.params.divN, divF := s.params.divF, slot := m, slotDue := due
      rx := if s.mastDefined m then .fresh else s.mastLine.rx
      exchange := if s.mastDefined m then some { mast := m, discard := false, progress := .sending } else none } }

/-- The exchange of the slot is over. -/
def State.dropMastExchange (s : State) : State := { s with mastLine := { s.mastLine with exchange := none } }

/-- The speed of a valid reply, silently clamped to 600 (R161). -/
def replySpeed (o : List Byte) : Nat := min (oct2 o 1) 600

/-- The reply is valid: four characters, none with a framing error, the slot's mast, a good check (R161). -/
def replyValid (m : Mast) (o : List Byte) (framing : Bool) : Bool :=
  o.length == 4 && !framing && oct o 0 == number m && o.getD 3 0 == checkOctet (o.take 3)

/-- The record of a mast after an exchange whose result is `result`: the speed of a valid reply, or a miss (R162). -/
def MastRt.after (r : MastRt) (result : Option Nat) : MastRt :=
  match result with
  | some _ => { state := .present, misses := 0 }
  | none =>
    if r.state = .missing then { state := .missing, misses := 3 }
    else if r.misses < 2 then { r with misses := r.misses + 1 }
    else { state := .missing, misses := 3 }

/-- The events of a mast's change of state (R162). -/
def State.mastEvents (s : State) (m : Mast) (before after : MastRt) (result : Option Nat) : State :=
  if before.state = .missing ∧ after.state = .present then
    s.emit .mastBack 0 0 0 (number m) (result.getD 0)
  else if before.state ≠ .missing ∧ after.state = .missing then
    s.emit .mastLost 0 0 0 (number m) before.state.code
  else s

/-- The end of an exchange: unless its result is discarded, the mast's record, its event and the notice to the Wind
Evaluator (R162, R163, R16). -/
def State.endMastExchange (s : State) (x : MastExchange) (result : Option Nat) : State :=
  let s := s.dropMastExchange
  if x.discard then s
  else match s.mastLine.masts[x.mast] with
    | none => s
    | some before =>
      let after := before.after result
      ((s.setMast x.mast (some after)).mastEvents x.mast before after result).post
        (.mast x.mast after.state result)

/-- A character completes on the mast receiver: a data character extends the reply, the fourth ends the exchange;
anything else is discarded (R161). -/
def State.takeMastChar (s : State) (c : LineChar) : State :=
  match s.mastLine.exchange with
  | none => s
  | some x =>
    match x.progress with
    | .sending => s
    | .window due reply framing =>
      if c.tenth then s
      else
        let o := reply ++ [c.octet]
        let f := framing || c.framing
        if 4 ≤ o.length then
          s.endMastExchange x (if replyValid x.mast o f then some (replySpeed o) else none)
        else { s with mastLine := { s.mastLine with exchange := some { x with progress := .window due o f } } }

/-- What the mast receiver hears is taken (R158, R161). -/
def State.hearMast (s : State) : Heard → State
  | .nothing | .start => s
  | .character bits => s.takeMastChar (lineChar bits)

/-- The mast receiver takes one sample, if DE is deasserted (R158). -/
def State.sampleMast (s : State) (b : Bool) : State :=
  if s.mastLine.de then s
  else
    let h := s.mastLine.rx.sample Config.lineBits b
    { s with mastLine := { s.mastLine with rx := h.1 } }.hearMast h.2

/-- The mast receiver takes samples one after another. -/
def State.sampleMasts (s : State) (x : Samples) : State := x.foldl State.sampleMast s

end Sys2Proof.Machine
end

