-- ==== Sys2Proof/Machine/Flags.lean ====
section
/-! DEFINITION. The attention word and the ATTN pin (R183, R184). -/

namespace Sys2Proof.Machine

/-- EVENTS: the event queue holds a record (R173). -/
def State.attnEvents (s : State) : Bool := !s.events.isEmpty

/-- LINE_FAULT: a fault flag of a crane line is set (R134). -/
def State.attnLineFault (s : State) : Bool := allCranes.any (fun k => (s.line k).faults.any)

/-- LINK_DOWN: a Defined, non-absent, enabled crane is not ONLINE (R139). -/
def State.attnLinkDown (s : State) : Bool :=
  allCranes.any (fun k => s.worked k && (s.line k).enabled && (s.line k).link != .online)

/-- CONTESTED: a shared zone is contested (R52). -/
def State.attnContested (s : State) : Bool := allZones.any (fun z => s.isShared z && (s.zone z).contested)

/-- GUARDED: a zone's guard set is not empty (R55). -/
def State.attnGuarded (s : State) : Bool := allZones.any (fun z => !(s.zone z).guard.isEmpty)

/-- WIND_STOP: a crane the Wind Evaluator works for is at STOP or STORM (R102). -/
def State.attnWindStop (s : State) : Bool :=
  allCranes.any (fun k => s.worked k && (s.wind[k].level == .stop || s.wind[k].level == .storm))

/-- WEATHERVANE: a crane's weathervane state is PENDING or ACTIVE (R77). -/
def State.attnWeathervane (s : State) : Bool := allCranes.any (fun k => s.vane[k].state != .none)

/-- BOOKING_ATTN: a booking is CALLING, SUSPENDED or CLOSING (R106). -/
def State.attnBooking (s : State) : Bool :=
  s.bookings.any (fun b => b.state == .calling || b.state == .suspended || b.state == .closing)

/-- MAST_MISSING: a Defined mast is MISSING (R162). -/
def State.attnMastMissing (s : State) : Bool :=
  allMasts.any (fun m => match s.mastLine.masts[m] with | none => false | some r => r.state == .missing)

/-- The attention bits, bit 0 first (R183). -/
def State.attnBits (s : State) : List Bool :=
  [s.attnEvents, s.overflow, s.port.discard, s.attnLineFault, s.attnLinkDown, s.attnContested, s.attnGuarded,
    s.attnWindStop, s.attnWeathervane, s.attnBooking, s.attnMastMissing, !s.clockValid]

/-- The number whose bits these are, bit 0 first. -/
def bitsToNat (l : List Bool) : Nat := l.foldr (fun b acc => b.toNat + 2 * acc) 0

/-- The attention word (R183). -/
def State.attn (s : State) : BitVec 16 := BitVec.ofNat 16 (bitsToNat s.attnBits)

/-- The ATTN pin (R184). -/
def State.attnPin (s : State) : Bool := (s.attn &&& s.port.mask) != 0

end Sys2Proof.Machine
end

