-- ==== Sys2Proof/Machine/Port.lean ====
section
/-! DEFINITION. The Supervisor Port (11): the frame assembler, taking a request, forming a reply, sending it, and the
restart that follows a RESTART reply (R169). -/

namespace Sys2Proof.Machine

/-- Updates the port. -/
def State.modPort (s : State) (f : Port → Port) : State := { s with port := f s.port }

/-! ## The frame assembler (R176 to R178) -/

/-- The frame being received is discarded: DISCARD is set and the assembler hunts (R176). -/
def Port.discardFrame (p : Port) : Port := { p with asm := .hunt, discard := true }

/-- A complete frame with its two CRC octets is judged: queued if the CRC is good and the queue has room, discarded
otherwise (R177, R178). -/
def Port.frameDone (p : Port) (len : Byte) (octets : List Byte) (high low : Byte) : Port :=
  if put2 (crc (len :: octets)).toNat == [high, low] then
    match octets with
    | typ :: seq :: payload =>
      if p.requests.length < Config.requestCapacity then
        { p with asm := .hunt, requests := p.requests ++ [{ typ := typ, seq := seq, payload := payload }] }
      else p.discardFrame
    | _ => p.discardFrame
  else p.discardFrame

/-- An octet received on RX (R176). -/
def Port.octet (p : Port) (c : PortChar) : Port :=
  match p.asm with
  | .hunt => if c.octet = Config.sof ∧ c.framing = false then { p with asm := .length } else p
  | .length =>
    if c.framing then p.discardFrame
    else if 2 ≤ c.octet.toNat ∧ c.octet.toNat ≤ 250 then { p with asm := .body c.octet [] }
    else p.discardFrame
  | .body len o =>
    if c.framing then p.discardFrame
    else if len.toNat ≤ o.length + 1 then { p with asm := .crc len (o ++ [c.octet]) none }
    else { p with asm := .body len (o ++ [c.octet]) }
  | .crc len o none => if c.framing then p.discardFrame else { p with asm := .crc len o (some c.octet) }
  | .crc len o (some high) => if c.framing then p.discardFrame else p.frameDone len o high c.octet

/-- What the receiver on RX hears is taken (R175, R176). -/
def Port.hear (p : Port) : Heard → Port
  | .nothing | .start => p
  | .character bits => p.octet (portChar bits)

/-- The receiver on RX takes one sample (R175). -/
def Port.sample (p : Port) (b : Bool) : Port :=
  let h := p.rx.sample Config.portBits b
  { p with rx := h.1 }.hear h.2

/-- The receiver on RX takes samples one after another (R175). -/
def Port.take (p : Port) (x : Samples) : Port := x.foldl Port.sample p

/-- The gap between two octets of a frame has run too long. Outside a frame there is no gap to time, and none runs
while an octet is being received (R176). -/
def Port.gap (p : Port) : Port := if p.asm = .hunt ∨ p.rx.inCharacter = true then p else p.discardFrame

/-! ## Taking a request (R178, R179) -/

/-- The port takes this frame now: no RESTART has been taken, the reply queue has room, and the frame is the oldest of
the request queue; or the request queue is empty and the assembler idle, and the frame arrives whole and is taken at
once (log 3). -/
def Port.canTake (p : Port) (f : Frame) : Bool :=
  !p.restartTaken && p.replies.length < Config.replyCapacity &&
    match p.requests with
    | [] => p.asm == .hunt && f.payload.length ≤ Config.maxPayload
    | g :: _ => g == f

/-- What a block answers: the state after the request, the reply code, and the payload of a DONE reply. -/
structure Answer where
  state : State
  code : ReplyCode
  payload : List Byte
  deriving DecidableEq, Repr

/-- The request is refused: nothing has changed, and the reply carries the header alone (R180). -/
def State.refuse (s : State) (code : ReplyCode) : Answer := { state := s, code := code, payload := [] }

/-- The request is applied: DONE with a payload. -/
def State.done (s : State) (payload : List Byte) : Answer := { state := s, code := .done, payload := payload }

/-- The reply type of a request type (R180). -/
def replyType (typ : Byte) : Byte := if typ.toNat < 0x80 then typ + 0x80 else 0xFF

/-- The reply to a frame, its header formed from the state as the owner has left it (R180). -/
def State.replyTo (s : State) (f : Frame) (code : ReplyCode) (payload : List Byte) : Reply :=
  { typ := replyType f.typ, seq := f.seq, code := code, mode := s.mode, attn := s.attn, tag := s.tag,
    payload := payload }

/-- Forms the reply, which clears DISCARD, and appends it to the reply queue (R178, R180). -/
def State.reply (s : State) (f : Frame) (code : ReplyCode) (payload : List Byte) : State :=
  s.modPort (fun p => { p with discard := false, replies := p.replies ++ [s.replyTo f code payload] })

/-- Takes a frame: it leaves the request queue, `own` checks and applies it, and the reply is formed (R178). A frame
the port does not take now leaves everything as it is (log 2). -/
def State.serve (s : State) (f : Frame) (own : State → Answer) : State :=
  if s.port.canTake f then
    let a := own (s.modPort (fun p => { p with requests := p.requests.tail }))
    a.state.reply f a.code a.payload
  else s

/-- A request whose payload has a fixed length (R179). -/
def withLength (n : Nat) (payload : List Byte) (own : State → Answer) (s : State) : Answer :=
  if payload.length = n then own s else s.refuse .badLength

/-! ## Sending a reply (R180, R181) -/

/-- The six header octets of a reply (11, Reply header). -/
def Reply.header (r : Reply) : List Byte :=
  put1 r.code.code ++ put1 r.mode.code ++ put2 r.attn.toNat ++ put2 r.tag.toNat

/-- The octets a reply puts on TX (11, Frames). -/
def Reply.frame (r : Reply) : List Byte := portFrame (r.typ :: r.seq :: (r.header ++ r.payload))

/-- The bits of the frame in flight on TX, back to back: those of the oldest reply; none between frames (R175, R181). -/
def Port.txBits (p : Port) : List Bool :=
  if p.sending then
    match p.replies with
    | [] => []
    | r :: _ => (r.frame.map portBits).flatten
  else []

/-- The level of TX, `i` bit times after the frame in flight began; mark after its end and between frames (R175). -/
def Port.tx (p : Port) (i : Nat) : Bool := p.txBits.getD i true

/-- A reply is due: the transmitter samples READY, and begins the oldest reply if READY is asserted and it is not
sending one (R181). -/
def Port.begin (p : Port) (ready : Bool) : Port :=
  { p with ready := ready, sending := p.sending || (ready && !p.replies.isEmpty) }

/-! ## The restart (R169) -/

/-- A crane line controller after a RESTART (R142, R143, R84). -/
def Line.restarted (l : Line) (pulseEnd : Moment) : Line :=
  { Line.powerOn with
    enabled := l.enabled, link := if l.enabled then .waking else .off, tagCounter := l.tagCounter,
    wait := if l.enabled then .pulse pulseEnd else .nothing, nextSerial := l.nextSerial }

/-- Every crane line restarts (R142). -/
def State.restartLines (s : State) : State :=
  allCranes.foldl (fun s k => s.modLine k (fun l => l.restarted (s.later Config.wakePulse))) s

/-- Every Defined mast becomes UNKNOWN with no misses (R164). -/
def State.restartMasts (s : State) : State :=
  allMasts.foldl (fun s m => s.setMast m ((s.mastLine.masts[m]).map (fun _ => MastRt.unknown))) s

/-- The restart: every block at once, no notices (R169). -/
def State.restart (s : State) : State :=
  let old := s.mode
  let s := s.cancelAll .restart false
  let s :=
    { s with
      mode := .setup, msCount := 0, notices := [], events := [], overflow := false
      faces := Vector.replicate 8 [], sent := Vector.replicate 8 .initial, vane := Vector.replicate 8 .initial
      wind := Vector.replicate 8 .fresh, windMasts := Vector.replicate 4 .unknown
      windDue := BitVec.ofNat 32 Config.second, clockDue := BitVec.ofNat 32 Config.second }
  let s := s.clearZones.restartLines.restartMasts
  let s := s.beginSlot 0 (BitVec.ofNat 32 Config.mastSlot)
  let s := s.modPort (fun p =>
    { p with asm := .hunt, requests := [], replies := [], sending := false, restartTaken := false, discard := false })
  s.emit .restart 0 0 0 old.code 0

/-- The last octet of the reply being sent has been sent: it leaves the queue, and after the RESTART reply, the last
one to be formed, the restart is made (R169, R181, R182). -/
def State.replySent (s : State) : State :=
  if s.port.sending then
    let s := s.modPort (fun p => { p with sending := false, replies := p.replies.tail })
    if s.port.restartTaken && s.port.replies.isEmpty then s.restart else s
  else s

end Sys2Proof.Machine
end

