-- ==== Sys2Proof/Machine/PortCommands.lean ====
section
/-! DEFINITION. The commands of the part and of its supervisor port: POWER_ON, SUPERVISOR_OCTET, FRAME_GAP_TIMEOUT,
UNKNOWN_TYPE, REPLY_SEND, REPLY_SENT. -/

namespace Sys2Proof.Machine

/-- What every meaning answers. -/
abbrev Result := Host.Outcome State Fault Refusal

/-- POWER_ON: every block starts afresh (R20 and the rules that give each block's values after power-on). -/
def execPowerOn (s : State) : Result := .next { State.reset with pending := s.pending }

/-- SUPERVISOR_OCTET (R175 to R178). -/
def execSupervisorOctet (x : Samples) (s : State) : Result := .next (s.modPort (fun p => p.take x))

/-- FRAME_GAP_TIMEOUT (R176). -/
def execFrameGapTimeout (s : State) : Result := .next (s.modPort Port.gap)

/-- UNKNOWN_TYPE: only a frame whose type is no request type is answered so (R179, R180). -/
def execUnknownType (typ seq : Byte) (payload : List Byte) (s : State) : Result :=
  .next (if requestTypes.contains typ then s
    else s.serve { typ := typ, seq := seq, payload := payload } (fun s => s.refuse .unknownType))

/-- REPLY_SEND (R181). -/
def execReplySend (ready : Bool) (s : State) : Result := .next (s.modPort (fun p => p.begin ready))

/-- REPLY_SENT (R181, R169). -/
def execReplySent (s : State) : Result := .next s.replySent

end Sys2Proof.Machine
end

