-- ==== Sys2Proof/Machine/SiteRequests.lean ====
section
/-! DEFINITION. The site requests: STATUS, START, HOLD, RESUME, SETUP, RESTART, CLOCK, TAG, ATTN_MASK. -/

namespace Sys2Proof.Machine

/-! ## What they do -/

/-- Changes the mode and appends MODE_CHANGE (R165). -/
def State.setMode (s : State) (new : Mode) : State :=
  { s with mode := new }.emit .modeChange 0 0 0 new.code s.mode.code

/-- A crane's seven octets in STATUS (R185). -/
def State.statusCrane (s : State) (k : Crane) : List Byte :=
  putFlag (s.crane k).isSome ++ putFlag ((s.crane k).map (·.absent) == some true) ++ putFlag (s.line k).enabled ++
    put1 (s.line k).link.code ++ put1 s.service[k].code ++ put1 s.wind[k].level.code ++ put1 s.vane[k].state.code

/-- A mast's three octets in STATUS (R185). -/
def State.statusMast (s : State) (m : Mast) : List Byte :=
  match s.mastLine.masts[m] with
  | none => putFlag false ++ put1 0 ++ put1 0
  | some r => putFlag true ++ put1 r.state.code ++ put1 r.misses

/-- The STATUS payload (R185, R188). -/
def State.statusPayload (s : State) : List Byte :=
  put4 s.clock ++ putFlag s.clockValid ++ put2 s.port.mask.toNat ++ put1 s.events.length ++ putFlag s.overflow ++
    put1 s.bookings.length ++ (allCranes.map s.statusCrane).flatten ++ (allMasts.map s.statusMast).flatten

/-- Guards a crane at START if its link is not ONLINE (R56). -/
def State.guardAtStart (s : State) (k : Crane) : State :=
  if s.worked k && (s.line k).link != .online then s.guardBegin k else s

/-- START (R166). -/
def State.startRequest (s : State) : Answer :=
  if s.mode ≠ .setup then s.refuse .refusedMode
  else if !s.clockValid || !allCranes.any s.worked then s.refuse .refusedState
  else (allCranes.foldl State.guardAtStart (s.setMode .run).clearZones).done []

/-- HOLD (R167). -/
def State.holdRequest (s : State) : Answer :=
  if s.mode ≠ .run then s.refuse .refusedMode else ((s.setMode .hold).post .mode).done []

/-- RESUME (R167). -/
def State.resumeRequest (s : State) : Answer :=
  if s.mode ≠ .hold then s.refuse .refusedMode else ((s.setMode .run).post .mode).done []

/-- What entering SETUP does (R168). -/
def State.enterSetup (s : State) : State :=
  { (((s.setMode .setup).clearZones).cancelAll .setup true) with faces := Vector.replicate 8 [] }

/-- SETUP (R168). -/
def State.setupRequest (s : State) : Answer :=
  if s.mode = .setup then s.refuse .refusedMode else s.enterSetup.done []

/-- RESTART: taken in every mode; no further request is taken (R169). -/
def State.restartRequest (s : State) : Answer := (s.modPort (fun p => { p with restartTaken := true })).done []

/-- The change of a CLOCK is small enough for RUN and HOLD (R171). -/
def trimmed (old new : Nat) : Bool := new ≤ old + Config.clockTrim && old ≤ new + Config.clockTrim

/-- Sets the clock (R171). -/
def State.setClock (s : State) (t : Nat) : State :=
  let s' := { s with clock := t, clockValid := true }.emit .clockSet 0 0 0 s.clockValid.toNat
    (clampInt (-2147483648) 2147483647 ((t : Int) - s.clock))
  if t = s.clock then s' else s'.post .clock

/-- CLOCK (R171). -/
def State.clockRequest (s : State) (t : Nat) : Answer :=
  if s.mode ≠ .setup ∧ trimmed s.clock t = false then s.refuse .refusedMode else (s.setClock t).done []

/-- TAG (R19, R3). -/
def State.tagRequest (s : State) (t : BitVec 16) : Answer :=
  if s.mode ≠ .setup then s.refuse .refusedMode else { s with tag := t }.done []

/-- ATTN_MASK (R184). -/
def State.maskRequest (s : State) (m : BitVec 16) : Answer :=
  (s.modPort (fun p => { p with mask := m })).done (put2 s.port.mask.toNat)

/-! ## The commands -/

/-- STATUS (R185). -/
def execStatus (seq : Byte) (payload : List Byte) (s : State) : Result :=
  .next (s.serve { typ := 0x01, seq := seq, payload := payload }
    (withLength 0 payload (fun s => s.done s.statusPayload)))

/-- START (R166). -/
def execStart (seq : Byte) (payload : List Byte) (s : State) : Result :=
  .next (s.serve { typ := 0x02, seq := seq, payload := payload } (withLength 0 payload State.startRequest))

/-- HOLD (R167). -/
def execHold (seq : Byte) (payload : List Byte) (s : State) : Result :=
  .next (s.serve { typ := 0x03, seq := seq, payload := payload } (withLength 0 payload State.holdRequest))

/-- RESUME (R167). -/
def execResume (seq : Byte) (payload : List Byte) (s : State) : Result :=
  .next (s.serve { typ := 0x04, seq := seq, payload := payload } (withLength 0 payload State.resumeRequest))

/-- SETUP (R168). -/
def execSetup (seq : Byte) (payload : List Byte) (s : State) : Result :=
  .next (s.serve { typ := 0x05, seq := seq, payload := payload } (withLength 0 payload State.setupRequest))

/-- RESTART (R169). -/
def execRestart (seq : Byte) (payload : List Byte) (s : State) : Result :=
  .next (s.serve { typ := 0x06, seq := seq, payload := payload } (withLength 0 payload State.restartRequest))

/-- CLOCK (R171). -/
def execClock (seq : Byte) (payload : List Byte) (s : State) : Result :=
  .next (s.serve { typ := 0x07, seq := seq, payload := payload }
    (withLength 4 payload (fun s => s.clockRequest (oct4 payload 0))))

/-- TAG (R19). -/
def execTag (seq : Byte) (payload : List Byte) (s : State) : Result :=
  .next (s.serve { typ := 0x08, seq := seq, payload := payload }
    (withLength 2 payload (fun s => s.tagRequest (BitVec.ofNat 16 (oct2 payload 0)))))

/-- ATTN_MASK (R184). -/
def execAttnMask (seq : Byte) (payload : List Byte) (s : State) : Result :=
  .next (s.serve { typ := 0x09, seq := seq, payload := payload }
    (withLength 2 payload (fun s => s.maskRequest (BitVec.ofNat 16 (oct2 payload 0)))))

end Sys2Proof.Machine
end

