-- ==== Sys2Proof/Machine/ConfigRequests.lean ====
section
/-! DEFINITION. The configuration requests (01): CRANE_DEF, CRANE_CLEAR, CRANE_READ, ZONE_DEF, ZONE_DEL, ZONE_READ,
MAST_DEF, SITE_DEF, SITE_READ. Each is checked whole, in the order of R3, before anything is written. -/

namespace Sys2Proof.Machine

/-- A configuration request is taken only in SETUP (R3). -/
def inSetup (own : State → Answer) (s : State) : Answer :=
  if s.mode ≠ .setup then s.refuse .refusedMode else own s

/-- `lo` ≤ n ≤ `hi`. -/
def within (lo hi n : Nat) : Bool := lo ≤ n && n ≤ hi

/-- A field with a default, which 0 stands for (R4). -/
def orDefault (default n : Nat) : Nat := if n = 0 then default else n

/-- A mast number with 0 for none (R4). -/
def backupOf : Nat → Option (Option Mast)
  | 0 => some none
  | n => (pick n).map some

/-! ## Crane records -/

/-- Every number of a crane record is in its range, and the thresholds rise strictly (R4, R5). -/
def CraneRec.inRange (c : CraneRec) : Bool :=
  within 1000 9000 c.jib && within 1 100 c.alpha && within 1 200 c.beta && within 0 2000 c.latency &&
    within 0 300 c.marginM && within 0 600 c.slowMs && within 0 500 c.marginMr && within 0 1000 c.slowMrs &&
    within 50 1000 c.cycle && c.cycle % 10 == 0 && within 5 50 c.window && within 1 8 c.missLimit &&
    within 0 600 c.cautionGust && within 0 600 c.stopGust && within 0 600 c.stormGust &&
    within 0 600 c.stopMean && within 0 600 c.stormMean &&
    c.cautionGust < c.stopGust && c.stopGust < c.stormGust && c.stopMean < c.stormMean

/-- The record a CRANE_DEF payload carries, with defaults filled in; none when a number is out of range (R4, R5,
R179). -/
def craneDefOf (p : List Byte) : Option (Crane × CraneRec) :=
  match pick (oct p 0), backupOf (oct p 35) with
  | some k, some backup =>
    let c : CraneRec :=
      { identity := BitVec.ofNat 32 (oct4 p 1), digest := BitVec.ofNat 16 (oct2 p 5), jib := oct2 p 7
        alpha := oct p 9, beta := oct p 10, latency := oct2 p 11, marginM := oct2 p 13, slowMs := oct2 p 15
        marginMr := oct2 p 17, slowMrs := oct2 p 19, cycle := orDefault 100 (oct2 p 21)
        window := orDefault 20 (oct p 23), missLimit := orDefault 3 (oct p 24), cautionGust := oct2 p 25
        stopGust := oct2 p 27, stormGust := oct2 p 29, stopMean := oct2 p 31, stormMean := oct2 p 33
        backup := backup, absent := oct p 36 == 1 }
    if c.inRange && oct p 36 ≤ 1 then some (k, c) else none
  | _, _ => none

/-- The crane has a HOOK face that reaches beyond `jib` (R6). -/
def State.faceBeyond (s : State) (k : Crane) (jib : Nat) : Bool :=
  allZones.any (fun z => match s.faceIn k z with
    | none => false
    | some (_, f) => match f.band with
      | none => false
      | some b => jib < b.rmax)

/-- A crane's wind record is made fresh when the crane begins or ceases to be one the evaluator works for (R87). -/
def State.freshenWind (s : State) (k : Crane) (wasWorked : Bool) : State :=
  if wasWorked = s.worked k then s else s.setWind k .fresh

/-- Applies a CRANE_DEF (R7, R83, R87). -/
def State.applyCrane (s : State) (k : Crane) (c : CraneRec) : State :=
  let wasWorked := s.worked k
  let wasDefined := (s.crane k).isSome
  let s := (s.setCrane k (some c)).freshenWind k wasWorked
  let s := if wasDefined && c.absent then s.vaneClear k else s
  if (s.line k).link = .mismatch then s.enterWaking k false else s

/-- CRANE_DEF once its numbers are in range (R6, R7). -/
def State.craneDefRequest (s : State) (k : Crane) (c : CraneRec) : Answer :=
  if (match c.backup with | none => false | some m => !s.mastDefined m) then s.refuse .refusedRef
  else if (s.crane k).isSome && (s.line k).link != .off && c.absent then s.refuse .refusedState
  else if s.faceBeyond k c.jib then s.refuse .refusedInUse
  else (s.applyCrane k c).done []

/-- Empties a crane's text queue (R84). -/
def State.clearTexts (s : State) (k : Crane) : State := s.modLine k (fun l => { l with texts := [] })

/-- Applies a CRANE_CLEAR (R9, R74, R83, R84, R87). -/
def State.applyClear (s : State) (k : Crane) : State :=
  (({ s.setCrane k none with service := s.service.set k .inService }.clearTexts k).setWind k .fresh).vaneClear k

/-- CRANE_CLEAR (R9). -/
def State.craneClearRequest (s : State) (k : Crane) : Answer :=
  if (s.crane k).isNone then s.refuse .refusedRef
  else if (s.line k).link ≠ .off then s.refuse .refusedState
  else if !(s.zonesOf k).isEmpty || s.bookings.any (fun b => b.crane == k && !b.state.terminal) then
    s.refuse .refusedInUse
  else (s.applyClear k).done []

/-- The 37 octets of a crane record (R188). -/
def CraneRec.payload (c : CraneRec) (k : Crane) : List Byte :=
  put1 (number k) ++ put4 c.identity.toNat ++ put2 c.digest.toNat ++ put2 c.jib ++ put1 c.alpha ++ put1 c.beta ++
    put2 c.latency ++ put2 c.marginM ++ put2 c.slowMs ++ put2 c.marginMr ++ put2 c.slowMrs ++ put2 c.cycle ++
    put1 c.window ++ put1 c.missLimit ++ put2 c.cautionGust ++ put2 c.stopGust ++ put2 c.stormGust ++
    put2 c.stopMean ++ put2 c.stormMean ++ put1 (numberOr0 c.backup) ++ putFlag c.absent

/-- A request that names a crane by one octet; REFUSED_RANGE outside 1 to 8. -/
def withCrane (n : Nat) (own : Crane → State → Answer) (s : State) : Answer :=
  match pick n with
  | none => s.refuse .refusedRange
  | some k => own k s

/-- A request that names a zone by one octet; REFUSED_RANGE outside 1 to 32. -/
def withZone (n : Nat) (own : Zone → State → Answer) (s : State) : Answer :=
  match pick n with
  | none => s.refuse .refusedRange
  | some z => own z s

/-- CRANE_READ (R186). -/
def State.craneReadRequest (s : State) (k : Crane) : Answer :=
  match s.crane k with
  | none => s.refuse .refusedRef
  | some c => s.done (c.payload k)

/-! ## Zones -/

/-- A face as ZONE_DEF carries it, beginning at octet `i`; none when a number is out of range (R10, R12, R179). -/
def faceOf (p : List Byte) (i : Nat) : Option Face :=
  match pick (oct p i) with
  | none => none
  | some k =>
    let arcOk := oct2 p (i + 2) ≤ 3599 && oct2 p (i + 4) ≤ 3599
    let b : HookBand := { rmin := oct2 p (i + 6), rmax := oct2 p (i + 8), ceiling := int2 p (i + 10) }
    let bandOk := b.rmin ≤ b.rmax && b.rmax ≤ 9000 && -5000 ≤ b.ceiling && b.ceiling ≤ 30000
    let face : Face :=
      { crane := k, arcStart := oct2 p (i + 2), arcEnd := oct2 p (i + 4)
        band := if oct p (i + 1) = 1 then some b else none }
    if !arcOk then none
    else if oct p (i + 1) = 0 || (oct p (i + 1) = 1 && bandOk) then some face
    else none

/-- Every member of a list of options, or none if one is missing. -/
def allSome {α : Type} : List (Option α) → Option (List α)
  | [] => some []
  | none :: _ => none
  | some a :: rest => (allSome rest).map (a :: ·)

/-- The faces of a ZONE_DEF in ascending crane number (R10). -/
def sortFaces (l : List Face) : List Face :=
  l.foldr (fun f acc => acc.orderedInsert (fun x y => x.crane ≤ y.crane) f) []

/-- The number of faces a zone of this kind may list (R10, R12). -/
def faceCountOk (kind : ZoneKind) (n : Nat) : Bool :=
  match kind with
  | .shared => within 2 4 n
  | .restricted => within 1 8 n

/-- The zone kind of a code. -/
def kindOf : Nat → Option ZoneKind
  | 0 => some .shared
  | 1 => some .restricted
  | _ => none

/-- The definition a ZONE_DEF payload carries; none when a number is out of range or the request is inconsistent in
itself (R12). -/
def zoneDefOf (p : List Byte) : Option (Zone × ZoneDef) :=
  match pick (oct p 0), kindOf (oct p 1), allSome ((List.range (oct p 4)).map (fun i => faceOf p (5 + 12 * i))) with
  | some z, some kind, some faces =>
    if oct2 p 2 ≤ 1000 && faceCountOk kind faces.length && decide ((faces.map (·.crane)).Nodup) then
      some (z, { kind := kind, mv := oct2 p 2, faces := sortFaces faces })
    else none
  | _, _, _ => none

/-- A HOOK face reaches beyond its crane's jib (R12). -/
def State.bandTooLong (s : State) (d : ZoneDef) : Bool :=
  d.faces.any (fun f => match f.band, s.crane f.crane with
    | some b, some c => c.jib < b.rmax
    | _, _ => false)

/-- The new definition would break what a booking relies on (R13). -/
def ZoneDef.breaks (d : ZoneDef) (z : Zone) (b : Booking) : Bool :=
  !b.state.terminal &&
    ((b.reserved.contains z && d.kind == .restricted) || (b.opened.contains z && d.kind == .shared) ||
      ((b.reserved.contains z || b.opened.contains z) && !d.faces.any (fun f => f.crane == b.crane)))

/-- The faces of a zone's present definition (R14). -/
def State.facesOf (s : State) (z : Zone) : Nat :=
  match s.zoneDef z with
  | none => 0
  | some d => d.faces.length

/-- The evaluator discards the face states it kept for a zone (R13, R15, R22). -/
def State.dropFaceStates (s : State) (z : Zone) : State :=
  allCranes.foldl (fun s k => s.setFaces k (s.faces[k].filter (fun f => f.zone != z))) s

/-- Writes or deletes a zone's definition; its runtime record, empty in SETUP, is left empty (R13, R15). -/
def State.writeZone (s : State) (z : Zone) (d : Option ZoneDef) : State :=
  ({ s with zones := s.zones.set z d }.setZone z .empty).dropFaceStates z

/-- ZONE_DEF once its numbers are in range (R12 to R14). -/
def State.zoneDefRequest (s : State) (z : Zone) (d : ZoneDef) : Answer :=
  if d.faces.any (fun f => (s.crane f.crane).isNone) then s.refuse .refusedRef
  else if s.bandTooLong d then s.refuse .refusedInUse
  else if (s.zoneDef z).isSome && s.bookings.any (d.breaks z) then s.refuse .refusedInUse
  else if Config.facePool < s.facesInUse - s.facesOf z + d.faces.length then s.refuse .refusedFull
  else (s.writeZone z (some d)).done []

/-- ZONE_DEL (R15). -/
def State.zoneDelRequest (s : State) (z : Zone) : Answer :=
  if (s.zoneDef z).isNone then s.refuse .refusedRef
  else if s.bookings.any (fun b => !b.state.terminal && (b.reserved.contains z || b.opened.contains z)) then
    s.refuse .refusedInUse
  else (s.writeZone z none).done []

/-- The twelve octets of a face; a JIB face's radius and ceiling are reported as 0 (R186). -/
def Face.payload (f : Face) : List Byte :=
  put1 (number f.crane) ++ putFlag f.band.isSome ++ put2 f.arcStart ++ put2 f.arcEnd ++
    (match f.band with
      | none => put2 0 ++ put2 0 ++ put2 0
      | some b => put2 b.rmin ++ put2 b.rmax ++ putInt2 b.ceiling)

/-- The ZONE_READ payload (R186, R188). -/
def ZoneDef.payload (d : ZoneDef) (z : Zone) : List Byte :=
  put1 (number z) ++ put1 d.kind.code ++ put2 d.mv ++ put1 d.faces.length ++ (d.faces.map Face.payload).flatten

/-- ZONE_READ (R186). -/
def State.zoneReadRequest (s : State) (z : Zone) : Answer :=
  match s.zoneDef z with
  | none => s.refuse .refusedRef
  | some d => s.done (d.payload z)

/-! ## Masts and site parameters -/

/-- A mast becomes Defined: UNKNOWN, no misses, no sample (R16, R90). -/
def State.defineMast (s : State) (m : Mast) : State :=
  if s.mastDefined m then s else (s.setMast m (some .unknown)).setMastCopy m .unknown

/-- A mast becomes not Defined; the exchange in its slot runs on and its result is discarded (R16, R160). -/
def State.undefineMast (s : State) (m : Mast) : State :=
  if s.mastDefined m then
    let s := (s.setMast m none).setMastCopy m .unknown
    { s with mastLine :=
      { s.mastLine with
        exchange := s.mastLine.exchange.map (fun x => if x.mast = m then { x with discard := true } else x) } }
  else s

/-- MAST_DEF (R16). -/
def State.mastDefRequest (s : State) (m : Mast) (defined : Bool) : Answer :=
  if defined then (s.defineMast m).done []
  else if allCranes.any (fun k => (s.crane k).map (·.backup) == some (some m)) then s.refuse .refusedInUse
  else (s.undefineMast m).done []

/-- The site parameters a SITE_DEF payload carries (R17). -/
def siteParamsOf (p : List Byte) : SiteParams :=
  { release := oct2 p 0, callTimeout := oct2 p 2, hysteresis := oct p 4, holdStorm := oct2 p 5,
    holdStop := oct2 p 7, holdCaution := oct2 p 9, sweepAlarm := oct2 p 11, divN := oct p 13, divF := oct p 14 }

/-- Every site parameter is in its range (R17). -/
def SiteParams.inRange (q : SiteParams) : Bool :=
  within 0 10000 q.release && within 30 1800 q.callTimeout && within 0 50 q.hysteresis &&
    within 60 3600 q.holdStorm && within 30 1800 q.holdStop && within 10 600 q.holdCaution &&
    within 10 600 q.sweepAlarm && within 2 255 q.divN && within 0 7 q.divF

/-- SITE_DEF (R17). -/
def State.siteDefRequest (s : State) (q : SiteParams) : Answer :=
  if q.inRange then { s with params := q }.done [] else s.refuse .refusedRange

/-- The 15 octets of the site parameters (R188). -/
def SiteParams.payload (q : SiteParams) : List Byte :=
  put2 q.release ++ put2 q.callTimeout ++ put1 q.hysteresis ++ put2 q.holdStorm ++ put2 q.holdStop ++
    put2 q.holdCaution ++ put2 q.sweepAlarm ++ put1 q.divN ++ put1 q.divF

/-! ## The commands -/

/-- CRANE_DEF (R3 to R8). -/
def execCraneDef (seq : Byte) (payload : List Byte) (s : State) : Result :=
  .next (s.serve { typ := 0x10, seq := seq, payload := payload }
    (withLength 37 payload (inSetup (fun s => match craneDefOf payload with
      | none => s.refuse .refusedRange
      | some (k, c) => s.craneDefRequest k c))))

/-- CRANE_CLEAR (R9). -/
def execCraneClear (seq : Byte) (payload : List Byte) (s : State) : Result :=
  .next (s.serve { typ := 0x11, seq := seq, payload := payload }
    (withLength 1 payload (inSetup (withCrane (oct payload 0) (fun k s => s.craneClearRequest k)))))

/-- CRANE_READ (R186). -/
def execCraneRead (seq : Byte) (payload : List Byte) (s : State) : Result :=
  .next (s.serve { typ := 0x12, seq := seq, payload := payload }
    (withLength 1 payload (withCrane (oct payload 0) (fun k s => s.craneReadRequest k))))

/-- ZONE_DEF (R10 to R14). -/
def execZoneDef (seq : Byte) (payload : List Byte) (s : State) : Result :=
  .next (s.serve { typ := 0x13, seq := seq, payload := payload }
    (withLength (5 + 12 * oct payload 4) payload (inSetup (fun s => match zoneDefOf payload with
      | none => s.refuse .refusedRange
      | some (z, d) => s.zoneDefRequest z d))))

/-- ZONE_DEL (R15). -/
def execZoneDel (seq : Byte) (payload : List Byte) (s : State) : Result :=
  .next (s.serve { typ := 0x14, seq := seq, payload := payload }
    (withLength 1 payload (inSetup (withZone (oct payload 0) (fun z s => s.zoneDelRequest z)))))

/-- ZONE_READ (R186). -/
def execZoneRead (seq : Byte) (payload : List Byte) (s : State) : Result :=
  .next (s.serve { typ := 0x15, seq := seq, payload := payload }
    (withLength 1 payload (withZone (oct payload 0) (fun z s => s.zoneReadRequest z))))

/-- MAST_DEF (R16). -/
def execMastDef (seq : Byte) (payload : List Byte) (s : State) : Result :=
  .next (s.serve { typ := 0x16, seq := seq, payload := payload }
    (withLength 2 payload (inSetup (fun s => match pick (oct payload 0) with
      | none => s.refuse .refusedRange
      | some m =>
        if oct payload 1 ≤ 1 then s.mastDefRequest m (oct payload 1 == 1) else s.refuse .refusedRange))))

/-- SITE_DEF (R17). -/
def execSiteDef (seq : Byte) (payload : List Byte) (s : State) : Result :=
  .next (s.serve { typ := 0x17, seq := seq, payload := payload }
    (withLength 15 payload (inSetup (fun s => s.siteDefRequest (siteParamsOf payload)))))

/-- SITE_READ (R186). -/
def execSiteRead (seq : Byte) (payload : List Byte) (s : State) : Result :=
  .next (s.serve { typ := 0x18, seq := seq, payload := payload }
    (withLength 0 payload (fun s => s.done (s.params.payload ++ put1 s.facesInUse))))

end Sys2Proof.Machine
end

