-- ==== Sys2Proof/Machine/CraneRequests.lean ====
section
/-! DEFINITION. The crane requests: LINE_ON, LINE_OFF, SERVICE, CRANE_STATE, TEXT, DECLARE. -/

namespace Sys2Proof.Machine

/-! ## Switching a line on and off -/

/-- LINE_ON (R140). -/
def State.lineOnRequest (s : State) (k : Crane) : Answer :=
  if !s.worked k then s.refuse .refusedRef
  else
    let s :=
      if (s.line k).link = .off then (s.modLine k (fun l => { l with enabled := true })).enterWaking k true else s
    s.done (put1 (s.line k).link.code)

/-- Guards the zones of a crane whose line is not ONLINE: only in RUN and HOLD, and only a crane that is Defined and
not absent (R55). -/
def State.guardUnlessSetup (s : State) (k : Crane) : State :=
  if s.mode ≠ .setup ∧ s.worked k then s.guardBegin k else s

/-- What a line that is switched off keeps: the exchange is abandoned, the timers are stopped (R141 steps 1 and 2,
R143). -/
def Line.switchedOff (l : Line) : Line :=
  { l.clearEnrolment with exchange := none, cycleTimer := none, enabled := false }

/-- LINE_OFF (R141); the zones are guarded in the same step (95; log 5). -/
def State.lineOffRequest (s : State) (k : Crane) : Answer :=
  if (s.line k).link = .off then s.done []
  else (((s.modLine k Line.switchedOff).setLink k .off).guardUnlessSetup k).done []

/-! ## Service states and texts -/

/-- SERVICE (R74); the state is stored and the notice sent only when it changes (log 20). -/
def State.serviceRequest (s : State) (k : Crane) (new : ServiceState) : Answer :=
  if (s.crane k).isNone then s.refuse .refusedRef
  else
    let old := s.service[k]
    (if new = old then s else { s with service := s.service.set k new }.post (.service k new)).done (put1 old.code)

/-- TEXT (R84). -/
def State.textRequest (s : State) (k : Crane) (chars : List Byte) : Answer :=
  let l := s.line k
  if (s.crane k).isNone then s.refuse .refusedRef
  else if Config.textCapacity ≤ l.texts.length then s.refuse .refusedFull
  else
    let kept := chars.take Config.textLength
    (s.modLine k (fun l =>
      { l with
        texts := l.texts ++ [{ serial := l.nextSerial, chars := kept, progress := .first }]
        nextSerial := l.nextSerial + 1 })).done (put1 kept.length ++ [l.nextSerial])

/-! ## DECLARE (R58) -/

/-- The zones a DECLARE lists; none when a number is out of range, or a zone is named twice. -/
def zoneList (l : List Nat) : Option (List Zone) :=
  match allSome (l.map pick) with
  | none => none
  | some zones => if zones.Nodup then some zones else none

/-- The zones a DECLARE names, given its all-zones choice and its list: none when the request is out of range; with
the choice set the list is disregarded (R58, 11 Crane requests). -/
def State.declareNames (s : State) (k : Crane) (all : Nat) (listed : List Nat) : Option (List Zone) :=
  if all = 1 then some (s.zonesOf k)
  else if all = 0 ∧ listed ≠ [] then zoneList listed
  else none

/-- DECLARE once its numbers are in range (R58). -/
def State.declareRequest (s : State) (k : Crane) (zones : List Zone) : Answer :=
  if (s.crane k).isNone || zones.any (fun z => (s.faceIn k z).isNone) then s.refuse .refusedRef
  else if (s.line k).link = .online then s.refuse .refusedState
  else (s.declareZones k (ascending zones)).done []

/-! ## CRANE_STATE (R187, R188) -/

/-- The Line group. -/
def Line.stateOctets (l : Line) : List Byte :=
  putFlag l.enabled ++ put1 l.link.code ++ put1 l.linkCause.code ++ put1 (rateCode l.rate) ++ [l.tag, l.tagCounter] ++
    put2 (l.effCycle.getD 0) ++ put1 l.missCount

/-- A report in the 13 octets of the REPORT payload (11, POLL and REPORT payloads). -/
def Report.octets (r : Report) : List Byte :=
  put2 r.theta ++ putInt1 r.omega ++ put2 r.radius ++ putInt2 r.speed ++ putInt2 r.height ++ put2 r.wind ++
    putFlag r.windValid ++ put1 r.age

/-- The Report group: a presence flag, the report or zeros, and report since ONLINE. -/
def Line.reportOctets (l : Line) : List Byte :=
  (match l.lastReport with
    | none => putFlag false ++ List.replicate 13 0
    | some r => putFlag true ++ r.octets) ++ putFlag l.reportSince

/-- The cause as it is reported: 0 while the state is NONE. -/
def VaneRec.causeCode (v : VaneRec) : Nat := if v.state = .none then 0 else v.cause.code

/-- The Weathervane group (R187). The spec gives no rounding of the seconds since pending since: that a part of a second
is left off is the model's choice (log 34). -/
def State.vaneOctets (s : State) (k : Crane) : List Byte :=
  let v := s.vane[k]
  put1 v.state.code ++ put4 (match v.pendingSince with | none => 0 | some t => s.since t / 1000) ++
    putFlag v.alarm ++ put1 v.causeCode

/-- The Texts group. -/
def Line.textOctets (l : Line) : List Byte :=
  put1 l.texts.length ++ (match l.texts with
    | [] => put1 0 ++ put1 0
    | t :: _ => t.serial :: put1 t.progress.code)

/-- One face state in five octets. -/
def State.faceOctets (s : State) (f : FaceState) : List Byte :=
  put1 (number f.zone) ++
    put1 (f.cw.code + 4 * f.ccw.code + 16 * f.outward.code + 64 * f.inward.code) ++
    put1 (f.down.code + 4 * f.planInside.toNat + 8 * f.inside.toNat) ++
    put2 (match f.clearSince with | none => 65535 | some t => min (s.since t) 65534)

/-- The CRANE_STATE payload. -/
def State.craneStatePayload (s : State) (k : Crane) : List Byte :=
  (s.line k).stateOctets ++ put1 (s.line k).faults.octet ++ (s.line k).reportOctets ++ s.sent[k].octets .none ++
    s.vaneOctets k ++ put1 s.service[k].code ++ putFlag (s.yielding k) ++ putList s.declared[k] ++
    (s.line k).textOctets ++ put1 s.faces[k].length ++ (s.faces[k].map s.faceOctets).flatten

/-- CRANE_STATE: the flags are cleared, if that is chosen, after the payload has taken them (R134, R187). -/
def State.craneStateRequest (s : State) (k : Crane) (clear : Bool) : Answer :=
  (if clear then s.modLine k (fun l => { l with faults := .clear }) else s).done (s.craneStatePayload k)

/-! ## The commands -/

/-- LINE_ON (R140). -/
def execLineOn (seq : Byte) (payload : List Byte) (s : State) : Result :=
  .next (s.serve { typ := 0x20, seq := seq, payload := payload }
    (withLength 1 payload (withCrane (oct payload 0) (fun k s => s.lineOnRequest k))))

/-- LINE_OFF (R141). -/
def execLineOff (seq : Byte) (payload : List Byte) (s : State) : Result :=
  .next (s.serve { typ := 0x21, seq := seq, payload := payload }
    (withLength 1 payload (withCrane (oct payload 0) (fun k s => s.lineOffRequest k))))

/-- SERVICE (R74). -/
def execService (seq : Byte) (payload : List Byte) (s : State) : Result :=
  .next (s.serve { typ := 0x22, seq := seq, payload := payload }
    (withLength 2 payload (withCrane (oct payload 0) (fun k s => match serviceOf (oct payload 1) with
      | none => s.refuse .refusedRange
      | some new => s.serviceRequest k new))))

/-- CRANE_STATE (R187). -/
def execCraneState (seq : Byte) (payload : List Byte) (s : State) : Result :=
  .next (s.serve { typ := 0x23, seq := seq, payload := payload }
    (withLength 2 payload (withCrane (oct payload 0) (fun k s =>
      if oct payload 1 ≤ 1 then s.craneStateRequest k (oct payload 1 == 1) else s.refuse .refusedRange))))

/-- TEXT (R84). -/
def execText (seq : Byte) (payload : List Byte) (s : State) : Result :=
  .next (s.serve { typ := 0x24, seq := seq, payload := payload }
    (withLength (2 + oct payload 1) payload
      (withCrane (oct payload 0) (fun k s => s.textRequest k (payload.drop 2)))))

/-- DECLARE (R58). -/
def execDeclare (seq : Byte) (payload : List Byte) (s : State) : Result :=
  .next (s.serve { typ := 0x25, seq := seq, payload := payload }
    (withLength (3 + oct payload 2) payload (fun s =>
      if s.mode = .setup then s.refuse .refusedMode
      else withCrane (oct payload 0) (fun k s =>
        match s.declareNames k (oct payload 1) ((payload.drop 3).map (·.toNat)) with
        | none => s.refuse .refusedRange
        | some zones => s.declareRequest k zones) s)))

end Sys2Proof.Machine
end

