-- ==== Sys2Proof/Machine/ZoneRequests.lean ====
section
/-! DEFINITION. The zone, wind and booking requests: ZONE_STATE, RESOLVE, WIND_READ, BOOK, CANCEL, BOOKING_READ,
BOOKING_LIST, BOOKING_REMOVE, EVENTS. -/

namespace Sys2Proof.Machine

/-! ## Zones and wind -/

/-- A reservation as ZONE_STATE reports it: booking id, crane, phase, all 0 for none (R188). -/
def reservationOctets : Option Reservation → List Byte
  | none => put2 0 ++ put1 0 ++ put1 0
  | some v => put2 v.id ++ put1 (number v.crane) ++ put1 v.phase.code

/-- The ZONE_STATE payload (R69, R188). -/
def ZoneRt.payload (r : ZoneRt) (kind : ZoneKind) : List Byte :=
  put1 kind.code ++ put1 (numberOr0 r.holder) ++ putList (ascending r.sweep) ++ putList (ascending r.claims) ++
    putList r.waiting ++ reservationOctets r.reservation ++ putList (ascending r.guard) ++
    putList (ascending r.inside) ++ putFlag (kind == .shared && r.contested) ++ put1 (numberOr0 r.mover)

/-- The record as it is reported: of a restricted zone the inside set and the sweep set alone (R43, R69). -/
def ZoneRt.shown (r : ZoneRt) (kind : ZoneKind) : ZoneRt :=
  match kind with
  | .shared => r
  | .restricted => { ZoneRt.empty with sweep := r.sweep, inside := r.inside }

/-- ZONE_STATE (R69). -/
def State.zoneStateRequest (s : State) (z : Zone) : Answer :=
  match s.zoneDef z with
  | none => s.refuse .refusedRef
  | some d => s.done (((s.zone z).shown d.kind).payload d.kind)

/-- The crane RESOLVE names: 0 for none; none of the two outside 0 to 8 (R53). -/
def resolveCrane : Nat → Option (Option Crane)
  | 0 => some none
  | n => (pick n).map some

/-- RESOLVE once its numbers are in range (R53). -/
def State.resolveRequest (s : State) (z : Zone) (m : Option Crane) : Answer :=
  match s.zoneDef z with
  | none => s.refuse .refusedRef
  | some d =>
    if (match m with | none => false | some k => (s.crane k).isNone) then s.refuse .refusedRef
    else if d.kind = .restricted || (match m with | none => false | some k => !(s.zone z).inside.contains k) then
      s.refuse .refusedState
    else (s.setZone z { s.zone z with mover := m }).done []

/-- WIND_READ (R104). -/
def State.windReadRequest (s : State) (k : Crane) : Answer :=
  if (s.crane k).isNone then s.refuse .refusedRef else s.done (s.windPayload k)

/-! ## BOOK (R107 to R109) -/

/-- The octets a BOOK payload should have, by its own count fields (11, Zone, wind and booking requests). -/
def bookLength (p : List Byte) : Nat :=
  let rc := oct p 9
  let oc := oct p (10 + rc)
  15 + rc + oc + oct p (14 + rc + oc)

/-- `n` octets of a payload from octet `i` on, as numbers. -/
def octs (p : List Byte) (i n : Nat) : List Nat := (List.range n).map (fun j => oct p (i + j))

/-- The request a BOOK payload carries; none when check 1 of R107 fails (R107, R179). The wind limit octets are
disregarded when the limit is not present. -/
def bookOf (p : List Byte) : Option BookRequest :=
  let rc := oct p 9
  let oc := oct p (10 + rc)
  let present := oct p (11 + rc + oc)
  let limit := oct2 p (12 + rc + oc)
  let start := oct4 p 1
  let finish := oct4 p 5
  match pick (oct p 0), allSome ((octs p 10 rc).map pick), allSome ((octs p (11 + rc) oc).map pick) with
  | some k, some reserved, some opened =>
    if start < finish && finish - start ≤ Config.longestBooking && rc ≤ 4 && oc ≤ 2 &&
        decide (reserved ++ opened).Nodup && !(reserved ++ opened).isEmpty && present ≤ 1 &&
        (present == 0 || limit ≤ 600) && oct p (14 + rc + oc) ≤ 16 then
      some { crane := k, start := start, finish := finish, reserved := ascending reserved, opened := ascending opened,
             windLimit := if present = 1 then some limit else none, label := p.drop (15 + rc + oc) }
    else none
  | _, _, _ => none

/-- The zone is defined, of this kind, and holds a face of the crane (R107 check 3). -/
def State.zoneSuits (s : State) (k : Crane) (kind : ZoneKind) (z : Zone) : Bool :=
  match s.faceIn k z with
  | none => false
  | some (d, _) => d.kind == kind

/-- BOOK from check 2 of R107 on. -/
def State.bookRequest (s : State) (q : BookRequest) : Answer :=
  if (s.crane q.crane).isNone || (q.reserved ++ q.opened).any (fun z => (s.zoneDef z).isNone) then
    s.refuse .refusedRef
  else if !(q.reserved.all (s.zoneSuits q.crane .shared) && q.opened.all (s.zoneSuits q.crane .restricted)) then
    s.refuse .refusedRange
  else if s.bookings.any q.clashes then s.refuse .refusedClash
  else if Config.bookingCapacity ≤ s.bookings.length && s.bookings.all (fun b => !b.state.terminal) then
    s.refuse .refusedFull
  else
    (s.enterBooking q).done (put2 s.idToGive ++ put4 (s.deadlineFor q.start) ++
      put2 (match s.evicted with | none => 0 | some v => v.id))

/-! ## The other booking requests -/

/-- A request that names a booking by its id: REFUSED_RANGE for 0, REFUSED_REF if no record holds it (R120, R123,
R124). -/
def withBooking (id : Nat) (own : Booking → State → Answer) (s : State) : Answer :=
  if id = 0 then s.refuse .refusedRange
  else match s.booking id with
    | none => s.refuse .refusedRef
    | some b => own b s

/-- CANCEL (R120). -/
def State.cancelRequest (s : State) (b : Booking) : Answer :=
  if b.state.terminal then s.refuse .refusedState
  else
    let s := s.cancelBooking b
    s.done (put1 (match s.booking b.id with | none => 0 | some c => c.state.code))

/-- BOOKING_REMOVE (R124). -/
def State.bookingRemoveRequest (s : State) (b : Booking) : Answer :=
  if b.state.terminal then { s with bookings := s.bookings.filter (fun c => c.id != b.id) }.done []
  else s.refuse .refusedState

/-! ## EVENTS (R174) -/

/-- The 17 octets of an event record (11, Event record). -/
def Event.octets (e : Event) : List Byte :=
  put4 e.time ++ put1 e.kind.code ++ put1 e.crane ++ put1 e.zone ++ put2 e.booking ++ putInt4 e.a ++ putInt4 e.b

/-- EVENTS (R174). -/
def State.eventsRequest (s : State) : Answer :=
  let taken := s.events.take Config.eventsPerReply
  let left := s.events.drop Config.eventsPerReply
  { s with events := left, overflow := false }.done
    (put1 taken.length ++ putFlag s.overflow ++ put1 left.length ++ (taken.map Event.octets).flatten)

/-! ## The commands -/

/-- ZONE_STATE (R69). -/
def execZoneState (seq : Byte) (payload : List Byte) (s : State) : Result :=
  .next (s.serve { typ := 0x28, seq := seq, payload := payload }
    (withLength 1 payload (withZone (oct payload 0) (fun z s => s.zoneStateRequest z))))

/-- RESOLVE (R53). -/
def execResolve (seq : Byte) (payload : List Byte) (s : State) : Result :=
  .next (s.serve { typ := 0x29, seq := seq, payload := payload }
    (withLength 2 payload (fun s =>
      if s.mode = .setup then s.refuse .refusedMode
      else withZone (oct payload 0) (fun z s => match resolveCrane (oct payload 1) with
        | none => s.refuse .refusedRange
        | some m => s.resolveRequest z m) s)))

/-- WIND_READ (R104). -/
def execWindRead (seq : Byte) (payload : List Byte) (s : State) : Result :=
  .next (s.serve { typ := 0x30, seq := seq, payload := payload }
    (withLength 1 payload (withCrane (oct payload 0) (fun k s => s.windReadRequest k))))

/-- BOOK (R107 to R109). -/
def execBook (seq : Byte) (payload : List Byte) (s : State) : Result :=
  .next (s.serve { typ := 0x38, seq := seq, payload := payload }
    (withLength (bookLength payload) payload (fun s => match bookOf payload with
      | none => s.refuse .refusedRange
      | some q => s.bookRequest q)))

/-- CANCEL (R120). -/
def execCancel (seq : Byte) (payload : List Byte) (s : State) : Result :=
  .next (s.serve { typ := 0x39, seq := seq, payload := payload }
    (withLength 2 payload (withBooking (oct2 payload 0) (fun b s => s.cancelRequest b))))

/-- BOOKING_READ (R123). -/
def execBookingRead (seq : Byte) (payload : List Byte) (s : State) : Result :=
  .next (s.serve { typ := 0x3A, seq := seq, payload := payload }
    (withLength 2 payload (withBooking (oct2 payload 0) (fun b s => s.done b.payload))))

/-- BOOKING_LIST (R123). -/
def execBookingList (seq : Byte) (payload : List Byte) (s : State) : Result :=
  .next (s.serve { typ := 0x3B, seq := seq, payload := payload }
    (withLength 0 payload (fun s => s.done s.bookingListPayload)))

/-- BOOKING_REMOVE (R124). -/
def execBookingRemove (seq : Byte) (payload : List Byte) (s : State) : Result :=
  .next (s.serve { typ := 0x3C, seq := seq, payload := payload }
    (withLength 2 payload (withBooking (oct2 payload 0) (fun b s => s.bookingRemoveRequest b))))

/-- EVENTS (R174). -/
def execEvents (seq : Byte) (payload : List Byte) (s : State) : Result :=
  .next (s.serve { typ := 0x40, seq := seq, payload := payload } (withLength 0 payload State.eventsRequest))

end Sys2Proof.Machine
end

