-- ==== Sys2Proof/Machine/LineEvents.lean ====
section
/-! DEFINITION. The events of a crane line: CYCLE_EXPIRY, FRAME_SENT, REPLY_WINDOW_CLOSE, SILENCE_LIMIT,
REPLY_BUFFER_FULL, REPORT, ECHO, READY, IDENT, WAKE_PULSE_END, WAKE_IDLE_END, BACKOFF_EXPIRY, WAITREADY_EXPIRY,
READY_DEADLINE, LOST_EXPIRY, REPLY_CHARACTER. An event that cannot occur in the state it finds leaves the state as it
is (log 2). -/

namespace Sys2Proof.Machine

/-! ## What they do -/

/-- CYCLE_EXPIRY: the cycle timer of an ONLINE line (R136). -/
def State.cycleExpires (s : State) (k : Crane) : State :=
  match (s.line k).cycleTimer with
  | none => s
  | some due => if (s.line k).link = .online then (s.reach due).expireCycle k else s

/-- The frame of the exchange in flight is sent: DE is deasserted and the reply window opens (R132 step 1). -/
def State.frameIsSent (s : State) (k : Crane) : State :=
  match (s.line k).exchange with
  | none => s
  | some x =>
    if x.progress = .sending then
      s.modLine k (fun l => { l with exchange := some { x with progress := .waiting (s.later x.window) } })
    else s

/-- The reply window closes with no start bit accepted: TIMEOUT (R132). -/
def State.windowCloses (s : State) (k : Crane) : State :=
  match (s.line k).exchange with
  | none => s
  | some x =>
    match x.progress with
    | .waiting due => (s.reach due).exchangeFailed k .timeoutOnly
    | .sending | .receiving _ _ _ => s

/-- The silence limit passes with the reply incomplete: SIZE, with the errors its characters had (R132). While a
character is being received its start bit has been accepted, and no silence runs. -/
def State.silencePasses (s : State) (k : Crane) : State :=
  match (s.line k).exchange with
  | none => s
  | some x =>
    match x.progress with
    | .receiving _ _ _ =>
      if (s.line k).rx.inCharacter then s else s.exchangeFailed k (x.endedFaults .sizeOnly)
    | .sending | .waiting _ => s

/-- The first character that completes in these samples is the 32nd of the reply in flight and leaves it incomplete
(R132). -/
def State.overflows (s : State) (k : Crane) (x : Samples) : Bool :=
  match (s.line k).rx.characters Config.lineBits x, (s.line k).exchange with
  | bits :: _, some e =>
    match e.progress with
    | .receiving o _ _ => o.length + 1 == Config.replyBuffer && !replyComplete (o ++ [(lineChar bits).octet])
    | .sending | .waiting _ => false
  | _, _ => false

/-- The exchange in flight sent a frame of this kind, whatever it carried. -/
def State.awaits (s : State) (k : Crane) (p : ExchangeKind → Bool) : Bool :=
  match s.inFlight k with
  | none => false
  | some x => p x

/-- The wake pulse ends: DE is deasserted and the line stays idle (R144). -/
def State.pulseEnds (s : State) (k : Crane) : State :=
  match (s.line k).wait with
  | .pulse due =>
    let s := s.reach due
    s.modLine k (fun l => { l with wait := .idle (s.later Config.wakeIdle) })
  | .nothing | .idle _ | .backoff _ | .lost _ => s

/-- The idle time after the wake pulse ends (R144, R146). -/
def State.idleEnds (s : State) (k : Crane) : State :=
  match (s.line k).wait with
  | .idle due => (s.reach due).enterRateSearch k
  | .nothing | .pulse _ | .backoff _ | .lost _ => s

/-- The back-off runs out (R148, R145). -/
def State.backoffEnds (s : State) (k : Crane) : State :=
  match (s.line k).wait with
  | .backoff due => (s.reach due).enterWaking k false
  | .nothing | .pulse _ | .idle _ | .lost _ => s

/-- The second in LOST runs out (R155, R145). -/
def State.lostEnds (s : State) (k : Crane) : State :=
  match (s.line k).wait with
  | .lost due => (s.reach due).enterWaking k false
  | .nothing | .pulse _ | .idle _ | .backoff _ => s

/-- The cycle timer expires in WAITREADY: the READY_Q in flight ends, the timer is restarted, another is sent
(R150). -/
def State.asksAgain (s : State) (k : Crane) : State :=
  match (s.line k).cycleTimer with
  | none => s
  | some due =>
    if (s.line k).link = .waitready then (((s.reach due).endIncomplete k).startCycle k).sendReadyQ k else s

/-- The ready deadline passes: the exchange is abandoned unjudged and the link is LOST (R151). -/
def State.deadlinePasses (s : State) (k : Crane) : State :=
  match (s.line k).readyDeadline with
  | none => s
  | some due =>
    if (s.line k).link = .waitready then ((s.reach due).dropExchange k).enterLost k .notReady else s

/-! ## The commands -/

/-- CYCLE_EXPIRY (R136). -/
def execCycleExpiry (k : Crane) (s : State) : Result := .next (s.cycleExpires k)

/-- FRAME_SENT (R132, R126). -/
def execFrameSent (k : Crane) (s : State) : Result := .next (s.frameIsSent k)

/-- REPLY_WINDOW_CLOSE (R132). -/
def execReplyWindowClose (k : Crane) (s : State) : Result := .next (s.windowCloses k)

/-- SILENCE_LIMIT (R132). -/
def execSilenceLimit (k : Crane) (s : State) : Result := .next (s.silencePasses k)

/-- REPLY_BUFFER_FULL (R132). -/
def execReplyBufferFull (k : Crane) (x : Samples) (s : State) : Result :=
  .next (if s.overflows k x then s.sampleLines k x else s)

/-- REPORT: the samples that complete the reply to a POLL (R133, R137). -/
def execReport (k : Crane) (x : Samples) (s : State) : Result :=
  .next (if s.awaits k (fun e => match e with
      | .poll _ => true
      | .wakeCheck _ | .readyQ | .tagSet _ => false) then s.sampleLines k x else s)

/-- ECHO: the samples that complete the reply to a WAKE_CHECK (R133, R147). -/
def execEcho (k : Crane) (x : Samples) (s : State) : Result :=
  .next (if s.awaits k (fun e => match e with
      | .wakeCheck _ => true
      | .poll _ | .readyQ | .tagSet _ => false) then s.sampleLines k x else s)

/-- READY: the samples that complete the reply to a READY_Q (R133, R150). -/
def execReady (k : Crane) (x : Samples) (s : State) : Result :=
  .next (if s.awaits k (fun e => match e with
      | .readyQ => true
      | .poll _ | .wakeCheck _ | .tagSet _ => false) then s.sampleLines k x else s)

/-- IDENT: the samples that complete the reply to a TAG_SET (R133, R153). -/
def execIdent (k : Crane) (x : Samples) (s : State) : Result :=
  .next (if s.awaits k (fun e => match e with
      | .tagSet _ => true
      | .poll _ | .wakeCheck _ | .readyQ => false) then s.sampleLines k x else s)

/-- WAKE_PULSE_END (R144). -/
def execWakePulseEnd (k : Crane) (s : State) : Result := .next (s.pulseEnds k)

/-- WAKE_IDLE_END (R144, R146). -/
def execWakeIdleEnd (k : Crane) (s : State) : Result := .next (s.idleEnds k)

/-- BACKOFF_EXPIRY (R148). -/
def execBackoffExpiry (k : Crane) (s : State) : Result := .next (s.backoffEnds k)

/-- WAITREADY_EXPIRY (R150). -/
def execWaitreadyExpiry (k : Crane) (s : State) : Result := .next (s.asksAgain k)

/-- READY_DEADLINE (R151). -/
def execReadyDeadline (k : Crane) (s : State) : Result := .next (s.deadlinePasses k)

/-- LOST_EXPIRY (R155). -/
def execLostExpiry (k : Crane) (s : State) : Result := .next (s.lostEnds k)

/-- REPLY_CHARACTER (R126, R128, R132). -/
def execReplyCharacter (k : Crane) (x : Samples) (s : State) : Result := .next (s.sampleLines k x)

end Sys2Proof.Machine
end

