-- ==== Sys2Proof/Machine/Notices.lean ====
section
/-! DEFINITION. The notices between blocks and the two one-second timers: LINK_NOTICE, SLOT_CLOSE, LEVEL_NOTICE,
SERVICE_NOTICE, MODE_NOTICE, CLOCK_NOTICE, CLEARANCE_NOTICE, INSIDE_LEFT_NOTICE, CLOCK_SECOND, MAST_NOTICE. A notice
that is not on its way has no effect (log 2). -/

namespace Sys2Proof.Machine

/-! ## Which notice a command delivers -/

/-- A link notice of crane *k*. -/
def Notice.isLink (k : Crane) : Notice → Bool
  | .link j _ _ => j == k
  | .level _ _ | .service _ _ | .mode | .clock | .clearance _ _ _ | .insideLeft _ _ | .mast _ _ _ => false

/-- A level notice of crane *k*. -/
def Notice.isLevel (k : Crane) : Notice → Bool
  | .level j _ => j == k
  | .link _ _ _ | .service _ _ | .mode | .clock | .clearance _ _ _ | .insideLeft _ _ | .mast _ _ _ => false

/-- A service notice of crane *k*. -/
def Notice.isService (k : Crane) : Notice → Bool
  | .service j _ => j == k
  | .link _ _ _ | .level _ _ | .mode | .clock | .clearance _ _ _ | .insideLeft _ _ | .mast _ _ _ => false

/-- A mode notice. -/
def Notice.isMode : Notice → Bool
  | .mode => true
  | .link _ _ _ | .level _ _ | .service _ _ | .clock | .clearance _ _ _ | .insideLeft _ _ | .mast _ _ _ => false

/-- A clock notice. -/
def Notice.isClock : Notice → Bool
  | .clock => true
  | .link _ _ _ | .level _ _ | .service _ _ | .mode | .clearance _ _ _ | .insideLeft _ _ | .mast _ _ _ => false

/-- A clearance notice of zone `z` for booking `id`. -/
def Notice.isClearance (z : Zone) (id : Nat) : Notice → Bool
  | .clearance y i _ => y == z && i == id
  | .link _ _ _ | .level _ _ | .service _ _ | .mode | .clock | .insideLeft _ _ | .mast _ _ _ => false

/-- A notice that crane *k* has left the restricted zone `z`. -/
def Notice.isInsideLeft (k : Crane) (z : Zone) : Notice → Bool
  | .insideLeft j y => j == k && y == z
  | .link _ _ _ | .level _ _ | .service _ _ | .mode | .clock | .clearance _ _ _ | .mast _ _ _ => false

/-- A notice of mast `m`. -/
def Notice.isMast (m : Mast) : Notice → Bool
  | .mast n _ _ => n == m
  | .link _ _ _ | .level _ _ | .service _ _ | .mode | .clock | .clearance _ _ _ | .insideLeft _ _ => false

/-! ## What they do -/

/-- What a link change from `old` to `new` does at the Reach Evaluator and the Zone Arbiter: out of ONLINE empties the
face-state list (R22), into ONLINE empties the declared-clear list (R59), and a change to any other state guards the
crane's zones (R55). -/
def State.linkZones (s : State) (k : Crane) (old new : LinkState) : State :=
  let s := if old = .online ∧ new ≠ .online then s.setFaces k [] else s
  if new = .online then s.setDeclared k [] else s.guardUnlessSetup k

/-- What a link change does at the blocks it is handed to, in the order Reach Evaluator, Zone Arbiter, Wind
Evaluator, Booking Scheduler (R139; log 5). -/
def State.linkChanged (s : State) (k : Crane) (old new : LinkState) (order : List Nat) : State :=
  let s := s.linkZones k old new
  let s := if old = .online ∧ new ≠ .online then s.ownStale k else s
  if old = .online ∨ new = .online then s.reviewCrane order k else s

/-- The site clock's next reading (R170). -/
def State.clockNext (s : State) : Nat := (s.clock + 1) % Config.clockRange

/-- One second of the site clock, and the scheduler second that it is (R170, R110). -/
def State.secondPasses (s : State) (order : List Nat) : State :=
  { s.reach s.clockDue with clock := s.clockNext, clockDue := s.clockDue + BitVec.ofNat 32 Config.second }.reviewOpen
    (s.clockNext == 0) order

/-- One expiry of the Wind Evaluator's timer (R91). -/
def State.slotsClose (s : State) (order : List Crane) : State :=
  { s.reach s.windDue with windDue := s.windDue + BitVec.ofNat 32 Config.second }.closeSlots order

/-! ## The commands -/

/-- LINK_NOTICE (R139). -/
def execLinkNotice (k : Crane) (order : List Nat) (s : State) : Result :=
  .next (s.deliver (Notice.isLink k) (fun n s => match n with
    | .link _ old new => s.linkChanged k old new order
    | .level _ _ | .service _ _ | .mode | .clock | .clearance _ _ _ | .insideLeft _ _ | .mast _ _ _ => s))

/-- SLOT_CLOSE (R91). -/
def execSlotClose (order : List Crane) (s : State) : Result := .next (s.slotsClose order)

/-- LEVEL_NOTICE: the scheduler reviews the crane's bookings (R102, R110). -/
def execLevelNotice (k : Crane) (order : List Nat) (s : State) : Result :=
  .next (s.deliver (Notice.isLevel k) (fun _ s => s.reviewCrane order k))

/-- SERVICE_NOTICE: the scheduler reviews the crane's bookings (R74, R110). -/
def execServiceNotice (k : Crane) (order : List Nat) (s : State) : Result :=
  .next (s.deliver (Notice.isService k) (fun _ s => s.reviewCrane order k))

/-- MODE_NOTICE: the scheduler reviews every booking that is not terminal (R167, R110). -/
def execModeNotice (order : List Nat) (s : State) : Result :=
  .next (s.deliver Notice.isMode (fun _ s => s.reviewOpen false order))

/-- CLOCK_NOTICE: the scheduler reviews every booking that is not terminal against the new value (R171, R110). -/
def execClockNotice (order : List Nat) (s : State) : Result :=
  .next (s.deliver Notice.isClock (fun _ s => s.reviewOpen false order))

/-- CLEARANCE_NOTICE: the scheduler reviews the booking named (R65, R110). -/
def execClearanceNotice (z : Zone) (id : Nat) (s : State) : Result :=
  .next (s.deliver (Notice.isClearance z id) (fun _ s => State.review false s id))

/-- INSIDE_LEFT_NOTICE: the scheduler reviews the CLOSING bookings of the crane (R51, R119). -/
def execInsideLeftNotice (k : Crane) (z : Zone) (order : List Nat) (s : State) : Result :=
  .next (s.deliver (Notice.isInsideLeft k z) (fun _ s =>
    s.reviewAll false order (fun b => b.crane == k && b.state == .closing)))

/-- CLOCK_SECOND (R170). -/
def execClockSecond (order : List Nat) (s : State) : Result := .next (s.secondPasses order)

/-- MAST_NOTICE: the Wind Evaluator's copy of the mast takes the state, and the speed of a valid reply (R163, R90). -/
def execMastNotice (m : Mast) (s : State) : Result :=
  .next (s.deliver (Notice.isMast m) (fun n s => match n with
    | .mast _ state speed => s.takeMastNotice m state speed
    | .link _ _ _ | .level _ _ | .service _ _ | .mode | .clock | .clearance _ _ _ | .insideLeft _ _ => s))

end Sys2Proof.Machine
end

