-- ==== Sys2Proof/Machine/MastEvents.lean ====
section
/-! DEFINITION. The events of the mast line: MAST_SLOT_START, MAST_REQUEST_SENT, MAST_REPLY, MAST_WINDOW_CLOSE,
MAST_CHARACTER. An event that cannot occur in the state it finds leaves the state as it is (log 2). -/

namespace Sys2Proof.Machine

/-- The mast whose slot follows (R160). -/
def nextSlot (m : Mast) : Mast := m + 1

/-- MAST_SLOT_START: the present slot ends and the next begins. Every exchange ends within its slot (R159, R161), so
none is in flight (log 16). -/
def State.slotStarts (s : State) : State :=
  if s.mastLine.exchange.isSome then s
  else
    (s.reach s.mastLine.slotDue).beginSlot (nextSlot s.mastLine.slot)
      (s.mastLine.slotDue + BitVec.ofNat 32 Config.mastSlot)

/-- MAST_REQUEST_SENT: DE is deasserted and the reply window opens (R161). -/
def State.mastWindowOpens (s : State) : State :=
  match s.mastLine.exchange with
  | none => s
  | some x =>
    if x.progress = .sending then
      { s with mastLine :=
        { s.mastLine with exchange := some { x with progress := .window (s.later Config.mastWindow) [] false } } }
    else s

/-- MAST_WINDOW_CLOSE: the exchange ends with fewer than four characters, a miss (R161). -/
def State.mastWindowCloses (s : State) : State :=
  match s.mastLine.exchange with
  | none => s
  | some x =>
    match x.progress with
    | .window due _ _ => (s.reach due).endMastExchange x none
    | .sending => s

/-- MAST_SLOT_START (R160). -/
def execMastSlotStart (s : State) : Result := .next s.slotStarts

/-- MAST_REQUEST_SENT (R161). -/
def execMastRequestSent (s : State) : Result := .next s.mastWindowOpens

/-- MAST_REPLY: the samples that complete the reply (R161). -/
def execMastReply (x : Samples) (s : State) : Result := .next (s.sampleMasts x)

/-- MAST_WINDOW_CLOSE (R161). -/
def execMastWindowClose (s : State) : Result := .next s.mastWindowCloses

/-- MAST_CHARACTER (R161). -/
def execMastCharacter (x : Samples) (s : State) : Result := .next (s.sampleMasts x)

end Sys2Proof.Machine
end

