-- ==== Sys2Proof/Machine/Dispatch.lean ====
section
/-! DEFINITION. One arm for each command, each one direct call of its meaning. -/

namespace Sys2Proof.Machine

/-- The effect of a command on everything but the queue of commands. -/
def exec (i : Instr) (s : State) : Host.Outcome State Fault Refusal :=
  match i with
  | .powerOn => Sys2Proof.Machine.execPowerOn s
  | .supervisorOctet c => Sys2Proof.Machine.execSupervisorOctet c s
  | .frameGapTimeout => Sys2Proof.Machine.execFrameGapTimeout s
  | .unknownType typ seq payload => Sys2Proof.Machine.execUnknownType typ seq payload s
  | .replySend ready => Sys2Proof.Machine.execReplySend ready s
  | .replySent => Sys2Proof.Machine.execReplySent s
  | .status seq payload => Sys2Proof.Machine.execStatus seq payload s
  | .start seq payload => Sys2Proof.Machine.execStart seq payload s
  | .hold seq payload => Sys2Proof.Machine.execHold seq payload s
  | .resume seq payload => Sys2Proof.Machine.execResume seq payload s
  | .setup seq payload => Sys2Proof.Machine.execSetup seq payload s
  | .restart seq payload => Sys2Proof.Machine.execRestart seq payload s
  | .clock seq payload => Sys2Proof.Machine.execClock seq payload s
  | .tag seq payload => Sys2Proof.Machine.execTag seq payload s
  | .attnMask seq payload => Sys2Proof.Machine.execAttnMask seq payload s
  | .craneDef seq payload => Sys2Proof.Machine.execCraneDef seq payload s
  | .craneClear seq payload => Sys2Proof.Machine.execCraneClear seq payload s
  | .craneRead seq payload => Sys2Proof.Machine.execCraneRead seq payload s
  | .zoneDef seq payload => Sys2Proof.Machine.execZoneDef seq payload s
  | .zoneDel seq payload => Sys2Proof.Machine.execZoneDel seq payload s
  | .zoneRead seq payload => Sys2Proof.Machine.execZoneRead seq payload s
  | .mastDef seq payload => Sys2Proof.Machine.execMastDef seq payload s
  | .siteDef seq payload => Sys2Proof.Machine.execSiteDef seq payload s
  | .siteRead seq payload => Sys2Proof.Machine.execSiteRead seq payload s
  | .lineOn seq payload => Sys2Proof.Machine.execLineOn seq payload s
  | .lineOff seq payload => Sys2Proof.Machine.execLineOff seq payload s
  | .service seq payload => Sys2Proof.Machine.execService seq payload s
  | .craneState seq payload => Sys2Proof.Machine.execCraneState seq payload s
  | .text seq payload => Sys2Proof.Machine.execText seq payload s
  | .declare seq payload => Sys2Proof.Machine.execDeclare seq payload s
  | .zoneState seq payload => Sys2Proof.Machine.execZoneState seq payload s
  | .resolve seq payload => Sys2Proof.Machine.execResolve seq payload s
  | .windRead seq payload => Sys2Proof.Machine.execWindRead seq payload s
  | .book seq payload => Sys2Proof.Machine.execBook seq payload s
  | .cancel seq payload => Sys2Proof.Machine.execCancel seq payload s
  | .bookingRead seq payload => Sys2Proof.Machine.execBookingRead seq payload s
  | .bookingList seq payload => Sys2Proof.Machine.execBookingList seq payload s
  | .bookingRemove seq payload => Sys2Proof.Machine.execBookingRemove seq payload s
  | .events seq payload => Sys2Proof.Machine.execEvents seq payload s
  | .cycleExpiry k => Sys2Proof.Machine.execCycleExpiry k s
  | .frameSent k => Sys2Proof.Machine.execFrameSent k s
  | .replyWindowClose k => Sys2Proof.Machine.execReplyWindowClose k s
  | .silenceLimit k => Sys2Proof.Machine.execSilenceLimit k s
  | .replyBufferFull k c => Sys2Proof.Machine.execReplyBufferFull k c s
  | .report k cs => Sys2Proof.Machine.execReport k cs s
  | .echo k cs => Sys2Proof.Machine.execEcho k cs s
  | .ready k cs => Sys2Proof.Machine.execReady k cs s
  | .ident k cs => Sys2Proof.Machine.execIdent k cs s
  | .wakePulseEnd k => Sys2Proof.Machine.execWakePulseEnd k s
  | .wakeIdleEnd k => Sys2Proof.Machine.execWakeIdleEnd k s
  | .backoffExpiry k => Sys2Proof.Machine.execBackoffExpiry k s
  | .waitreadyExpiry k => Sys2Proof.Machine.execWaitreadyExpiry k s
  | .readyDeadline k => Sys2Proof.Machine.execReadyDeadline k s
  | .lostExpiry k => Sys2Proof.Machine.execLostExpiry k s
  | .linkNotice k order => Sys2Proof.Machine.execLinkNotice k order s
  | .slotClose order => Sys2Proof.Machine.execSlotClose order s
  | .levelNotice k order => Sys2Proof.Machine.execLevelNotice k order s
  | .serviceNotice k order => Sys2Proof.Machine.execServiceNotice k order s
  | .modeNotice order => Sys2Proof.Machine.execModeNotice order s
  | .clockNotice order => Sys2Proof.Machine.execClockNotice order s
  | .clearanceNotice z id => Sys2Proof.Machine.execClearanceNotice z id s
  | .insideLeftNotice k z order => Sys2Proof.Machine.execInsideLeftNotice k z order s
  | .clockSecond order => Sys2Proof.Machine.execClockSecond order s
  | .mastSlotStart => Sys2Proof.Machine.execMastSlotStart s
  | .mastRequestSent => Sys2Proof.Machine.execMastRequestSent s
  | .mastReply cs => Sys2Proof.Machine.execMastReply cs s
  | .mastWindowClose => Sys2Proof.Machine.execMastWindowClose s
  | .mastNotice m => Sys2Proof.Machine.execMastNotice m s
  | .replyCharacter k c => Sys2Proof.Machine.execReplyCharacter k c s
  | .mastCharacter c => Sys2Proof.Machine.execMastCharacter c s

end Sys2Proof.Machine
end

