-- ==== Sys2Proof/Safety.lean ====
section
/-! DEFINITION. The terms in which claims about the machine are made: which parts of the state a step may touch, what a
request that is answered leaves behind, and the invariants. -/

namespace Sys2Proof.Machine

/-! ## Frames -/

/-- The parts of the state, one for each field of `State`. -/
inductive Part where
  | pending | notices | cranes | zones | params | tag | faces | msCount | arb | declared | sent | vane | service
  | lines | wind | windMasts | windDue | bookings | nextId | termSeq | mastLine | mode | clock | clockValid
  | clockDue | events | overflow | port
  deriving DecidableEq, Repr

/-- The part is the same in both states. -/
def Part.same (p : Part) (s t : State) : Prop :=
  match p with
  | .pending => t.pending = s.pending
  | .notices => t.notices = s.notices
  | .cranes => t.cranes = s.cranes
  | .zones => t.zones = s.zones
  | .params => t.params = s.params
  | .tag => t.tag = s.tag
  | .faces => t.faces = s.faces
  | .msCount => t.msCount = s.msCount
  | .arb => t.arb = s.arb
  | .declared => t.declared = s.declared
  | .sent => t.sent = s.sent
  | .vane => t.vane = s.vane
  | .service => t.service = s.service
  | .lines => t.lines = s.lines
  | .wind => t.wind = s.wind
  | .windMasts => t.windMasts = s.windMasts
  | .windDue => t.windDue = s.windDue
  | .bookings => t.bookings = s.bookings
  | .nextId => t.nextId = s.nextId
  | .termSeq => t.termSeq = s.termSeq
  | .mastLine => t.mastLine = s.mastLine
  | .mode => t.mode = s.mode
  | .clock => t.clock = s.clock
  | .clockValid => t.clockValid = s.clockValid
  | .clockDue => t.clockDue = s.clockDue
  | .events => t.events = s.events
  | .overflow => t.overflow = s.overflow
  | .port => t.port = s.port

/-- Going from `s` to `t`, no part but those listed has changed. -/
structure Within (ps : List Part) (s t : State) : Prop where
  /-- Every part that is not listed is the same. -/
  same : ∀ p, p ∉ ps → p.same s t

/-- The parts of the state that each command can touch, read from the blocks that own them (00, Block overview) and
from what each step holds (95): a request also touches the port that takes it and answers it. -/
def touches : Instr → List Part
  | .powerOn =>
    [.notices, .cranes, .zones, .params, .tag, .faces, .msCount, .arb, .declared, .sent, .vane, .service, .lines,
      .wind, .windMasts, .windDue, .bookings, .nextId, .termSeq, .mastLine, .mode, .clock, .clockValid, .clockDue,
      .events, .overflow, .port]
  | .replySent =>
    [.notices, .faces, .msCount, .arb, .declared, .sent, .vane, .lines, .wind, .windMasts, .windDue, .bookings,
      .termSeq, .mastLine, .mode, .clockDue, .events, .overflow, .port]
  | .supervisorOctet _ | .frameGapTimeout | .unknownType _ _ _ | .replySend _ | .status _ _ | .restart _ _
  | .attnMask _ _ | .craneRead _ _ | .zoneRead _ _ | .siteRead _ _ | .zoneState _ _ | .windRead _ _
  | .bookingRead _ _ | .bookingList _ _ => [.port]
  | .start _ _ => [.mode, .arb, .declared, .events, .overflow, .port]
  | .hold _ _ | .resume _ _ => [.mode, .notices, .events, .overflow, .port]
  | .setup _ _ => [.mode, .arb, .declared, .bookings, .termSeq, .faces, .events, .overflow, .port]
  | .clock _ _ => [.clock, .clockValid, .notices, .events, .overflow, .port]
  | .tag _ _ => [.tag, .port]
  | .craneDef _ _ => [.cranes, .wind, .vane, .lines, .notices, .events, .overflow, .port]
  | .craneClear _ _ => [.cranes, .service, .wind, .vane, .lines, .events, .overflow, .port]
  | .zoneDef _ _ | .zoneDel _ _ => [.zones, .arb, .faces, .port]
  | .mastDef _ _ => [.mastLine, .windMasts, .port]
  | .siteDef _ _ => [.params, .port]
  | .lineOn _ _ => [.lines, .notices, .port]
  | .lineOff _ _ => [.lines, .notices, .arb, .events, .overflow, .port]
  | .service _ _ => [.service, .notices, .port]
  | .craneState _ _ | .text _ _ => [.lines, .port]
  | .declare _ _ => [.arb, .declared, .notices, .events, .overflow, .port]
  | .resolve _ _ => [.arb, .port]
  | .book _ _ => [.bookings, .nextId, .events, .overflow, .port]
  | .cancel _ _ => [.bookings, .termSeq, .arb, .notices, .events, .overflow, .port]
  | .bookingRemove _ _ => [.bookings, .port]
  | .events _ _ => [.events, .overflow, .port]
  | .cycleExpiry _ => [.msCount, .faces, .lines, .vane, .sent, .arb, .notices, .events, .overflow]
  | .frameSent _ => [.lines]
  | .wakePulseEnd _ => [.msCount, .lines]
  | .wakeIdleEnd _ | .backoffExpiry _ | .lostExpiry _ => [.msCount, .lines, .notices]
  | .replyWindowClose _ | .waitreadyExpiry _ | .readyDeadline _ => [.msCount, .lines, .notices, .events, .overflow]
  | .silenceLimit _ => [.lines, .notices, .events, .overflow]
  | .replyBufferFull _ _ | .replyCharacter _ _ | .report _ _ | .echo _ _ | .ready _ _ | .ident _ _ =>
    [.lines, .wind, .notices, .events, .overflow]
  | .linkNotice _ _ =>
    [.faces, .declared, .wind, .bookings, .termSeq, .arb, .notices, .events, .overflow]
  | .levelNotice _ _ | .serviceNotice _ _ | .modeNotice _ | .clockNotice _ | .clearanceNotice _ _
  | .insideLeftNotice _ _ _ => [.bookings, .termSeq, .arb, .notices, .events, .overflow]
  | .slotClose _ => [.msCount, .windDue, .wind, .windMasts, .notices, .events, .overflow]
  | .clockSecond _ =>
    [.msCount, .clock, .clockDue, .bookings, .termSeq, .arb, .notices, .events, .overflow]
  | .mastSlotStart => [.msCount, .mastLine]
  | .mastRequestSent => [.mastLine]
  | .mastReply _ | .mastCharacter _ => [.mastLine, .notices, .events, .overflow]
  | .mastWindowClose => [.msCount, .mastLine, .notices, .events, .overflow]
  | .mastNotice _ => [.windMasts, .notices]

/-! ## Requests that are answered (R178, R180) -/

/-- The record that an append made now would place in the event queue (R170, R172). -/
def State.record (s : State) (kind : EventKind) (crane zone booking : Nat) (a b : Int) : Event :=
  { time := s.clock, kind := kind, crane := crane, zone := zone, booking := booking, a := a, b := b }

/-- The state once the port has taken the oldest request from its queue. -/
def State.taken (s : State) : State := { s with port := { s.port with requests := s.port.requests.tail } }

/-- The state `t` that the owner of a request left, once the reply is formed: it carries the type plus 0x80, the
sequence, the reply code, the mode, attention word and tag as `t` has them, and the payload; it joins the reply queue,
and DISCARD is cleared (R180). -/
def State.answered (t : State) (typ seq : Byte) (code : ReplyCode) (payload : List Byte) : State :=
  { t with port :=
    { t.port with
      discard := false
      replies := t.port.replies ++
        [{ typ := if typ.toNat < 128 then typ + 128 else 255, seq := seq, code := code, mode := t.mode, attn := t.attn,
           tag := t.tag, payload := payload }] } }

/-- The state after a request that is refused: nothing has changed but the port (R180). -/
def State.refused (s : State) (typ seq : Byte) (code : ReplyCode) : State := s.taken.answered typ seq code []

/-- The frame whose taking a request command is (11, Type codes); none for a command that is no request. -/
def requestFrame : Instr → Option Frame
  | .unknownType typ seq p =>
    if requestTypes.contains typ then none else some { typ := typ, seq := seq, payload := p }
  | .status seq p => some { typ := 0x01, seq := seq, payload := p }
  | .start seq p => some { typ := 0x02, seq := seq, payload := p }
  | .hold seq p => some { typ := 0x03, seq := seq, payload := p }
  | .resume seq p => some { typ := 0x04, seq := seq, payload := p }
  | .setup seq p => some { typ := 0x05, seq := seq, payload := p }
  | .restart seq p => some { typ := 0x06, seq := seq, payload := p }
  | .clock seq p => some { typ := 0x07, seq := seq, payload := p }
  | .tag seq p => some { typ := 0x08, seq := seq, payload := p }
  | .attnMask seq p => some { typ := 0x09, seq := seq, payload := p }
  | .craneDef seq p => some { typ := 0x10, seq := seq, payload := p }
  | .craneClear seq p => some { typ := 0x11, seq := seq, payload := p }
  | .craneRead seq p => some { typ := 0x12, seq := seq, payload := p }
  | .zoneDef seq p => some { typ := 0x13, seq := seq, payload := p }
  | .zoneDel seq p => some { typ := 0x14, seq := seq, payload := p }
  | .zoneRead seq p => some { typ := 0x15, seq := seq, payload := p }
  | .mastDef seq p => some { typ := 0x16, seq := seq, payload := p }
  | .siteDef seq p => some { typ := 0x17, seq := seq, payload := p }
  | .siteRead seq p => some { typ := 0x18, seq := seq, payload := p }
  | .lineOn seq p => some { typ := 0x20, seq := seq, payload := p }
  | .lineOff seq p => some { typ := 0x21, seq := seq, payload := p }
  | .service seq p => some { typ := 0x22, seq := seq, payload := p }
  | .craneState seq p => some { typ := 0x23, seq := seq, payload := p }
  | .text seq p => some { typ := 0x24, seq := seq, payload := p }
  | .declare seq p => some { typ := 0x25, seq := seq, payload := p }
  | .zoneState seq p => some { typ := 0x28, seq := seq, payload := p }
  | .resolve seq p => some { typ := 0x29, seq := seq, payload := p }
  | .windRead seq p => some { typ := 0x30, seq := seq, payload := p }
  | .book seq p => some { typ := 0x38, seq := seq, payload := p }
  | .cancel seq p => some { typ := 0x39, seq := seq, payload := p }
  | .bookingRead seq p => some { typ := 0x3A, seq := seq, payload := p }
  | .bookingList seq p => some { typ := 0x3B, seq := seq, payload := p }
  | .bookingRemove seq p => some { typ := 0x3C, seq := seq, payload := p }
  | .events seq p => some { typ := 0x40, seq := seq, payload := p }
  | .powerOn | .supervisorOctet _ | .frameGapTimeout | .replySend _ | .replySent | .cycleExpiry _ | .frameSent _
  | .replyWindowClose _ | .silenceLimit _ | .replyBufferFull _ _ | .report _ _ | .echo _ _ | .ready _ _ | .ident _ _
  | .wakePulseEnd _ | .wakeIdleEnd _ | .backoffExpiry _ | .waitreadyExpiry _ | .readyDeadline _ | .lostExpiry _
  | .linkNotice _ _ | .slotClose _ | .levelNotice _ _ | .serviceNotice _ _ | .modeNotice _ | .clockNotice _
  | .clearanceNotice _ _ | .insideLeftNotice _ _ _ | .clockSecond _ | .mastSlotStart | .mastRequestSent | .mastReply _
  | .mastWindowClose | .mastNotice _ | .replyCharacter _ _ | .mastCharacter _ => none

/-- The payload length a request asks for: fixed, or set by its own count fields (R179; 11, the message tables). -/
def askedLength : Instr → Option Nat
  | .status _ _ | .start _ _ | .hold _ _ | .resume _ _ | .setup _ _ | .restart _ _ | .siteRead _ _
  | .bookingList _ _ | .events _ _ => some 0
  | .clock _ _ => some 4
  | .tag _ _ | .attnMask _ _ | .mastDef _ _ | .service _ _ | .craneState _ _ | .resolve _ _ | .cancel _ _
  | .bookingRead _ _ | .bookingRemove _ _ => some 2
  | .craneDef _ _ => some 37
  | .craneClear _ _ | .craneRead _ _ | .zoneDel _ _ | .zoneRead _ _ | .lineOn _ _ | .lineOff _ _
  | .zoneState _ _ | .windRead _ _ => some 1
  | .zoneDef _ p => some (5 + 12 * oct p 4)
  | .siteDef _ _ => some 15
  | .text _ p => some (2 + oct p 1)
  | .declare _ p => some (3 + oct p 2)
  | .book _ p => some (bookLength p)
  | .unknownType _ _ _ | .powerOn | .supervisorOctet _ | .frameGapTimeout | .replySend _ | .replySent | .cycleExpiry _
  | .frameSent _ | .replyWindowClose _ | .silenceLimit _ | .replyBufferFull _ _ | .report _ _ | .echo _ _ | .ready _ _
  | .ident _ _ | .wakePulseEnd _ | .wakeIdleEnd _ | .backoffExpiry _ | .waitreadyExpiry _ | .readyDeadline _
  | .lostExpiry _ | .linkNotice _ _ | .slotClose _ | .levelNotice _ _ | .serviceNotice _ _ | .modeNotice _
  | .clockNotice _ | .clearanceNotice _ _ | .insideLeftNotice _ _ _ | .clockSecond _ | .mastSlotStart
  | .mastRequestSent | .mastReply _ | .mastWindowClose | .mastNotice _ | .replyCharacter _ _ | .mastCharacter _ => none

/-- The request writes the Site Model, and is taken in SETUP alone (R3). -/
def configures : Instr → Bool
  | .tag _ _ | .craneDef _ _ | .craneClear _ _ | .zoneDef _ _ | .zoneDel _ _ | .mastDef _ _ | .siteDef _ _ => true
  | .unknownType _ _ _ | .status _ _ | .start _ _ | .hold _ _ | .resume _ _ | .setup _ _ | .restart _ _ | .clock _ _
  | .attnMask _ _ | .craneRead _ _ | .zoneRead _ _ | .siteRead _ _ | .lineOn _ _ | .lineOff _ _ | .service _ _
  | .craneState _ _ | .text _ _ | .declare _ _ | .zoneState _ _ | .resolve _ _ | .windRead _ _ | .book _ _
  | .cancel _ _ | .bookingRead _ _ | .bookingList _ _ | .bookingRemove _ _ | .events _ _ | .powerOn
  | .supervisorOctet _ | .frameGapTimeout | .replySend _ | .replySent | .cycleExpiry _ | .frameSent _
  | .replyWindowClose _ | .silenceLimit _ | .replyBufferFull _ _ | .report _ _ | .echo _ _ | .ready _ _ | .ident _ _
  | .wakePulseEnd _ | .wakeIdleEnd _ | .backoffExpiry _ | .waitreadyExpiry _ | .readyDeadline _ | .lostExpiry _
  | .linkNotice _ _ | .slotClose _ | .levelNotice _ _ | .serviceNotice _ _ | .modeNotice _ | .clockNotice _
  | .clearanceNotice _ _ | .insideLeftNotice _ _ _ | .clockSecond _ | .mastSlotStart | .mastRequestSent | .mastReply _
  | .mastWindowClose | .mastNotice _ | .replyCharacter _ _ | .mastCharacter _ => false

/-- The port takes a request of this type, sequence and payload now (R178; log 3). -/
def State.takes (s : State) (typ seq : Byte) (payload : List Byte) : Prop :=
  s.port.canTake { typ := typ, seq := seq, payload := payload } = true

/-! ## Requests carried in octets (11, Zone, wind and booking requests) -/

/-- The BOOK payload `p` carries the request `q`, with every number in the range of check 1 of R107: crane (1), start (4),
end (4), the reserved zones after their count (1), the opened zones after theirs (1), the wind limit (2) after its presence
octet (1), and the label after its length (1). The zones may stand in any order in the payload; the octets of a limit that
is not present may hold anything (R179, R188). -/
def BookRequest.carried (q : BookRequest) (p : List Byte) : Prop :=
  let one := fun (n : Nat) => BitVec.ofNat 8 n
  let two := fun (n : Nat) => [BitVec.ofNat 8 (n / 256), BitVec.ofNat 8 n]
  let four := fun (n : Nat) => two (n / 65536) ++ two n
  ∃ (reserved opened : List Zone) (limit : Nat),
    p = [one (number q.crane)] ++ four q.start ++ four q.finish ++ one reserved.length :: reserved.map (one ∘ number) ++
      one opened.length :: opened.map (one ∘ number) ++ [if q.windLimit = none then 0 else 1] ++ two limit ++
      one q.label.length :: q.label ∧
    q.start < q.finish ∧ q.finish < 2 ^ 32 ∧ q.finish - q.start ≤ 14400 ∧
    reserved.length ≤ 4 ∧ opened.length ≤ 2 ∧ (reserved ++ opened).Nodup ∧ reserved ++ opened ≠ [] ∧
    reserved.Perm q.reserved ∧ q.reserved.Pairwise (· < ·) ∧ opened.Perm q.opened ∧ q.opened.Pairwise (· < ·) ∧
    (∀ w, q.windLimit = some w → limit = w ∧ w ≤ 600) ∧ q.label.length ≤ 16

/-! ## Events appended (R173) -/

/-- Going from `s` to `t` the event queue took the records `new`, in this order: it holds the last 64 of all, and
OVERFLOW is set once one was lost (R173). -/
def State.logged (s t : State) (new : List Event) : Prop :=
  s.events.length ≤ 64 →
    t.events = (s.events ++ new).drop (s.events.length + new.length - 64) ∧
      t.overflow = (s.overflow || decide (64 < s.events.length + new.length))

/-- CONFLICT_BEGIN or CONFLICT_END of zone `z` (R52). -/
def Event.isConflict (z : Zone) (e : Event) : Bool :=
  (e.kind == .conflictBegin || e.kind == .conflictEnd) && e.zone == number z

/-! ## The course of a zone's record (R45 to R52, R54, R57 to R66) -/

/-- The cranes inside that neither hold nor sweep the zone (R52). -/
def ZoneRt.trespassers (r : ZoneRt) : List Crane :=
  r.inside.filter (fun j => decide (r.holder ≠ some j ∧ j ∉ r.sweep))

/-- A zone's record as the actions of a step take it from one value to the next, and the conflict events and the notices
they bring, oldest first. -/
structure Course where
  record : ZoneRt
  events : List Event
  notices : List Notice
  deriving DecidableEq, Repr

/-- The course of a zone before any action. -/
def State.courseOf (s : State) (z : Zone) : Course := { record := s.zone z, events := [], notices := [] }

/-- Changes that bring neither a pass nor an event nor a notice. -/
def Course.set (q : Course) (r : ZoneRt) : Course := { q with record := r }

/-- One action of crane *k* at the shared zone `z` whose own changes leave the record `r`. A grant pass follows where the
action asks for one, and where a contest ended (R50). For a reserved zone a clearance notice follows, where `tell` says so
or the holder changed, the sweep set emptied or the pass changed it (R49, R65). Where the zone became contested or ceased
to be, the event names *k* if it is among the intruders that came or went, and otherwise the first of them (R52; log 7). -/
def Course.act (s : State) (z : Zone) (k : Crane) (q : Course) (r : ZoneRt) (pass tell : Bool) : Course :=
  let before := q.record
  let after := if pass || (!before.trespassers.isEmpty && r.trespassers.isEmpty) then r.grantPass else r
  let moved := decide (before.holder ≠ after.holder ∨ (before.sweep ≠ [] ∧ after.sweep = []) ∨ r.sweep ≠ after.sweep)
  let named := fun (l : List Crane) => number (if k ∈ l then k else l.headD k)
  { record := after
    events := q.events ++ (match before.trespassers, after.trespassers with
      | [], j :: l => [s.record .conflictBegin (named (j :: l)) (number z) 0 (l.length + 1) 0]
      | j :: l, [] => [s.record .conflictEnd (named (j :: l)) (number z) 0 0 0]
      | _, _ => [])
    notices := q.notices ++ (match after.reservation with
      | none => []
      | some v =>
        if tell || moved then
          [.clearance z v.id (decide ((after.holder = none ∨ after.holder = some v.crane) ∧ after.sweep = []))]
        else []) }

/-- A guard-end notice of *k* (R57). -/
def Course.guardEnd (s : State) (z : Zone) (k : Crane) (q : Course) : Course :=
  if k ∈ q.record.guard then
    let guard := q.record.guard.filter (· != k)
    q.act s z k { q.record with guard := guard } guard.isEmpty false
  else q

/-- An inside-set update of *k* (R51, R54). -/
def Course.inside (s : State) (z : Zone) (k : Crane) (present : Bool) (q : Course) : Course :=
  let r := q.record
  if present then
    if k ∈ r.inside then q
    else if s.isShared z then q.act s z k { r with inside := addTo k r.inside } false false
    else q.set { r with inside := addTo k r.inside }
  else if k ∉ r.inside then q
  else
    let inside := r.inside.filter (· != k)
    if s.isShared z then
      q.act s z k { r with inside := inside, mover := if r.mover = some k then none else r.mover } (r.mover == some k)
        false
    else { q with record := { r with inside := inside }, notices := q.notices ++ [.insideLeft k z] }

/-- A request of *k* (R45, R48). -/
def Course.request (s : State) (z : Zone) (k : Crane) (q : Course) : Course :=
  let r := q.record
  if r.holder = some k ∨ k ∈ r.sweep ∨ k ∈ r.waiting then q
  else if r.holder = none ∧ r.sweep = [] ∧ r.guard = [] ∧
      ((r.reservation = none ∧ r.claims = []) ∨ r.reservation.map (·.crane) = some k) then
    q.act s z k { r with holder := some k } false false
  else q.set { r with waiting := r.waiting ++ [k] }

/-- A withdraw of *k* (R46, R48). -/
def Course.withdraw (k : Crane) (q : Course) : Course :=
  let r := q.record
  if k ∈ r.waiting then
    q.set { r with waiting := r.waiting.filter (· != k), mover := if r.mover = some k then none else r.mover }
  else q

/-- A release of *k* (R47, R48). -/
def Course.release (s : State) (z : Zone) (k : Crane) (q : Course) : Course :=
  if q.record.holder = some k then q.act s z k { q.record with holder := none } true false else q

/-- The holding of *k* converts: *k* and every claimant join the sweep set and leave the waiting list (R61). -/
def ZoneRt.converted (r : ZoneRt) (k : Crane) : ZoneRt :=
  { r with
    holder := none, sweep := addTo k (union r.sweep r.claims), claims := []
    waiting := r.waiting.filter (fun j => decide (j ≠ k ∧ j ∉ r.claims)) }

/-- A sweep claim of *k* (R60, R61). -/
def Course.claim (s : State) (z : Zone) (k : Crane) (q : Course) : Course :=
  let r := q.record
  if k ∈ r.sweep ∨ k ∈ r.claims then q
  else if s.isShared z = false then q.set { r with sweep := addTo k r.sweep }
  else if r.reservation.map (·.phase) = some .active then q.set { r with claims := addTo k r.claims }
  else if r.holder = none then
    q.act s z k { r with sweep := addTo k r.sweep, waiting := r.waiting.filter (· != k) } false false
  else if r.holder = some k then q.act s z k (r.converted k) false false
  else q.set { r with claims := addTo k r.claims }

/-- A sweep withdrawal of *k* (R62). -/
def Course.unclaim (s : State) (z : Zone) (k : Crane) (q : Course) : Course :=
  let r := q.record
  let sweep := r.sweep.filter (· != k)
  if s.isShared z then
    q.act s z k { r with sweep := sweep, claims := r.claims.filter (· != k) } (decide (r.sweep ≠ [] ∧ sweep = [])) false
  else q.set { r with sweep := sweep }

/-- DECLARE takes *k* out of the zone (R58). -/
def Course.declare (s : State) (z : Zone) (k : Crane) (q : Course) : Course :=
  let r := q.record
  let inside := r.inside.filter (· != k)
  let sweep := r.sweep.filter (· != k)
  if s.isShared z then
    q.act s z k
      { holder := if r.holder = some k then none else r.holder, sweep := sweep, claims := r.claims.filter (· != k)
        waiting := r.waiting.filter (· != k), reservation := r.reservation, guard := r.guard.filter (· != k)
        inside := inside, mover := if r.mover = some k then none else r.mover } true false
  else q.set { r with inside := inside, sweep := sweep }

/-- A reservation placement for the booking `id` of *k* (R63). -/
def Course.place (s : State) (z : Zone) (id : Nat) (k : Crane) (q : Course) : Course :=
  let r := q.record
  q.act s z k { r with reservation := some { id := id, crane := k, phase := .calling } }
    (decide (k ∈ r.waiting ∧ r.holder = none ∧ r.sweep = [] ∧ r.guard = [])) true

/-- A phase change to ACTIVE for the booking `id` (R64). -/
def Course.activate (s : State) (z : Zone) (id : Nat) (q : Course) : Course :=
  let r := q.record
  match r.reservation with
  | none => q
  | some v =>
    if v.id = id then
      q.act s z v.crane { r with reservation := some { v with phase := .active } } false
        (decide ¬((r.holder = none ∨ r.holder = some v.crane) ∧ r.sweep = []))
    else q

/-- A phase change to SUSPENDED for the booking `id` (R64). -/
def Course.suspend (s : State) (z : Zone) (id : Nat) (q : Course) : Course :=
  let r := q.record
  match r.reservation with
  | none => q
  | some v =>
    let r' := { r with reservation := some { v with phase := .suspended } }
    if v.id ≠ id then q
    else if v.phase ≠ .active then q.set r'
    else match r.holder with
      | none => q.act s z v.crane r' true false
      | some j => if j ∈ r.claims then q.act s z j (r'.converted j) false false else q.set r'

/-- A reservation removal for the booking `id` (R66). -/
def Course.unreserve (s : State) (z : Zone) (id : Nat) (q : Course) : Course :=
  let r := q.record
  match r.reservation with
  | none => q
  | some v => if v.id = id then q.act s z v.crane { r with reservation := none } r.holder.isNone false else q

/-- Zone `z` has run this course by state `t`: its record, its conflict events among the records `new`, and among the
notices `posted` those that name it, and no notice of another kind (R51, R52, R65). -/
def State.ran (t : State) (z : Zone) (q : Course) (new : List Event) (posted : List Notice) : Prop :=
  t.zone z = q.record ∧ new.filter (Event.isConflict z) = q.events ∧
    posted.filter (fun n => match n with
      | .clearance y _ _ | .insideLeft _ y => y == z
      | .link _ _ _ | .level _ _ | .service _ _ | .mode | .clock | .mast _ _ _ => true) = q.notices

/-! ## Reviews of bookings (R110 to R119) -/

/-- The cause of the first call condition that fails, none while all hold: the mode is RUN, the crane's link is ONLINE, its
service state IN_SERVICE, its wind level CALM or CAUTION, and its gust known and at most the booking's wind limit or else
the stop gust (R111). -/
def State.obstacle (s : State) (b : Booking) : Option BookingCause :=
  let w := s.wind[b.crane]
  let limit := b.windLimit.getD (s.craneRec b.crane).stopGust
  if s.mode ≠ .run then some .hold
  else if (s.line b.crane).link ≠ .online then some .link
  else if s.service[b.crane] ≠ .inService then some .service
  else if (w.level = .calm ∨ w.level = .caution) ∧ w.values ≠ [] ∧
      (w.values.sum + w.values.length - 1) / w.values.length ≤ limit then none
  else some .wind

/-- What the review of booking `b` of `s` has made of it, of its events and of its reserved zones by state `t`. Every
moment counts as past where `wrapped` says so (R110). `course` is what each zone came to before the review. A zone runs
exactly the course that the review gives it where no other booking that is not terminal reserves it (`alone`). -/
def State.reviewed (s : State) (wrapped : Bool) (course : Zone → Course) (b : Booking) (t : State) (new : List Event)
    (posted : List Notice) : Prop :=
  let past := fun (m : Nat) => wrapped = true ∨ m ≤ s.clock
  let inOpened := ∃ y ∈ b.opened, b.crane ∈ (s.zone y).inside
  let alone := b.reserved.Nodup ∧
    ∀ d ∈ s.bookings, d.id ≠ b.id → d.state.terminal = false → ∀ z ∈ b.reserved, z ∉ d.reserved
  let clear := fun (course : Zone → Course) => ∀ z ∈ b.reserved,
    ((course z).record.holder = none ∨ (course z).record.holder = some b.crane) ∧ (course z).record.sweep = []
  let changed := fun (steps : List (BookingState × BookingCause)) (course : Zone → Course) =>
    new.filter (fun e => e.kind == .bookingState && e.booking == b.id) =
      steps.map (fun c => s.record .bookingState (number b.crane) 0 b.id c.1.code c.2.code) ∧
    (alone → ∀ z ∈ b.reserved, t.ran z (course z) new posted)
  let becomes := fun (state : BookingState) (cause : BookingCause) (terminal : Option Nat) =>
    ∃ n, t.bookings.find? (fun d => d.id == b.id) =
      some { b with state := state, cause := cause, terminal := terminal, termSeq := n }
  let stays := t.bookings.find? (fun d => d.id == b.id) = some b ∧ changed [] course
  let called := fun (z : Zone) => (course z).place s z b.id b.crane
  let activates := fun (z : Zone) => (course z).activate s z b.id
  let suspends := fun (z : Zone) => (course z).suspend s z b.id
  let removes := fun (z : Zone) => (course z).unreserve s z b.id
  (b.state = .booked →
    (¬ past b.start → stays) ∧
    (past b.start → past b.deadline ∨ past b.finish →
      becomes .lapsed .noStart (some s.clock) ∧ changed [(.lapsed, .noStart)] course) ∧
    (past b.start → ¬ past b.deadline → ¬ past b.finish →
      (∀ cause, s.obstacle b = some cause → stays) ∧
      (s.obstacle b = none →
        becomes .calling .called b.terminal ∨ becomes .active .cleared b.terminal) ∧
      (s.obstacle b = none → b.reserved = [] ∨ (alone ∧ clear called) →
        becomes .active .cleared b.terminal ∧
          changed [(.calling, .called), (.active, .cleared)] (fun z => (called z).activate s z b.id)) ∧
      (s.obstacle b = none → alone → ¬ clear called →
        becomes .calling .called b.terminal ∧ changed [(.calling, .called)] called))) ∧
  (b.state = .calling →
    (past b.deadline ∨ past b.finish →
      becomes .lapsed .notClear (some s.clock) ∧ changed [(.lapsed, .notClear)] removes) ∧
    (¬ past b.deadline → ¬ past b.finish →
      (∀ cause, s.obstacle b = some cause → stays) ∧
      (s.obstacle b = none → b.reserved = [] ∨ (alone ∧ clear course) →
        becomes .active .cleared b.terminal ∧ changed [(.active, .cleared)] activates) ∧
      (s.obstacle b = none → alone → ¬ clear course → stays))) ∧
  (b.state = .active ∨ b.state = .suspended → past b.finish →
    (inOpened → becomes .closing .finished b.terminal ∧ changed [(.closing, .finished)] removes) ∧
    (¬ inOpened → becomes .ended .finished (some s.clock) ∧ changed [(.ended, .finished)] removes)) ∧
  (b.state = .active → ¬ past b.finish →
    (s.obstacle b = none → stays) ∧
    ∀ cause, s.obstacle b = some cause →
      becomes .suspended cause b.terminal ∧ changed [(.suspended, cause)] suspends) ∧
  (b.state = .suspended → ¬ past b.finish →
    (∀ cause, s.obstacle b = some cause → stays) ∧
    (s.obstacle b = none → b.reserved = [] ∨ (alone ∧ clear course) →
      becomes .active .resumed b.terminal ∧ changed [(.active, .resumed)] activates) ∧
    (s.obstacle b = none → alone → ¬ clear course → stays)) ∧
  (b.state = .closing → (inOpened → stays) ∧
    (¬ inOpened → becomes .ended .left (some s.clock) ∧ changed [(.ended, .left)] course)) ∧
  (b.state.terminal = true → stays)

/-- What the reviews of the bookings that `picked` picks have made of the table, the zones, the events and the notices by
state `t`: every booking reviewed as `State.reviewed` says, every other booking as it was and without an event, and every
zone that no booking reviewed reserves come to no more than its course before them. No review is made while CLOCK_VALID is
clear (R110). -/
def State.reviews (s : State) (wrapped : Bool) (picked : Booking → Prop) (course : Zone → Course) (t : State)
    (new : List Event) (posted : List Notice) : Prop :=
  let made := fun (id : Nat) => s.clockValid = true ∧ ∃ d ∈ s.bookings, d.id = id ∧ picked d
  t.bookings.map (·.id) = s.bookings.map (·.id) ∧ (s.clockValid = false → t.bookings = s.bookings) ∧
    (∀ b, s.bookings.find? (fun d => d.id == b.id) = some b →
      (made b.id → s.reviewed wrapped course b t new posted) ∧
      (¬ made b.id → t.bookings.find? (fun d => d.id == b.id) = some b ∧
        ∀ e ∈ new, e.kind = .bookingState → e.booking ≠ b.id)) ∧
    ∀ z, (∀ d ∈ s.bookings, made d.id → d.state.terminal = false → z ∉ d.reserved) → t.ran z (course z) new posted

/-! ## Invariants -/

/-- Every queue is within its bound, the oldest reply is there while it is being sent, and a RESTART that has been
taken and not yet made has its reply in the reply queue (R84, R109, R169, R173, R178, R181). -/
def State.queuesOk (s : State) : Prop :=
  s.events.length ≤ 64 ∧ s.port.requests.length ≤ 2 ∧ s.port.replies.length ≤ 2 ∧ s.bookings.length ≤ 32 ∧
    (∀ k, (s.line k).texts.length ≤ 4 ∧ ∀ t ∈ (s.line k).texts, t.chars.length ≤ 32) ∧
    (s.port.sending = true → s.port.replies ≠ []) ∧ (s.port.restartTaken = true → s.port.replies ≠ [])

/-- Crane *k* stands somewhere in the zone's record. -/
def ZoneRt.names (r : ZoneRt) (k : Crane) : Prop :=
  r.holder = some k ∨ k ∈ r.sweep ∨ k ∈ r.claims ∨ k ∈ r.waiting ∨ k ∈ r.guard ∨ k ∈ r.inside ∨ r.mover = some k

/-- The waiting list names nobody twice, nor the holder, nor a sweep member; a held zone is not swept; no claimant
sweeps already; the mover is inside (R42, R44, R60). -/
def ZoneRt.ok (r : ZoneRt) : Prop :=
  r.waiting.Nodup ∧ (∀ k, r.holder = some k → k ∉ r.waiting ∧ r.sweep = []) ∧ (∀ k ∈ r.sweep, k ∉ r.waiting) ∧
    (∀ k ∈ r.claims, k ∉ r.sweep) ∧ (∀ k, r.mover = some k → k ∈ r.inside)

/-- Every zone's record is well formed and names only cranes with a face in the zone; a zone that is not SHARED has
neither holder, claims, waiting list, guard set nor mover; and in SETUP every record and every declared-clear list is
empty (R42, R43, R44, R68). -/
def State.zonesOk (s : State) : Prop :=
  (∀ z, (s.zone z).ok ∧ (∀ k, (s.zone z).names k → (s.faceIn k z).isSome) ∧
    (s.isShared z = false → (s.zone z).holder = none ∧ (s.zone z).claims = [] ∧ (s.zone z).waiting = [] ∧
      (s.zone z).guard = [] ∧ (s.zone z).mover = none)) ∧
    (s.mode = .setup → (∀ z, s.zone z = .empty) ∧ ∀ k : Crane, s.declared[k] = [])

/-- A wind record is within the bounds of R87, and is at STOP or STORM while its source is MISSING or it is UNSETTLED
(R87, R99). -/
def WindRec.ok (w : WindRec) : Prop :=
  w.quiet ≤ 5 ∧ w.values.length ≤ 3 ∧ (∀ v ∈ w.values, v ≤ 600) ∧ (w.acc = none ↔ w.values = []) ∧
    (∀ a, w.acc = some a → a ≤ 153855) ∧ w.ownSum ≤ 600 * w.ownCount ∧
    (w.source = .missing ∨ w.unsettled = true → w.level = .stop ∨ w.level = .storm)

/-- Every wind record is within its bounds, every mast sample is at most 600, also those on their way in a notice, and
the record of a crane that the evaluator does not work for is fresh (R87, R88, R90, R99). -/
def State.windOk (s : State) : Prop :=
  (∀ k : Crane, s.wind[k].ok ∧ (s.worked k = false → s.wind[k] = .fresh)) ∧
    (∀ m : Mast, ∀ v, s.windMasts[m].sample = some v → v ≤ 600) ∧
    (∀ m state v, Notice.mast m state (some v) ∈ s.notices → v ≤ 600)

/-- The booking table holds at most 32 records, in ascending id, with ids from 1 to 65535; and no two bookings that are
not terminal and whose intervals overlap name the same crane or reserve the same zone (R105, R108, R109). -/
def State.bookingsOk (s : State) : Prop :=
  s.bookings.length ≤ 32 ∧ s.bookings.Pairwise (fun b c => b.id < c.id) ∧ (∀ b ∈ s.bookings, 1 ≤ b.id ∧ b.id ≤ 65535) ∧
    1 ≤ s.nextId ∧ s.nextId ≤ 65535 ∧
    (∀ b ∈ s.bookings, ∀ c ∈ s.bookings, b.id ≠ c.id → b.state.terminal = false → c.state.terminal = false →
      b.start < c.finish → c.start < b.finish →
      b.crane ≠ c.crane ∧ ∀ z ∈ b.reserved, z ∉ c.reserved)

/-- The link state that an exchange of this kind belongs to (R146, R149, R150, R152, R136). -/
def ExchangeKind.fits (x : ExchangeKind) (l : LinkState) : Prop :=
  match x with
  | .wakeCheck _ => l = .rateSearch ∨ l = .check
  | .readyQ => l = .waitready
  | .tagSet _ => l = .tagging
  | .poll _ => l = .online

/-- The link state that a wait belongs to (R144, R148, R155). -/
def LineWait.fits (w : LineWait) (l : LinkState) : Prop :=
  match w with
  | .nothing => True
  | .pulse _ | .idle _ => l = .waking
  | .backoff _ => l = .rateSearch
  | .lost _ => l = .lost

/-- A crane line's own record is consistent: it is enabled exactly while it is not OFF; only a line in ONLINE or
WAITREADY has a cycle timer; an exchange in flight and a wait are of the link state that began them, and there is no
wait during an exchange; and the tag counter is from 1 to 254 (R125, R132, R136, R141, R143, R144, R148, R150). -/
def Line.ok (l : Line) : Prop :=
  (l.enabled = true ↔ l.link ≠ .off) ∧
    (l.cycleTimer ≠ none → l.link = .online ∨ l.link = .waitready) ∧
    (∀ x, l.exchange = some x → x.kind.fits l.link ∧ l.wait = .nothing) ∧
    l.wait.fits l.link ∧
    1 ≤ l.tagCounter.toNat ∧ l.tagCounter.toNat ≤ 254

/-- Every line is consistent, and a line is on only for a crane that is Defined and not absent (R6, R9, R140, R141). -/
def State.linesOk (s : State) : Prop :=
  ∀ k, (s.line k).ok ∧ ((s.line k).link ≠ .off → s.worked k = true)

end Sys2Proof.Machine
end

