-- ==== Sys2Proof/Certificates/Slice0/Obligations.lean ====
section
/-! DEFINITION. The statements for the provers. A request is said to be taken when the port takes its frame now
(`State.takes`); `s.taken` is the state with that frame out of the request queue, and `t.answered typ seq code payload`
is `t` with the reply formed. `Within parts s.taken t` says that the port of `t` is as taking the frame left it, so that
the reply that is formed and DISCARD are all that changes in it besides. -/

open Sys2Proof Sys2Proof.Machine

/-! ## The machine -/

/-- A step takes the command at the front of the queue and has its effect on the state with the queue's rest. With no
command waiting one millisecond passes and nothing else changes: this second clause is the model's own choice
(log 1). -/
def Obligations.StepRunsTheFrontCommandOrIdles : Prop :=
  (∀ (c : Instr) (rest : List Instr) (s : State), s.pending = c :: rest →
    step s = exec c { s with pending := rest }) ∧
  ∀ s : State, s.pending = [] → step s = .next { s with msCount := s.msCount + 1 }

/-- R17, R20, R22, R42, R59, R70, R74, R77, R84, R87, R90, R105, R142, R143, R164, R165, R170, R173, R182: what POWER_ON
leaves in every part of every block. Where the spec gives no value it is the model's choice: the millisecond count at 0
and the first expiries counted from it (logs 1 and 21), the cause of a weathervane record before an episode (log 10),
READY as last sampled (log 11), the count that orders terminal bookings (log 17), the notices dropped (log 19) and the
receivers that have taken no sample (log 32); that no line's next evaluation is its first since ONLINE is its reading
(log 13). -/
def Obligations.PowerOnStartsEveryBlockAfresh : Prop :=
  ∀ s : State, exec .powerOn s = .next
    { pending := s.pending, notices := []
      cranes := Vector.replicate 8 none, zones := Vector.replicate 32 none
      params :=
        { release := 2000, callTimeout := 300, hysteresis := 10, holdStorm := 600, holdStop := 120, holdCaution := 60
          sweepAlarm := 120, divN := 48, divF := 0 }
      tag := 0, faces := Vector.replicate 8 [], msCount := 0
      arb := Vector.replicate 32
        { holder := none, sweep := [], claims := [], waiting := [], reservation := none, guard := [], inside := []
          mover := none }
      declared := Vector.replicate 8 []
      sent := Vector.replicate 8
        { permit := { cw := .stop, ccw := .stop, outward := .stop, inward := .stop, up := .stop, down := .stop }
          weathervane := false, yielding := false, wind := .stop, booking := 0 }
      vane := Vector.replicate 8 { state := .none, pendingSince := none, alarm := false, cause := .wind }
      service := Vector.replicate 8 .inService
      lines := Vector.replicate 8
        { enabled := false, link := .off, rate := none, tag := 0, tagCounter := 1, effCycle := none, missCount := 0
          faults :=
            { timeout := false, parity := false, framing := false, check := false, size := false, tag := false
              range := false }
          lastReport := none, reportSince := false, exchange := none, cycleTimer := none, nextPattern := 0, attempts := 0
          readyDeadline := none, linkCause := .none, wait := .nothing, texts := [], nextSerial := 0, guardEndDue := false
          rx := .hunt false }
      wind := Vector.replicate 8
        { source := .missing, quiet := 5, ownSum := 0, ownCount := 0, values := [], acc := none, level := .stop
          eligible := 0, unsettled := true }
      windMasts := Vector.replicate 4 { state := .unknown, sample := none, fresh := false }
      windDue := 1000, bookings := [], nextId := 1, termSeq := 0
      mastLine :=
        { divN := 48, divF := 0, slot := 0, slotDue := 250, exchange := none, masts := Vector.replicate 4 none
          rx := .hunt false }
      mode := .setup, clock := 0, clockValid := false, clockDue := 1000
      events := [{ time := 0, kind := .powerOn, crane := 0, zone := 0, booking := 0, a := 0, b := 0 }], overflow := false
      port :=
        { asm := .hunt, requests := [], replies := [], sending := false, restartTaken := false, mask := 0xFFFF
          discard := false, ready := false, rx := .hunt false } }

/-- The state after reset meets every invariant. -/
def Obligations.ResetMeetsEveryInvariant : Prop :=
  State.reset.queuesOk ∧ State.reset.zonesOk ∧ State.reset.windOk ∧ State.reset.bookingsOk ∧ State.reset.linesOk

/-- Every command completes, and touches no part of the state but those of `touches`. That a command completes in every
state, also in one where its event cannot occur, is the model's choice: it then leaves the state as it is (log 2), and
no step ends in a fault or a refusal (log 22). -/
def Obligations.EveryCommandStaysWithinItsParts : Prop :=
  ∀ (c : Instr) (s : State), ∃ t, exec c s = .next t ∧ Within (touches c) s t

/-- R3, R20: outside SETUP no step but a power-on changes the Site Model. -/
def Obligations.SiteModelChangesOnlyInSetup : Prop :=
  ∀ s t : State, step s = .next t → s.mode ≠ .setup → s.pending.head? ≠ some .powerOn →
    t.cranes = s.cranes ∧ t.zones = s.zones ∧ t.params = s.params ∧ t.tag = s.tag ∧
      ∀ m, t.mastDefined m = s.mastDefined m

/-- R165, R169: the mode moves only at a mode request taken in its own mode, at a restart and at power-on. -/
def Obligations.ModeMovesOnlyAtItsRequests : Prop :=
  ∀ (c : Instr) (s t : State), exec c s = .next t → t.mode ≠ s.mode →
    (∃ seq p, c = .start seq p ∧ s.mode = .setup ∧ t.mode = .run) ∨
    (∃ seq p, c = .hold seq p ∧ s.mode = .run ∧ t.mode = .hold) ∨
    (∃ seq p, c = .resume seq p ∧ s.mode = .hold ∧ t.mode = .run) ∨
    (∃ seq p, c = .setup seq p ∧ t.mode = .setup) ∨ (c = .replySent ∧ t.mode = .setup) ∨
    (c = .powerOn ∧ t.mode = .setup)

/-- R173: but for a power-on, a restart and the reading of the queue by EVENTS, a step only appends records; it loses
old ones only from a queue that holds 64, and OVERFLOW is then set and stays set. -/
def Obligations.NoEventIsLostSilently : Prop :=
  ∀ (c : Instr) (s t : State), exec c s = .next t → c ≠ .powerOn → c ≠ .replySent → (∀ seq p, c ≠ .events seq p) →
    s.events.length ≤ 64 →
    t.events.length ≤ 64 ∧ (s.overflow = true → t.overflow = true) ∧
      ∃ n new, t.events = s.events.drop n ++ new ∧ (n ≠ 0 → t.overflow = true ∧ t.events.length = 64)

/-! ## Invariants -/

/-- R84, R109, R173, R178, R181: every queue keeps its bound. -/
def Obligations.QueuesKeepTheirBounds : Prop :=
  ∀ s t : State, s.queuesOk → step s = .next t → t.queuesOk

/-- R42, R43, R44, R68: the zone records stay well formed. -/
def Obligations.ZoneRecordsStayWellFormed : Prop :=
  ∀ s t : State, s.zonesOk → step s = .next t → t.zonesOk

/-- R55: no step gives a guarded zone a normal holder. -/
def Obligations.AGuardedZoneGainsNoHolder : Prop :=
  ∀ (s t : State) (z : Zone) (k : Crane), step s = .next t → (t.zone z).holder = some k →
    (s.zone z).holder ≠ some k → (t.zone z).guard = []

/-- R87, R99: every wind record stays within its bounds, and at STOP or STORM while it is MISSING or UNSETTLED. -/
def Obligations.AMissingOrUnsettledWindKeepsTheCraneAtStop : Prop :=
  ∀ s t : State, s.windOk → step s = .next t → t.windOk

/-- R105, R108, R109: the booking table stays in order, and no two bookings that are not terminal clash. -/
def Obligations.BookingsNeverClash : Prop :=
  ∀ s t : State, s.bookingsOk → step s = .next t → t.bookingsOk

/-- R125, R132, R143: every crane line's record stays consistent. -/
def Obligations.CraneLinesStayConsistent : Prop :=
  ∀ s t : State, s.linesOk → step s = .next t → t.linesOk

/-! ## The supervisor port -/

/-- R175 to R178: the octets of a frame, arriving undisturbed one after another on a receiver that hunts, put the frame
into the request queue. -/
def Obligations.AWholeFrameJoinsTheRequestQueue : Prop :=
  ∀ (s : State) (typ seq : Byte) (payload : List Byte) (last : Bool) (rest : List Instr), payload.length ≤ 248 →
    s.port.asm = .hunt → s.port.rx = .hunt last → s.port.requests.length < 2 →
    s.pending =
      (portFrame (typ :: seq :: payload)).map (fun o => Instr.supervisorOctet (wave (portBits o))) ++ rest →
    Sys2Proof.core.run (payload.length + 6) s =
      Host.Outcome.next (({ s with
        pending := rest
        port := { s.port with
          rx := .hunt true
          requests := s.port.requests ++ [{ typ := typ, seq := seq, payload := payload }] } } : State))

/-- R175 to R178: what the receiver on RX and the frame assembler do with each octet, and with too long a gap. The octet
arrives as a character with the stop bit given, on a line nobody disturbs. That an expired gap in HUNT, or while an octet
is being received, changes nothing is the model's choice for an event that cannot occur then (log 2). -/
def Obligations.TheAssemblerTakesEachOctet : Prop :=
  ∀ (s : State) (last : Bool), s.port.rx = .hunt last →
    let dropped := ({ s with port := { s.port with asm := .hunt, discard := true } } : State)
    (∀ n, exec (.supervisorOctet (List.replicate n last)) s = .next s) ∧
    (∀ w : List Bool, last = true → w.length = 9 → w.head? = some false → 2 ≤ ((w.drop 6).filter id).length →
      exec (.supervisorOctet w) s = .next { s with port := { s.port with rx := .hunt (w.getD 8 false) } }) ∧
    (s.port.asm ≠ .hunt → exec .frameGapTimeout s = .next dropped) ∧
    (s.port.asm = .hunt → exec .frameGapTimeout s = .next s) ∧
    (∀ n ones bits, bits ≠ [] →
      let u := ({ s with port := { s.port with rx := .char n ones bits } } : State)
      exec .frameGapTimeout u = .next u) ∧
    ∀ (o : Byte) (stop : Bool),
      let c := Instr.supervisorOctet (wave ([false] ++ octetBits o ++ [stop]))
      let asm := fun (a : Assembler) => ({ s with port := { s.port with rx := .hunt stop, asm := a } } : State)
      let dropped := ({ s with port := { s.port with rx := .hunt stop, asm := .hunt, discard := true } } : State)
      (s.port.asm ≠ .hunt → stop = false → exec c s = .next dropped) ∧
      (s.port.asm = .hunt → o = 0xC5 → stop = true → exec c s = .next (asm .length)) ∧
      (s.port.asm = .hunt → o ≠ 0xC5 ∨ stop = false → exec c s = .next (asm .hunt)) ∧
      (s.port.asm = .length → stop = true → 2 ≤ o.toNat → o.toNat ≤ 250 → exec c s = .next (asm (.body o []))) ∧
      (s.port.asm = .length → o.toNat < 2 ∨ 250 < o.toNat → exec c s = .next dropped) ∧
      (∀ len os, s.port.asm = .body len os → stop = true → os.length + 1 < len.toNat →
        exec c s = .next (asm (.body len (os ++ [o])))) ∧
      (∀ len os, s.port.asm = .body len os → stop = true → os.length + 1 = len.toNat →
        exec c s = .next (asm (.crc len (os ++ [o]) none))) ∧
      (∀ len os, s.port.asm = .crc len os none → stop = true → exec c s = .next (asm (.crc len os (some o)))) ∧
      (∀ len os high, s.port.asm = .crc len os (some high) →
        high.toNat * 256 + o.toNat ≠ (crc (len :: os)).toNat ∨ 2 ≤ s.port.requests.length →
        exec c s = .next dropped) ∧
      (∀ len typ seq payload high, s.port.asm = .crc len (typ :: seq :: payload) (some high) → stop = true →
        high.toNat * 256 + o.toNat = (crc (len :: typ :: seq :: payload)).toNat → s.port.requests.length < 2 →
        exec c s = .next { s with port := { s.port with
          rx := .hunt stop
          asm := .hunt
          requests := s.port.requests ++ [{ typ := typ, seq := seq, payload := payload }] } })

/-- R169, R178: the oldest request is taken while the reply queue has room and no RESTART has been taken; a request
that is not taken changes nothing (log 2). -/
def Obligations.TheOldestRequestIsTakenOrNothingChanges : Prop :=
  (∀ (s : State) (f : Frame) (rest : List Frame), s.port.requests = f :: rest → s.port.restartTaken = false →
    s.port.replies.length < 2 → s.takes f.typ f.seq f.payload ∧ s.taken.port.requests = rest) ∧
  (∀ (s : State) (f g : Frame) (rest : List Frame),
    s.port.restartTaken = true ∨ 2 ≤ s.port.replies.length ∨ (s.port.requests = g :: rest ∧ g ≠ f) →
    ¬ s.takes f.typ f.seq f.payload) ∧
  (∀ (c : Instr) (f : Frame) (s : State), requestFrame c = some f → ¬ s.takes f.typ f.seq f.payload →
    exec c s = .next s)

/-- R179, R180: a request whose payload is longer or shorter than its type and count fields ask for is answered
BAD_LENGTH, an unknown type UNKNOWN_TYPE (under type 0xFF from 0x80 on), and neither changes anything else. -/
def Obligations.RequestsThatFailThePortsChecks : Prop :=
  (∀ (c : Instr) (f : Frame) (n : Nat) (s : State), requestFrame c = some f → askedLength c = some n →
    f.payload.length ≠ n → s.takes f.typ f.seq f.payload →
    exec c s = .next (s.refused f.typ f.seq .badLength)) ∧
  ∀ (typ seq : Byte) (payload : List Byte) (s : State), requestTypes.contains typ = false →
    s.takes typ seq payload →
    exec (.unknownType typ seq payload) s = .next (s.refused typ seq .unknownType) ∧
    ∃ r, (s.refused typ seq .unknownType).port.replies = s.port.replies ++ [r] ∧ r.seq = seq ∧
      r.typ.toNat = (if typ.toNat < 0x80 then typ.toNat + 0x80 else 0xFF) ∧ r.code = .unknownType ∧
      r.mode = s.mode ∧ r.tag = s.tag ∧ r.payload = []

/-- R175, R181: a reply is begun only while READY is asserted, one is sent at a time, it leaves the queue when its last
octet has been sent, and TX carries its frame bit by bit and mark at all other times. The level of READY that is kept as
last sampled is the model's choice (log 11), and so is that REPLY_SENT with no reply in flight changes nothing
(log 2). -/
def Obligations.RepliesAreSentOldestFirst : Prop :=
  (∀ s : State, s.port.sending = false → s.port.replies ≠ [] →
    exec (.replySend true) s = .next { s with port := { s.port with ready := true, sending := true } }) ∧
  (∀ s : State, exec (.replySend false) s = .next { s with port := { s.port with ready := false } }) ∧
  (∀ (s : State) (ready : Bool), s.port.replies = [] ∨ s.port.sending = true →
    exec (.replySend ready) s = .next { s with port := { s.port with ready := ready } }) ∧
  (∀ s : State, s.port.sending = false → exec .replySent s = .next s) ∧
  (∀ s : State, s.port.sending = true → s.port.restartTaken = false ∨ s.port.replies.tail ≠ [] →
    exec .replySent s = .next { s with port := { s.port with
      sending := false, replies := s.port.replies.tail } }) ∧
  (∀ (p : Port) (i : Nat), p.sending = false → p.tx i = true) ∧
  ∀ (p : Port) (r : Reply) (rest : List Reply), p.sending = true → p.replies = r :: rest →
    let two := fun (n : Nat) => [BitVec.ofNat 8 (n / 256), BitVec.ofNat 8 n]
    let mode : Byte := match r.mode with
      | .setup => 0
      | .run => 1
      | .hold => 2
    let body := [r.typ, r.seq, BitVec.ofNat 8 r.code.code, mode] ++ two r.attn.toNat ++ two r.tag.toNat ++ r.payload
    let covered := BitVec.ofNat 8 body.length :: body
    let frame := (0xC5 : Byte) :: covered ++ two (crc covered).toNat
    (∀ n o, frame[n]? = some o →
      p.tx (10 * n) = false ∧ (∀ i, i < 8 → p.tx (10 * n + 1 + i) = o.getLsbD i) ∧ p.tx (10 * n + 9) = true) ∧
    ∀ i, 10 * frame.length ≤ i → p.tx i = true

/-- R169, R121, R142, R160, R164, R173, R182: the restart that follows the RESTART reply. That it comes when the last reply in
the queue has been sent is the model's reading (log 28), and so are the notices that are dropped, the millisecond count
at 0 (log 19), the timers counted from it (log 21), the receivers that have taken no sample (log 32), the call of mast 1 in
the restart's own step (log 16) and that no line's next evaluation is its first since ONLINE (log 13). -/
def Obligations.TheRestartKeepsTheSiteModel : Prop :=
  ∀ s : State, s.port.sending = true → s.port.restartTaken = true → s.port.replies.tail = [] →
    s.bookings.Pairwise (fun b c => b.id < c.id) →
    ∃ t, exec .replySent s = .next t ∧
      t.pending = s.pending ∧ t.cranes = s.cranes ∧ t.zones = s.zones ∧ t.params = s.params ∧ t.tag = s.tag ∧
      t.clock = s.clock ∧ t.clockValid = s.clockValid ∧ t.service = s.service ∧ t.nextId = s.nextId ∧
      t.mode = .setup ∧ t.notices = [] ∧ t.overflow = false ∧ t.msCount = 0 ∧ t.windDue = 1000 ∧ t.clockDue = 1000 ∧
      t.events = [s.record .restart 0 0 0 s.mode.code 0] ∧
      t.port = { s.port with asm := .hunt, requests := [], replies := [], sending := false, restartTaken := false,
                             discard := false } ∧
      (∀ z, t.zone z = .empty) ∧
      (∀ k, t.declared[k] = [] ∧ t.faces[k] = [] ∧ t.sent[k] = .initial ∧ t.wind[k] = .fresh ∧
        t.vane[k].state = .none ∧ t.vane[k].pendingSince = none ∧ t.vane[k].alarm = false ∧
        t.line k =
          { enabled := (s.line k).enabled, link := if (s.line k).enabled then .waking else .off, rate := none, tag := 0
            tagCounter := (s.line k).tagCounter, effCycle := none, missCount := 0, faults := .clear, lastReport := none
            reportSince := false, exchange := none, cycleTimer := none, nextPattern := 0, attempts := 0
            readyDeadline := none, linkCause := .none, wait := if (s.line k).enabled then .pulse 5 else .nothing
            texts := [], nextSerial := (s.line k).nextSerial, guardEndDue := false, rx := .hunt false }) ∧
      (∀ m, t.mastDefined m = s.mastDefined m ∧ t.windMasts[m] = .unknown ∧
        (s.mastDefined m = true → t.mastLine.masts[m] = some .unknown)) ∧
      t.mastLine.slot = 0 ∧ t.mastLine.slotDue = 250 ∧
      t.mastLine.exchange =
        (if s.mastDefined 0 then some { mast := 0, discard := false, progress := .sending } else none) ∧
      t.bookings.map (fun b => (b.id, b.state, b.cause, b.terminal)) = s.bookings.map (fun b =>
        if b.state.inProgress then (b.id, .cancelled, .restart, some s.clock) else (b.id, b.state, b.cause, b.terminal))

/-! ## Readings -/

/-- R69, R104, R123, R185, R186, R188: a reading answers DONE with what is stored, field by field, and changes nothing but
the port; a reading of what is not defined is refused. That WIND_READ sends a gust and a mean that are absent as 0 with no
presence octet before them, against the general rule of R188, is the model's reading (log 27, DEDUCED); so is any other
item that its own table says is 0 while absent. The last clauses give the codes of the enumerated fields (R103, R122,
R165, R172, R180 and chapter 11). -/
def Obligations.ReadingsAnswerAndChangeNothing : Prop :=
  (∀ (s : State) (seq : Byte),
    let one := fun (n : Nat) => BitVec.ofNat 8 n
    let two := fun (n : Nat) => [BitVec.ofNat 8 (n / 256), BitVec.ofNat 8 n]
    let four := fun (n : Nat) => two (n / 65536) ++ two n
    let flag := fun (b : Bool) => if b then (1 : Byte) else 0
    let names := fun (l : List Nat) => one l.length :: l.map one
    let set := fun (l : List Crane) => names ((allCranes.filter (fun k => l.contains k)).map number)
    let p := s.params
    (s.takes 0x01 seq [] → exec (.status seq []) s = .next (s.taken.answered 0x01 seq .done
      (four s.clock ++ [flag s.clockValid] ++ two s.port.mask.toNat ++
        [one s.events.length, flag s.overflow, one s.bookings.length] ++
        (allCranes.map (fun k =>
          [flag (s.crane k).isSome, flag ((s.crane k).any (fun c => c.absent)), flag (s.line k).enabled,
            one (s.line k).link.code, one s.service[k].code, one s.wind[k].level.code,
            one s.vane[k].state.code])).flatten ++
        (allMasts.map (fun m => match s.mastLine.masts[m] with
          | none => [0, 0, 0]
          | some r => [1, one r.state.code, one r.misses])).flatten))) ∧
    (s.takes 0x18 seq [] → exec (.siteRead seq []) s = .next (s.taken.answered 0x18 seq .done
      (two p.release ++ two p.callTimeout ++ [one p.hysteresis] ++ two p.holdStorm ++ two p.holdStop ++
        two p.holdCaution ++ two p.sweepAlarm ++ [one p.divN, one p.divF] ++
        [one ((allZones.map (fun z => match s.zoneDef z with
          | none => 0
          | some d => d.faces.length)).sum)]))) ∧
    (s.takes 0x3B seq [] → ∃ l : List Booking, l.Perm s.bookings ∧
      l.Pairwise (fun b c => b.start < c.start ∨ (b.start = c.start ∧ b.id ≤ c.id)) ∧
      exec (.bookingList seq []) s = .next (s.taken.answered 0x3B seq .done
        (one s.bookings.length :: (l.map (fun b => two b.id ++ [one b.state.code])).flatten))) ∧
    (∀ n : Byte,
      (s.takes 0x12 seq [n] → exec (.craneRead seq [n]) s = .next (match pick n.toNat with
        | none => s.refused 0x12 seq .refusedRange
        | some (k : Crane) => match s.crane k with
          | none => s.refused 0x12 seq .refusedRef
          | some c => s.taken.answered 0x12 seq .done
            ([n] ++ four c.identity.toNat ++ two c.digest.toNat ++ two c.jib ++ [one c.alpha, one c.beta] ++
              two c.latency ++ two c.marginM ++ two c.slowMs ++ two c.marginMr ++ two c.slowMrs ++ two c.cycle ++
              [one c.window, one c.missLimit] ++ two c.cautionGust ++ two c.stopGust ++ two c.stormGust ++
              two c.stopMean ++ two c.stormMean ++ [one ((c.backup.map number).getD 0), flag c.absent]))) ∧
      (s.takes 0x15 seq [n] → exec (.zoneRead seq [n]) s = .next (match pick n.toNat with
        | none => s.refused 0x15 seq .refusedRange
        | some (z : Zone) => match s.zoneDef z with
          | none => s.refused 0x15 seq .refusedRef
          | some d => s.taken.answered 0x15 seq .done
            ([n, one d.kind.code] ++ two d.mv ++ [one d.faces.length] ++ (d.faces.map (fun f =>
              [one (number f.crane), flag f.band.isSome] ++ two f.arcStart ++ two f.arcEnd ++ (match f.band with
                | none => [0, 0, 0, 0, 0, 0]
                | some b => two b.rmin ++ two b.rmax ++ two (BitVec.ofInt 16 b.ceiling).toNat))).flatten))) ∧
      (s.takes 0x28 seq [n] → exec (.zoneState seq [n]) s = .next (match pick n.toNat with
        | none => s.refused 0x28 seq .refusedRange
        | some (z : Zone) => match s.zoneDef z with
          | none => s.refused 0x28 seq .refusedRef
          | some d =>
            let r : ZoneRt := match d.kind with
              | .shared => s.zone z
              | .restricted => { ZoneRt.empty with sweep := (s.zone z).sweep, inside := (s.zone z).inside }
            let contested := d.kind == .shared && r.inside.any (fun k => r.holder != some k && !r.sweep.contains k)
            s.taken.answered 0x28 seq .done
              ([one d.kind.code, one ((r.holder.map number).getD 0)] ++ set r.sweep ++ set r.claims ++
                names (r.waiting.map number) ++ (match r.reservation with
                  | none => [0, 0, 0, 0]
                  | some v => two v.id ++ [one (number v.crane), one v.phase.code]) ++
                set r.guard ++ set r.inside ++ [flag contested, one ((r.mover.map number).getD 0)]))) ∧
      (s.takes 0x30 seq [n] → exec (.windRead seq [n]) s = .next (match pick n.toNat with
        | none => s.refused 0x30 seq .refusedRange
        | some (k : Crane) => match s.crane k with
          | none => s.refused 0x30 seq .refusedRef
          | some _ =>
            let w := s.wind[k]
            let gust := if w.values = [] then 0 else (w.values.sum + w.values.length - 1) / w.values.length
            let mean := match w.acc with
              | none => 0
              | some a => a / 256
            let hold := match w.level with
              | .storm => p.holdStorm
              | .stop => p.holdStop
              | .caution => p.holdCaution
              | .calm => 0
            s.taken.answered 0x30 seq .done
              (two (w.values.getD 0 0) ++ two (w.values.getD 1 0) ++ two (w.values.getD 2 0) ++ [one w.values.length] ++
                two gust ++ two mean ++ [one w.level.code, one w.source.code, one w.quiet] ++
                two (if w.unsettled then 0 else hold - w.eligible) ++ [flag w.unsettled])))) ∧
    (∀ hi lo : Byte, s.takes 0x3A seq [hi, lo] → exec (.bookingRead seq [hi, lo]) s =
      .next (if hi.toNat * 256 + lo.toNat = 0 then s.refused 0x3A seq .refusedRange
        else match s.bookings.find? (fun b => b.id == hi.toNat * 256 + lo.toNat) with
          | none => s.refused 0x3A seq .refusedRef
          | some b => s.taken.answered 0x3A seq .done
            ([hi, lo] ++ [one (number b.crane)] ++ four b.start ++ four b.finish ++ names (b.reserved.map number) ++
              names (b.opened.map number) ++ [flag b.windLimit.isSome] ++ two (b.windLimit.getD 0) ++
              [one b.label.length] ++ b.label ++ [one b.state.code, one b.cause.code] ++ four b.deadline ++
              [flag b.terminal.isSome] ++ four (b.terminal.getD 0))))) ∧
  [Mode.setup, .run, .hold].map Mode.code = [0, 1, 2] ∧
  [ZoneKind.shared, .restricted].map ZoneKind.code = [0, 1] ∧
  [LinkState.off, .waking, .rateSearch, .check, .waitready, .tagging, .online, .lost, .mismatch].map LinkState.code =
    [0, 1, 2, 3, 4, 5, 6, 7, 8] ∧
  [LinkCause.none, .misses, .notReady, .noIdent, .version, .identity].map LinkCause.code = [0, 1, 2, 3, 4, 5] ∧
  [some Rate.fast, some .mid, some .slow, none].map rateCode = [0, 1, 2, 255] ∧
  [ServiceState.inService, .restricted, .out].map ServiceState.code = [0, 1, 2] ∧
  [WindLevel.calm, .caution, .stop, .storm].map WindLevel.code = [0, 1, 2, 3] ∧
  [WindSource.own, .mast, .missing].map WindSource.code = [0, 1, 2] ∧
  [VaneState.none, .pending, .active].map VaneState.code = [0, 1, 2] ∧
  [VaneCause.wind, .service, .both].map VaneCause.code = [1, 2, 3] ∧
  [MastState.unknown, .present, .missing].map MastState.code = [0, 1, 2] ∧
  [FaceLevel.clear, .near, .reach].map FaceLevel.code = [0, 1, 2] ∧
  [MotionLevel.stop, .slow, .full].map MotionLevel.code = [0, 1, 2] ∧
  [ChunkMarker.none, .only, .first, .last].map ChunkMarker.code = [0, 1, 2, 3] ∧
  [Phase.calling, .active, .suspended].map Phase.code = [1, 2, 3] ∧
  [BookingState.booked, .calling, .active, .suspended, .closing, .ended, .cancelled, .lapsed].map BookingState.code =
    [0, 1, 2, 3, 4, 5, 6, 7] ∧
  [BookingCause.admitted, .called, .cleared, .resumed, .wind, .link, .service, .hold, .finished, .left, .cancel, .noStart,
    .notClear, .setup, .restart].map BookingCause.code = [0, 1, 2, 3, 4, 5, 6, 7, 8, 9, 10, 11, 12, 13, 14] ∧
  [TextProgress.first, .second].map TextProgress.code = [1, 2] ∧
  [EventKind.powerOn, .restart, .modeChange, .clockSet, .linkOnline, .linkLost, .linkMismatch, .rateChange, .guardBegin,
    .guardEnd, .conflictBegin, .conflictEnd, .windLevel, .windSource, .weathervaneOn, .weathervaneOff,
    .weathervaneBlocked, .bookingState, .mastLost, .mastBack].map EventKind.code =
    [1, 2, 3, 4, 5, 6, 7, 8, 9, 10, 11, 12, 13, 14, 15, 16, 17, 18, 19, 20] ∧
  [ReplyCode.done, .refusedMode, .refusedRange, .refusedRef, .refusedFull, .refusedClash, .refusedInUse, .refusedState,
    .unknownType, .badLength].map ReplyCode.code = [0, 1, 2, 3, 4, 5, 6, 7, 8, 9]

/-! ## Modes, clock, tag and mask -/

/-- R165, R167: HOLD in RUN and RESUME in HOLD. -/
def Obligations.HoldAndResumeMoveTheMode : Prop :=
  ∀ (s : State) (seq : Byte),
    (s.mode = .run → s.takes 0x03 seq [] → exec (.hold seq []) s =
      .next (((({ s.taken with mode := .hold } : State).emit .modeChange 0 0 0 2 1).post .mode).answered 0x03 seq
        .done [])) ∧
    (s.mode = .hold → s.takes 0x04 seq [] → exec (.resume seq []) s =
      .next (((({ s.taken with mode := .run } : State).emit .modeChange 0 0 0 1 2).post .mode).answered 0x04 seq
        .done []))

/-- R165, R168, R121: SETUP in RUN or HOLD. -/
def Obligations.SetupEmptiesTheRuntimeAndCancelsBookings : Prop :=
  ∀ (s : State) (seq : Byte), s.mode ≠ .setup → s.takes 0x05 seq [] →
    s.bookings.Pairwise (fun b c => b.id < c.id) → s.events.length + s.bookings.length < 64 →
    ∃ t, exec (.setup seq []) s = .next (t.answered 0x05 seq .done []) ∧
      Within [.mode, .arb, .declared, .bookings, .termSeq, .faces, .events] s.taken t ∧ t.mode = .setup ∧
      (∀ z, t.zone z = .empty) ∧ (∀ k : Crane, t.declared[k] = [] ∧ t.faces[k] = []) ∧
      t.bookings.map (fun b => (b.id, b.state, b.cause, b.terminal)) = s.bookings.map (fun b =>
        if b.state.inProgress then (b.id, .cancelled, .setup, some s.clock) else (b.id, b.state, b.cause, b.terminal)) ∧
      t.events = s.events ++
        s.record .modeChange 0 0 0 0 s.mode.code ::
        (s.bookings.filter (fun b => b.state.inProgress)).map (fun b =>
          s.record .bookingState (number b.crane) 0 b.id 6 13)

/-- R166, R56, R68: START in SETUP, with the clock valid and a crane to work for. -/
def Obligations.StartClearsTheZonesAndGuardsTheSilentCranes : Prop :=
  ∀ (s : State) (seq : Byte), s.mode = .setup → s.clockValid = true → (∃ k, s.worked k = true) → s.takes 0x02 seq [] →
    s.events.length ≤ 55 →
    let guards := fun (k : Crane) (z : Zone) =>
      s.worked k && (s.line k).link != .online && s.isShared z && (s.faceIn k z).isSome
    ∃ t, exec (.start seq []) s = .next (t.answered 0x02 seq .done []) ∧
      Within [.mode, .arb, .declared, .events] s.taken t ∧ t.mode = .run ∧ (∀ k : Crane, t.declared[k] = []) ∧
      (∀ z, t.zone z = { ZoneRt.empty with guard := allCranes.filter (fun k => guards k z) }) ∧
      t.events = s.events ++
        s.record .modeChange 0 0 0 1 0 ::
        (allCranes.filter (fun k => allZones.any (guards k))).map (fun k =>
          s.record .guardBegin (number k) 0 0 ((allZones.filter (guards k)).length) 0)

/-- R165, R166: a mode request in a mode the table does not name is refused with REFUSED_MODE; START in SETUP without
a valid clock or a crane to work for is refused with REFUSED_STATE. -/
def Obligations.ModeRequestsInTheWrongModeAreRefused : Prop :=
  ∀ (s : State) (seq : Byte),
    (s.mode ≠ .setup → s.takes 0x02 seq [] → exec (.start seq []) s = .next (s.refused 0x02 seq .refusedMode)) ∧
    (s.mode = .setup → s.clockValid = false ∨ (∀ k, s.worked k = false) → s.takes 0x02 seq [] →
      exec (.start seq []) s = .next (s.refused 0x02 seq .refusedState)) ∧
    (s.mode ≠ .run → s.takes 0x03 seq [] → exec (.hold seq []) s = .next (s.refused 0x03 seq .refusedMode)) ∧
    (s.mode ≠ .hold → s.takes 0x04 seq [] → exec (.resume seq []) s = .next (s.refused 0x04 seq .refusedMode)) ∧
    (s.mode = .setup → s.takes 0x05 seq [] → exec (.setup seq []) s = .next (s.refused 0x05 seq .refusedMode))

/-- R19, R169, R180, R183, R184: RESTART is taken in every mode, TAG stores the tag in SETUP, ATTN_MASK stores the mask and
answers the one before; the attention word bit by bit, the ATTN pin, and the header that every reply carries. -/
def Obligations.RestartTagAndMaskAreTaken : Prop :=
  (∀ (s : State) (seq hi lo : Byte),
    (s.takes 0x06 seq [] → exec (.restart seq []) s =
      .next (({ s.taken with port := { s.taken.port with restartTaken := true } } : State).answered 0x06 seq
        .done [])) ∧
    (s.mode = .setup → s.takes 0x08 seq [hi, lo] → exec (.tag seq [hi, lo]) s =
      .next (({ s.taken with tag := hi ++ lo } : State).answered 0x08 seq .done [])) ∧
    (s.takes 0x09 seq [hi, lo] → ∃ oldHi oldLo : Byte, s.port.mask = oldHi ++ oldLo ∧
      exec (.attnMask seq [hi, lo]) s =
        .next (({ s.taken with port := { s.taken.port with mask := hi ++ lo } } : State).answered 0x09 seq .done
          [oldHi, oldLo]))) ∧
  -- the attention word and the ATTN pin
  (∀ s : State,
    let bit := fun (i : Nat) (p : Prop) => s.attn.getLsbD i = true ↔ p
    bit 0 (s.events ≠ []) ∧ bit 1 (s.overflow = true) ∧ bit 2 (s.port.discard = true) ∧
    bit 3 (∃ k, let f := (s.line k).faults
      f.timeout = true ∨ f.parity = true ∨ f.framing = true ∨ f.check = true ∨ f.size = true ∨ f.tag = true ∨
        f.range = true) ∧
    bit 4 (∃ k c, s.crane k = some c ∧ c.absent = false ∧ (s.line k).enabled = true ∧ (s.line k).link ≠ .online) ∧
    bit 5 (∃ z k, s.isShared z = true ∧ k ∈ (s.zone z).inside ∧ (s.zone z).holder ≠ some k ∧ k ∉ (s.zone z).sweep) ∧
    bit 6 (∃ z, (s.zone z).guard ≠ []) ∧
    bit 7 (∃ k c, s.crane k = some c ∧ c.absent = false ∧ (s.wind[k].level = .stop ∨ s.wind[k].level = .storm)) ∧
    bit 8 (∃ k : Crane, s.vane[k].state = .pending ∨ s.vane[k].state = .active) ∧
    bit 9 (∃ b ∈ s.bookings, b.state = .calling ∨ b.state = .suspended ∨ b.state = .closing) ∧
    bit 10 (∃ (m : Mast) (r : MastRt), s.mastLine.masts[m] = some r ∧ r.state = .missing) ∧
    bit 11 (s.clockValid = false) ∧ (∀ i, 12 ≤ i → bit i False) ∧
    (s.attnPin = true ↔ ∃ i, s.attn.getLsbD i = true ∧ s.port.mask.getLsbD i = true)) ∧
  -- the header of a reply is formed from the state as it then stands, and clears DISCARD
  ∀ (t : State) (typ seq : Byte) (code : ReplyCode) (payload : List Byte), ∃ r,
    (t.answered typ seq code payload).port.replies = t.port.replies ++ [r] ∧ r.seq = seq ∧ r.code = code ∧
      r.mode = t.mode ∧ r.attn = t.attn ∧ r.tag = t.tag ∧ r.payload = payload ∧
      (t.answered typ seq code payload).port.discard = false ∧
      (t.answered typ seq code payload).attn = t.attn &&& 0xFFFB

/-- R171: CLOCK. -/
def Obligations.ClockIsSetOrRefused : Prop :=
  ∀ (s : State) (seq a b c d : Byte), s.takes 0x07 seq [a, b, c, d] →
    let t := (a ++ b ++ c ++ d).toNat
    (s.mode ≠ .setup → s.clock + 60 < t ∨ t + 60 < s.clock →
      exec (.clock seq [a, b, c, d]) s = .next (s.refused 0x07 seq .refusedMode)) ∧
    (s.mode = .setup ∨ (t ≤ s.clock + 60 ∧ s.clock ≤ t + 60) →
      let set := ({ s.taken with clock := t, clockValid := true } : State).emit .clockSet 0 0 0
        (if s.clockValid then 1 else 0) (max (-2147483648) (min 2147483647 ((t : Int) - s.clock)))
      exec (.clock seq [a, b, c, d]) s =
        .next ((if t = s.clock then set else set.post .clock).answered 0x07 seq .done []))

/-! ## Configuration -/

/-- R3: outside SETUP a configuration request is refused with REFUSED_MODE, and nothing changes but the port. -/
def Obligations.ConfigurationIsRefusedOutsideSetup : Prop :=
  ∀ (c : Instr) (f : Frame) (s : State), configures c = true → requestFrame c = some f →
    askedLength c = some f.payload.length → s.mode ≠ .setup → s.takes f.typ f.seq f.payload →
    exec c s = .next (s.refused f.typ f.seq .refusedMode)

/-- R4 to R7, R83, R87, and R144, R145, R157 for a line in MISMATCH, which goes to WAKING: a CRANE_DEF of 37 octets in
SETUP; `c` is the record it carries, with the defaults that a 0 stores. That the wake pulse ends at the moment 5 ms on is
the model's choice (log 1); that the receiver has then taken no sample (log 32) and that the link notice is queued and
reaches its blocks later (log 4) are its readings. -/
def Obligations.CraneDefStoresTheRecord : Prop :=
  ∀ (s : State) (seq : Byte) (p : List Byte), s.mode = .setup → p.length = 37 → s.takes 0x10 seq p →
    let orDefault := fun (n default : Nat) => if n = 0 then default else n
    let cycle := orDefault (oct2 p 21) 100
    let window := orDefault (oct p 23) 20
    let missLimit := orDefault (oct p 24) 3
    let inRange := 1 ≤ oct p 0 ∧ oct p 0 ≤ 8 ∧ 1000 ≤ oct2 p 7 ∧ oct2 p 7 ≤ 9000 ∧ 1 ≤ oct p 9 ∧ oct p 9 ≤ 100 ∧
      1 ≤ oct p 10 ∧ oct p 10 ≤ 200 ∧ oct2 p 11 ≤ 2000 ∧ oct2 p 13 ≤ 300 ∧ oct2 p 15 ≤ 600 ∧ oct2 p 17 ≤ 500 ∧
      oct2 p 19 ≤ 1000 ∧ 50 ≤ cycle ∧ cycle ≤ 1000 ∧ cycle % 10 = 0 ∧ 5 ≤ window ∧ window ≤ 50 ∧ 1 ≤ missLimit ∧
      missLimit ≤ 8 ∧ oct2 p 25 < oct2 p 27 ∧ oct2 p 27 < oct2 p 29 ∧ oct2 p 29 ≤ 600 ∧ oct2 p 31 < oct2 p 33 ∧
      oct2 p 33 ≤ 600 ∧ oct p 35 ≤ 4 ∧ oct p 36 ≤ 1
    (¬ inRange → exec (.craneDef seq p) s = .next (s.refused 0x10 seq .refusedRange)) ∧
    (inRange → ∀ (k : Crane) (backup : Option Mast), oct p 0 = number k → oct p 35 = (backup.map number).getD 0 →
      let c : CraneRec :=
        { identity := BitVec.ofNat 32 (oct2 p 1 * 65536 + oct2 p 3), digest := BitVec.ofNat 16 (oct2 p 5)
          jib := oct2 p 7, alpha := oct p 9, beta := oct p 10, latency := oct2 p 11, marginM := oct2 p 13
          slowMs := oct2 p 15, marginMr := oct2 p 17, slowMrs := oct2 p 19, cycle := cycle, window := window
          missLimit := missLimit, cautionGust := oct2 p 25, stopGust := oct2 p 27, stormGust := oct2 p 29
          stopMean := oct2 p 31, stormMean := oct2 p 33, backup := backup, absent := decide (oct p 36 = 1) }
      let noBackup := ∃ m, backup = some m ∧ s.mastDefined m = false
      let lineOn := (s.crane k).isSome = true ∧ (s.line k).link ≠ .off ∧ c.absent = true
      let tooShort := ∃ z d f b, s.faceIn k z = some (d, f) ∧ f.band = some b ∧ c.jib < b.rmax
      (noBackup → exec (.craneDef seq p) s = .next (s.refused 0x10 seq .refusedRef)) ∧
      (¬ noBackup → lineOn → exec (.craneDef seq p) s = .next (s.refused 0x10 seq .refusedState)) ∧
      (¬ noBackup → ¬ lineOn → tooShort → exec (.craneDef seq p) s = .next (s.refused 0x10 seq .refusedInUse)) ∧
      (¬ noBackup → ¬ lineOn → ¬ tooShort →
        ∃ t, exec (.craneDef seq p) s = .next (t.answered 0x10 seq .done []) ∧
          Within [.cranes, .wind, .vane, .lines, .notices, .events, .overflow] s.taken t ∧ t.crane k = some c ∧
          (∀ j, j ≠ k →
            t.crane j = s.crane j ∧ t.wind[j] = s.wind[j] ∧ t.vane[j] = s.vane[j] ∧ t.line j = s.line j) ∧
          t.wind[k] = (if s.worked k = !c.absent then s.wind[k] else .fresh) ∧
          ((s.crane k).isSome = true → c.absent = true → t.vane[k].state = .none) ∧
          ((s.crane k).isSome = false ∨ c.absent = false → t.vane[k] = s.vane[k]) ∧
          s.logged t (if (s.crane k).isSome = true ∧ c.absent = true ∧ s.vane[k].state ≠ .none then
            [s.record .weathervaneOff (number k) 0 0 1 (if s.vane[k].state = .active then 1 else 0)] else []) ∧
          ((s.line k).link = .mismatch → t.line k = { s.line k with
            link := .waking, rate := none, tag := 0, effCycle := none, exchange := none, cycleTimer := none
            readyDeadline := none, lastReport := none, rx := .hunt false, wait := .pulse (s.later 5) } ∧
            t.notices = s.notices ++ [.link k .mismatch .waking]) ∧
          ((s.line k).link ≠ .mismatch → t.line k = s.line k ∧ t.notices = s.notices)))

/-- R9, and R74, R83, R84, R87 for what a cleared crane's service state, weathervane, texts and wind record become:
CRANE_CLEAR in SETUP. -/
def Obligations.CraneClearFreesTheRecord : Prop :=
  (∀ (s : State) (seq n : Byte), s.mode = .setup → n = 0 ∨ 8 < n.toNat → s.takes 0x11 seq [n] →
    exec (.craneClear seq [n]) s = .next (s.refused 0x11 seq .refusedRange)) ∧
  ∀ (s : State) (seq : Byte) (k : Crane), s.mode = .setup → s.takes 0x11 seq [BitVec.ofNat 8 (number k)] →
    let c := Instr.craneClear seq [BitVec.ofNat 8 (number k)]
    let used := (∃ z, (s.faceIn k z).isSome = true) ∨ ∃ b ∈ s.bookings, b.crane = k ∧ b.state.terminal = false
    (s.crane k = none → exec c s = .next (s.refused 0x11 seq .refusedRef)) ∧
    (s.crane k ≠ none → (s.line k).link ≠ .off → exec c s = .next (s.refused 0x11 seq .refusedState)) ∧
    (s.crane k ≠ none → (s.line k).link = .off → used → exec c s = .next (s.refused 0x11 seq .refusedInUse)) ∧
    (s.crane k ≠ none → (s.line k).link = .off → ¬ used →
      ∃ t, exec c s = .next (t.answered 0x11 seq .done []) ∧
        Within [.cranes, .service, .wind, .vane, .lines, .events, .overflow] s.taken t ∧ t.crane k = none ∧
        t.service[k] = .inService ∧ t.wind[k] = .fresh ∧ t.vane[k].state = .none ∧
        t.line k = { s.line k with texts := [] } ∧
        s.logged t (if s.vane[k].state = .none then []
          else [s.record .weathervaneOff (number k) 0 0 1 (if s.vane[k].state = .active then 1 else 0)]) ∧
        ∀ j, j ≠ k → t.crane j = s.crane j ∧ t.service[j] = s.service[j] ∧ t.wind[j] = s.wind[j] ∧
          t.vane[j] = s.vane[j] ∧ t.line j = s.line j)

/-- R10, R12 to R15: ZONE_DEF and ZONE_DEL in SETUP. `asks z d` says that the payload carries zone `z` with the
definition `d`, every number in range: its faces, in whatever order it lists them, are those of `d`. -/
def Obligations.ZoneDefAndZoneDelWriteTheZone : Prop :=
  ∀ (s : State) (seq : Byte), s.mode = .setup →
    let written := fun (z : Zone) (d : Option ZoneDef) (t : State) =>
      Within [.zones, .arb, .faces] s.taken t ∧ t.zoneDef z = d ∧ t.zone z = .empty ∧
        (∀ y, y ≠ z → t.zoneDef y = s.zoneDef y ∧ t.zone y = s.zone y) ∧
        ∀ k : Crane, t.faces[k] = s.faces[k].filter (fun f => f.zone != z)
    (∀ p : List Byte, p.length = 5 + 12 * oct p 4 → s.takes 0x13 seq p →
      let carries := fun (q : List Byte) (f : Face) =>
        oct q 0 = number f.crane ∧ oct2 q 2 = f.arcStart ∧ oct2 q 4 = f.arcEnd ∧ f.arcStart ≤ 3599 ∧
          f.arcEnd ≤ 3599 ∧ match f.band with
            | none => oct q 1 = 0
            | some b => oct q 1 = 1 ∧ oct2 q 6 = b.rmin ∧ oct2 q 8 = b.rmax ∧
              (BitVec.ofNat 16 (oct2 q 10)).toInt = b.ceiling ∧ b.rmin ≤ b.rmax ∧ b.rmax ≤ 9000 ∧
              -5000 ≤ b.ceiling ∧ b.ceiling ≤ 30000
      let asks := fun (z : Zone) (d : ZoneDef) =>
        oct p 0 = number z ∧ oct2 p 2 = d.mv ∧ d.mv ≤ 1000 ∧ d.faces.length = oct p 4 ∧
          (match d.kind with
            | .shared => oct p 1 = 0 ∧ 2 ≤ oct p 4 ∧ oct p 4 ≤ 4
            | .restricted => oct p 1 = 1 ∧ 1 ≤ oct p 4 ∧ oct p 4 ≤ 8) ∧
          d.faces.Pairwise (fun f g => f.crane < g.crane) ∧
          ∃ l : List Face, l.Perm d.faces ∧ ∀ i f, l[i]? = some f → carries ((p.drop (5 + 12 * i)).take 12) f
      ((∀ z d, ¬ asks z d) → exec (.zoneDef seq p) s = .next (s.refused 0x13 seq .refusedRange)) ∧
      ∀ z d, asks z d →
        let noCrane := ∃ f ∈ d.faces, s.crane f.crane = none
        let tooLong := ∃ f ∈ d.faces, ∃ b c, f.band = some b ∧ s.crane f.crane = some c ∧ c.jib < b.rmax
        let broken := s.zoneDef z ≠ none ∧ ∃ b ∈ s.bookings, b.state.terminal = false ∧
          ((z ∈ b.reserved ∧ d.kind = .restricted) ∨ (z ∈ b.opened ∧ d.kind = .shared) ∨
            ((z ∈ b.reserved ∨ z ∈ b.opened) ∧ ∀ f ∈ d.faces, f.crane ≠ b.crane))
        let others := ((allZones.filter (fun y => y != z)).map (fun y => match s.zoneDef y with
          | none => 0
          | some e => e.faces.length)).sum
        let full := 128 < others + d.faces.length
        (noCrane → exec (.zoneDef seq p) s = .next (s.refused 0x13 seq .refusedRef)) ∧
        (¬ noCrane → tooLong ∨ broken → exec (.zoneDef seq p) s = .next (s.refused 0x13 seq .refusedInUse)) ∧
        (¬ noCrane → ¬ tooLong → ¬ broken → full →
          exec (.zoneDef seq p) s = .next (s.refused 0x13 seq .refusedFull)) ∧
        (¬ noCrane → ¬ tooLong → ¬ broken → ¬ full →
          ∃ t, exec (.zoneDef seq p) s = .next (t.answered 0x13 seq .done []) ∧ written z (some d) t)) ∧
    (∀ n : Byte, s.takes 0x14 seq [n] → n = 0 ∨ 32 < n.toNat →
      exec (.zoneDel seq [n]) s = .next (s.refused 0x14 seq .refusedRange)) ∧
    ∀ z : Zone, s.takes 0x14 seq [BitVec.ofNat 8 (number z)] →
      let c := Instr.zoneDel seq [BitVec.ofNat 8 (number z)]
      let used := ∃ b ∈ s.bookings, b.state.terminal = false ∧ (z ∈ b.reserved ∨ z ∈ b.opened)
      (s.zoneDef z = none → exec c s = .next (s.refused 0x14 seq .refusedRef)) ∧
      (s.zoneDef z ≠ none → used → exec c s = .next (s.refused 0x14 seq .refusedInUse)) ∧
      (s.zoneDef z ≠ none → ¬ used → ∃ t, exec c s = .next (t.answered 0x14 seq .done []) ∧ written z none t)

/-- R16, R17: MAST_DEF and SITE_DEF in SETUP. -/
def Obligations.MastDefAndSiteDefWriteTheirRecords : Prop :=
  ∀ (s : State) (seq : Byte) (m : Mast), s.mode = .setup →
    (∀ n o : Byte, n = 0 ∨ 4 < n.toNat ∨ 1 < o.toNat → s.takes 0x16 seq [n, o] →
      exec (.mastDef seq [n, o]) s = .next (s.refused 0x16 seq .refusedRange)) ∧
    (s.takes 0x16 seq [BitVec.ofNat 8 (number m), 1] →
      ∃ t, exec (.mastDef seq [BitVec.ofNat 8 (number m), 1]) s = .next (t.answered 0x16 seq .done []) ∧
        Within [.mastLine, .windMasts] s.taken t ∧
        (∀ n, n ≠ m → t.mastLine.masts[n] = s.mastLine.masts[n] ∧ t.windMasts[n] = s.windMasts[n]) ∧
        (s.mastDefined m = true → t.mastLine = s.mastLine ∧ t.windMasts = s.windMasts) ∧
        (s.mastDefined m = false → t.mastLine.masts[m] = some { state := .unknown, misses := 0 } ∧
          t.windMasts[m] = .unknown)) ∧
    (s.takes 0x16 seq [BitVec.ofNat 8 (number m), 0] →
      ((∃ k c, s.crane k = some c ∧ c.backup = some m) →
        exec (.mastDef seq [BitVec.ofNat 8 (number m), 0]) s = .next (s.refused 0x16 seq .refusedInUse)) ∧
      ((∀ k c, s.crane k = some c → c.backup ≠ some m) →
        ∃ t, exec (.mastDef seq [BitVec.ofNat 8 (number m), 0]) s = .next (t.answered 0x16 seq .done []) ∧
          Within [.mastLine, .windMasts] s.taken t ∧ t.mastLine.masts[m] = none ∧
          (∀ n, n ≠ m → t.mastLine.masts[n] = s.mastLine.masts[n] ∧ t.windMasts[n] = s.windMasts[n]) ∧
          ∀ x, s.mastLine.exchange = some x → s.mastDefined m = true → x.mast = m →
            t.mastLine.exchange = some { x with discard := true })) ∧
    ∀ p : List Byte, p.length = 15 → s.takes 0x17 seq p →
      let inRange := oct2 p 0 ≤ 10000 ∧ 30 ≤ oct2 p 2 ∧ oct2 p 2 ≤ 1800 ∧ oct p 4 ≤ 50 ∧ 60 ≤ oct2 p 5 ∧
        oct2 p 5 ≤ 3600 ∧ 30 ≤ oct2 p 7 ∧ oct2 p 7 ≤ 1800 ∧ 10 ≤ oct2 p 9 ∧ oct2 p 9 ≤ 600 ∧ 10 ≤ oct2 p 11 ∧
        oct2 p 11 ≤ 600 ∧ 2 ≤ oct p 13 ∧ oct p 13 ≤ 255 ∧ oct p 14 ≤ 7
      (inRange → exec (.siteDef seq p) s = .next (({ s.taken with params :=
        { release := oct2 p 0, callTimeout := oct2 p 2, hysteresis := oct p 4, holdStorm := oct2 p 5
          holdStop := oct2 p 7, holdCaution := oct2 p 9, sweepAlarm := oct2 p 11, divN := oct p 13
          divF := oct p 14 } } : State).answered 0x17 seq .done [])) ∧
      (¬ inRange → exec (.siteDef seq p) s = .next (s.refused 0x17 seq .refusedRange))

/-! ## Crane requests -/

/-- R139, R140, R144: LINE_ON. That the link notice is queued and reaches its blocks later is the model's reading (log 4),
that the pulse ends at the moment 5 ms on is its choice (log 1), and so is the receiver that has taken no sample
(log 32). -/
def Obligations.LineOnWakesTheLine : Prop :=
  (∀ (s : State) (seq n : Byte), n = 0 ∨ 8 < n.toNat → s.takes 0x20 seq [n] →
    exec (.lineOn seq [n]) s = .next (s.refused 0x20 seq .refusedRange)) ∧
  ∀ (s : State) (seq : Byte) (k : Crane), s.takes 0x20 seq [BitVec.ofNat 8 (number k)] →
    let c := Instr.lineOn seq [BitVec.ofNat 8 (number k)]
    (s.worked k = false → exec c s = .next (s.refused 0x20 seq .refusedRef)) ∧
    (s.worked k = true → (s.line k).link ≠ .off →
      exec c s = .next (s.taken.answered 0x20 seq .done [BitVec.ofNat 8 (s.line k).link.code])) ∧
    (s.worked k = true → (s.line k).link = .off →
      exec c s = .next (((s.taken.modLine k (fun l =>
        { l with enabled := true, link := .waking, rate := none, tag := 0, effCycle := none, exchange := none,
                 cycleTimer := none, readyDeadline := none, rx := .hunt false, wait := .pulse (s.later 5) })).post
          (.link k .off .waking)).answered 0x20 seq .done [1]))

/-- R141, R139, R55, R86: LINE_OFF. That the zones are guarded in the step of LINE_OFF itself, and so before its reply is
formed, is the model's reading (log 5), and so is that the head text goes back to its first chunk in that step, while the
link notice waits (log 4). -/
def Obligations.LineOffGuardsTheCranesZones : Prop :=
  (∀ (s : State) (seq n : Byte), n = 0 ∨ 8 < n.toNat → s.takes 0x21 seq [n] →
    exec (.lineOff seq [n]) s = .next (s.refused 0x21 seq .refusedRange)) ∧
  ∀ (s : State) (seq : Byte) (k : Crane), s.takes 0x21 seq [BitVec.ofNat 8 (number k)] →
    let c := Instr.lineOff seq [BitVec.ofNat 8 (number k)]
    ((s.line k).link = .off → exec c s = .next (s.taken.answered 0x21 seq .done [])) ∧
    ((s.line k).link ≠ .off →
      ∃ t, exec c s = .next (t.answered 0x21 seq .done []) ∧
        Within [.lines, .notices, .arb, .events, .overflow] s.taken t ∧
        (∀ j, j ≠ k → t.line j = s.line j) ∧
        t.line k = { s.line k with
          enabled := false, link := .off, exchange := none, cycleTimer := none, nextPattern := 0, attempts := 0
          readyDeadline := none, wait := .nothing
          texts := match (s.line k).link, (s.line k).texts with
            | .online, text :: rest => { text with progress := .first } :: rest
            | _, texts => texts } ∧
        t.notices = s.notices ++ [.link k (s.line k).link .off] ∧
        (let shared := allZones.filter (fun z => s.isShared z && (s.faceIn k z).isSome)
         let added := shared.filter (fun z => decide (z ∉ s.declared[k] ∧ k ∉ (s.zone z).guard))
         s.logged t (if s.mode = .setup ∨ s.worked k = false ∨ added = [] then []
          else [s.record .guardBegin (number k) 0 0 added.length
            (shared.filter (fun z => decide (z ∈ s.declared[k]))).length])) ∧
        ∀ z, t.zone z =
          if s.mode ≠ .setup ∧ s.worked k = true ∧ s.isShared z = true ∧ (s.faceIn k z).isSome = true ∧
              z ∉ s.declared[k] then { s.zone z with guard := addTo k (s.zone z).guard } else s.zone z)

/-- R74, R84, R134, R187, R188: SERVICE, TEXT and CRANE_STATE, whose reply is given field by field. That a repeated
SERVICE sends no notice is the model's reading (log 20); that a part of a second since pending since is left off is its
choice (log 34). -/
def Obligations.ServiceTextAndCraneState : Prop :=
  (∀ (s : State) (seq n o : Byte), n = 0 ∨ 8 < n.toNat ∨ 2 < o.toNat → s.takes 0x22 seq [n, o] →
    exec (.service seq [n, o]) s = .next (s.refused 0x22 seq .refusedRange)) ∧
  (∀ (s : State) (seq n o : Byte), n = 0 ∨ 8 < n.toNat ∨ 1 < o.toNat → s.takes 0x23 seq [n, o] →
    exec (.craneState seq [n, o]) s = .next (s.refused 0x23 seq .refusedRange)) ∧
  (∀ (s : State) (seq n len : Byte) (chars : List Byte), n = 0 ∨ 8 < n.toNat → chars.length = len.toNat →
    s.takes 0x24 seq (n :: len :: chars) →
    exec (.text seq (n :: len :: chars)) s = .next (s.refused 0x24 seq .refusedRange)) ∧
  ∀ (s : State) (seq : Byte) (k : Crane),
    let n := BitVec.ofNat 8 (number k)
    (∀ (code : Byte) (new : ServiceState), code.toNat = new.code → s.takes 0x22 seq [n, code] →
      (s.crane k = none → exec (.service seq [n, code]) s = .next (s.refused 0x22 seq .refusedRef)) ∧
      (s.crane k ≠ none → new = s.service[k] →
        exec (.service seq [n, code]) s = .next (s.taken.answered 0x22 seq .done [code])) ∧
      (s.crane k ≠ none → new ≠ s.service[k] → exec (.service seq [n, code]) s =
        .next ((({ s.taken with service := s.service.set k new } : State).post (.service k new)).answered 0x22 seq .done
          [BitVec.ofNat 8 s.service[k].code]))) ∧
    (∀ (len : Byte) (chars : List Byte), chars.length = len.toNat → s.takes 0x24 seq (n :: len :: chars) →
      (s.crane k = none → exec (.text seq (n :: len :: chars)) s = .next (s.refused 0x24 seq .refusedRef)) ∧
      (s.crane k ≠ none → 4 ≤ (s.line k).texts.length →
        exec (.text seq (n :: len :: chars)) s = .next (s.refused 0x24 seq .refusedFull)) ∧
      (s.crane k ≠ none → (s.line k).texts.length < 4 → exec (.text seq (n :: len :: chars)) s =
        .next ((s.taken.modLine k (fun l =>
          { l with
            texts := l.texts ++ [{ serial := l.nextSerial, chars := chars.take 32, progress := .first }]
            nextSerial := l.nextSerial + 1 })).answered 0x24 seq .done
          [BitVec.ofNat 8 (min 32 chars.length), (s.line k).nextSerial]))) ∧
    (let one := fun (n : Nat) => BitVec.ofNat 8 n
     let two := fun (n : Nat) => [BitVec.ofNat 8 (n / 256), BitVec.ofNat 8 n]
     let four := fun (n : Nat) => two (n / 65536) ++ two n
     let flag := fun (b : Bool) => if b then (1 : Byte) else 0
     let since := fun (t : Moment) => (s.msCount - t).toNat
     let l := s.line k
     let f := l.faults
     let p := s.sent[k]
     let v := s.vane[k]
     let yielding := allZones.any (fun z => s.isShared z && (s.zone z).holder == some k &&
       (!(s.zone z).waiting.isEmpty || !(s.zone z).claims.isEmpty ||
         (s.zone z).reservation.any (fun r => r.phase == .calling && r.crane != k)))
     let payload :=
       [flag l.enabled, one l.link.code, one l.linkCause.code, one (rateCode l.rate), l.tag, l.tagCounter] ++
       two (l.effCycle.getD 0) ++ [one l.missCount] ++
       [one (f.timeout.toNat + 2 * f.parity.toNat + 4 * f.framing.toNat + 8 * f.check.toNat + 16 * f.size.toNat +
         32 * f.tag.toNat + 64 * f.range.toNat)] ++
       (match l.lastReport with
         | none => List.replicate 14 0
         | some r => [1] ++ two r.theta ++ [BitVec.ofInt 8 r.omega] ++ two r.radius ++
           two (BitVec.ofInt 16 r.speed).toNat ++ two (BitVec.ofInt 16 r.height).toNat ++ two r.wind ++
           [flag r.windValid, one r.age]) ++
       [flag l.reportSince] ++
       [one (p.permit.cw.code + 4 * p.permit.ccw.code + 16 * p.permit.outward.code + 64 * p.permit.inward.code),
         one (p.permit.up.code + 4 * p.permit.down.code),
         one (p.weathervane.toNat + 2 * p.yielding.toNat + 4 * p.wind.code)] ++ two p.booking ++
       [one v.state.code] ++ four (match v.pendingSince with
         | none => 0
         | some t => since t / 1000) ++ [flag v.alarm, if v.state = .none then 0 else one v.cause.code] ++
       [one s.service[k].code, flag yielding] ++
       one s.declared[k].length :: s.declared[k].map (fun z => one (number z)) ++
       [one l.texts.length] ++ (match l.texts with
         | [] => [0, 0]
         | t :: _ => [t.serial, one t.progress.code]) ++
       one s.faces[k].length :: (s.faces[k].map (fun g =>
         [one (number g.zone),
           one (g.cw.code + 4 * g.ccw.code + 16 * g.outward.code + 64 * g.inward.code),
           one (g.down.code + 4 * g.planInside.toNat + 8 * g.inside.toNat)] ++ two (match g.clearSince with
             | none => 65535
             | some t => min (since t) 65534))).flatten
     (s.takes 0x23 seq [n, 0] → exec (.craneState seq [n, 0]) s =
       .next (s.taken.answered 0x23 seq .done payload)) ∧
     (s.takes 0x23 seq [n, 1] → exec (.craneState seq [n, 1]) s =
       .next ((s.taken.modLine k (fun l => { l with faults := .clear })).answered 0x23 seq .done payload)))

/-- R50, R52, R54, R58, R59, R65: DECLARE, with a list of zones or with the all-zones choice: each named zone runs the
course of `Course.declare`, with its conflict event and clearance notice. Which crane a conflict event names, where the
one that ended the contest by leaving is not among the intruders, is the model's choice (log 7). -/
def Obligations.DeclareTakesTheCraneOutOfTheZones : Prop :=
  ∀ (s : State) (seq : Byte) (k : Crane) (zones : List Zone), zones.length ≤ 245 →
    let listed := BitVec.ofNat 8 (number k) :: 0 :: BitVec.ofNat 8 zones.length ::
      zones.map (fun z => BitVec.ofNat 8 (number z))
    (s.takes 0x25 seq listed → s.mode = .setup →
      exec (.declare seq listed) s = .next (s.refused 0x25 seq .refusedMode)) ∧
    (s.takes 0x25 seq listed → s.mode ≠ .setup → zones = [] ∨ ¬ zones.Nodup →
      exec (.declare seq listed) s = .next (s.refused 0x25 seq .refusedRange)) ∧
    ∀ p : List Byte, (p = listed ∧ zones ≠ [] ∧ zones.Nodup) ∨
        (p = [BitVec.ofNat 8 (number k), 1, 0] ∧ zones = allZones.filter (fun z => (s.faceIn k z).isSome)) →
      s.takes 0x25 seq p → s.mode ≠ .setup →
      (s.crane k = none ∨ (∃ z ∈ zones, s.faceIn k z = none) →
        exec (.declare seq p) s = .next (s.refused 0x25 seq .refusedRef)) ∧
      (s.crane k ≠ none → (∀ z ∈ zones, s.faceIn k z ≠ none) → (s.line k).link = .online →
        exec (.declare seq p) s = .next (s.refused 0x25 seq .refusedState)) ∧
      (s.crane k ≠ none → (∀ z ∈ zones, s.faceIn k z ≠ none) → (s.line k).link ≠ .online →
        ∃ t, exec (.declare seq p) s = .next (t.answered 0x25 seq .done []) ∧
          Within [.arb, .declared, .notices, .events, .overflow] s.taken t ∧
          (∀ z ∈ zones, s.isShared z = true → ¬ (t.zone z).names k) ∧
          (∃ new posted, s.logged t new ∧ t.notices = s.notices ++ posted ∧
            (∀ z, t.ran z (if z ∈ zones then (s.courseOf z).declare s z k else s.courseOf z) new posted) ∧
            (let left := zones.filter (fun z => decide (k ∈ (s.zone z).guard))
             new.filter (fun e => e.kind == .guardEnd) =
              if left = [] then [] else [s.record .guardEnd (number k) 0 0 left.length 1]) ∧
            ∀ e ∈ new, e.kind ∈ [EventKind.guardEnd, .conflictBegin, .conflictEnd]) ∧
          (∀ z, z ∈ t.declared[k] ↔ z ∈ s.declared[k] ∨ z ∈ zones) ∧
          ∀ j : Crane, j ≠ k → t.declared[j] = s.declared[j])

/-- R53: RESOLVE. -/
def Obligations.ResolveNamesTheMover : Prop :=
  (∀ (s : State) (seq m n : Byte), m = 0 ∨ 32 < m.toNat → s.takes 0x29 seq [m, n] →
    exec (.resolve seq [m, n]) s =
      .next (s.refused 0x29 seq (if s.mode = .setup then .refusedMode else .refusedRange))) ∧
  ∀ (s : State) (seq n : Byte) (z : Zone), s.takes 0x29 seq [BitVec.ofNat 8 (number z), n] →
    let c := Instr.resolve seq [BitVec.ofNat 8 (number z), n]
    (s.mode = .setup → exec c s = .next (s.refused 0x29 seq .refusedMode)) ∧
    (s.mode ≠ .setup → 8 < n.toNat → exec c s = .next (s.refused 0x29 seq .refusedRange)) ∧
    (s.mode ≠ .setup → n.toNat ≤ 8 → s.zoneDef z = none → exec c s = .next (s.refused 0x29 seq .refusedRef)) ∧
    (s.mode ≠ .setup → n = 0 → s.isShared z = true →
      exec c s = .next ((s.taken.setZone z { s.zone z with mover := none }).answered 0x29 seq .done [])) ∧
    (s.mode ≠ .setup → n = 0 → s.zoneDef z ≠ none → s.isShared z = false →
      exec c s = .next (s.refused 0x29 seq .refusedState)) ∧
    ∀ k : Crane, s.mode ≠ .setup → n.toNat = number k → s.zoneDef z ≠ none →
      (s.crane k = none → exec c s = .next (s.refused 0x29 seq .refusedRef)) ∧
      (s.crane k ≠ none → s.isShared z = false ∨ k ∉ (s.zone z).inside →
        exec c s = .next (s.refused 0x29 seq .refusedState)) ∧
      (s.crane k ≠ none → s.isShared z = true → k ∈ (s.zone z).inside →
        exec c s = .next ((s.taken.setZone z { s.zone z with mover := some k }).answered 0x29 seq .done []))

/-! ## Bookings and events -/

/-- R107, R109, R122, R179, R188: BOOK; `q.carried p` says that the payload carries the request `q`, every number in range. -/
def Obligations.BookAdmitsWhatDoesNotClash : Prop :=
  (∀ (s : State) (seq : Byte) (p : List Byte), s.takes 0x38 seq p →
    p.length = 15 + oct p 9 + oct p (10 + oct p 9) + oct p (14 + oct p 9 + oct p (10 + oct p 9)) →
    (∀ q : BookRequest, ¬ q.carried p) → exec (.book seq p) s = .next (s.refused 0x38 seq .refusedRange)) ∧
  ∀ (s : State) (seq : Byte) (p : List Byte) (q : BookRequest), q.carried p → s.takes 0x38 seq p →
    let unknown := s.crane q.crane = none ∨ ∃ z, (z ∈ q.reserved ∨ z ∈ q.opened) ∧ s.zoneDef z = none
    let unsuited := (∃ z ∈ q.reserved, s.isShared z = false ∨ s.faceIn q.crane z = none) ∨
      ∃ z ∈ q.opened, s.isShared z = true ∨ s.faceIn q.crane z = none
    let clash := ∃ b ∈ s.bookings, b.state.terminal = false ∧ b.start < q.finish ∧ q.start < b.finish ∧
      (b.crane = q.crane ∨ ∃ z ∈ b.reserved, z ∈ q.reserved)
    (unknown → exec (.book seq p) s = .next (s.refused 0x38 seq .refusedRef)) ∧
    (¬ unknown → unsuited → exec (.book seq p) s = .next (s.refused 0x38 seq .refusedRange)) ∧
    (¬ unknown → ¬ unsuited → clash → exec (.book seq p) s = .next (s.refused 0x38 seq .refusedClash)) ∧
    (¬ unknown → ¬ unsuited → ¬ clash → s.bookings.length < 32 → 1 ≤ s.nextId → s.nextId ≤ 65535 →
      ∃ (b : Booking) (t : State) (before after : List Booking),
        exec (.book seq p) s = .next (t.answered 0x38 seq .done (put2 b.id ++ put4 b.deadline ++ put2 0)) ∧
        Within [.bookings, .nextId, .events, .overflow] s.taken t ∧
        s.bookings = before ++ after ∧ t.bookings = before ++ b :: after ∧ (∀ c ∈ s.bookings, c.id ≠ b.id) ∧
        1 ≤ b.id ∧ b.id ≤ 65535 ∧ ((∀ c ∈ s.bookings, c.id ≠ s.nextId) → b.id = s.nextId) ∧
        t.nextId = (if b.id = 65535 then 1 else b.id + 1) ∧ b.crane = q.crane ∧ b.start = q.start ∧
        b.finish = q.finish ∧ b.reserved = q.reserved ∧ b.opened = q.opened ∧ b.windLimit = q.windLimit ∧
        b.label = q.label ∧ b.state = .booked ∧ b.cause = .admitted ∧ b.terminal = none ∧
        b.deadline = min (q.start + s.params.callTimeout) 4294967295 ∧
        s.logged t [s.record .bookingState (number q.crane) 0 b.id 0 0])

/-- R107 (check 5), R109 step 1: with every place of the table filled, BOOK evicts the terminal record that became
terminal first, or is refused for want of one. -/
def Obligations.BookEvictsTheOldestTerminalRecord : Prop :=
  ∀ (s : State) (seq : Byte) (p : List Byte) (q : BookRequest), q.carried p → s.takes 0x38 seq p →
    s.crane q.crane ≠ none →
    (∀ z ∈ q.reserved, s.isShared z = true ∧ s.faceIn q.crane z ≠ none) →
    (∀ z ∈ q.opened, s.isShared z = false ∧ s.faceIn q.crane z ≠ none) →
    (∀ b ∈ s.bookings, b.state.terminal = false → b.start < q.finish → q.start < b.finish →
      b.crane ≠ q.crane ∧ ∀ z ∈ b.reserved, z ∉ q.reserved) → s.bookings.length = 32 → s.bookingsOk →
    ((∀ b ∈ s.bookings, b.state.terminal = false) →
      exec (.book seq p) s = .next (s.refused 0x38 seq .refusedFull)) ∧
    ((∃ b ∈ s.bookings, b.state.terminal = true) →
      ∃ (v b : Booking) (t : State),
        exec (.book seq p) s = .next (t.answered 0x38 seq .done (put2 b.id ++ put4 b.deadline ++ put2 v.id)) ∧
        Within [.bookings, .nextId, .events, .overflow] s.taken t ∧ v ∈ s.bookings ∧ v.state.terminal = true ∧
        (∀ c ∈ s.bookings, c.state.terminal = true →
          v.terminal.getD 0 < c.terminal.getD 0 ∨
            (v.terminal.getD 0 = c.terminal.getD 0 ∧ v.termSeq ≤ c.termSeq)) ∧
        b.state = .booked ∧ b.crane = q.crane ∧ t.bookings.length = 32 ∧
        s.logged t [s.record .bookingState (number q.crane) 0 b.id 0 0] ∧
        ∀ c, c ∈ t.bookings ↔ c = b ∨ (c ∈ s.bookings ∧ c ≠ v))

/-- R66, R117, R120, R122: CANCEL. A booking whose reservations are placed has them removed, each zone by the course of
`Course.unreserve`; the crane that its conflict event names is the model's choice (log 7). -/
def Obligations.CancelEndsTheBooking : Prop :=
  (∀ (s : State) (seq hi lo : Byte), s.takes 0x39 seq [hi, lo] →
    (hi.toNat * 256 + lo.toNat = 0 → exec (.cancel seq [hi, lo]) s = .next (s.refused 0x39 seq .refusedRange)) ∧
    (hi.toNat * 256 + lo.toNat ≠ 0 → (∀ b ∈ s.bookings, b.id ≠ hi.toNat * 256 + lo.toNat) →
      exec (.cancel seq [hi, lo]) s = .next (s.refused 0x39 seq .refusedRef))) ∧
  ∀ (s : State) (seq hi lo : Byte) (b : Booking), s.takes 0x39 seq [hi, lo] → hi.toNat * 256 + lo.toNat ≠ 0 →
    s.bookings.find? (fun c => c.id == hi.toNat * 256 + lo.toNat) = some b →
    (b.state.terminal = true → exec (.cancel seq [hi, lo]) s = .next (s.refused 0x39 seq .refusedState)) ∧
    (b.state.terminal = false →
      let inOpened := ∃ z ∈ b.opened, b.crane ∈ (s.zone z).inside
      ∃ (t : State) (c : Booking),
        exec (.cancel seq [hi, lo]) s = .next (t.answered 0x39 seq .done [BitVec.ofNat 8 c.state.code]) ∧
        Within [.bookings, .termSeq, .arb, .notices, .events, .overflow] s.taken t ∧
        t.bookings = s.bookings.map (fun d => if d.id = b.id then c else d) ∧
        c.id = b.id ∧ c.crane = b.crane ∧ c.reserved = b.reserved ∧ c.cause = .cancel ∧
        ((b.state = .active ∨ b.state = .suspended) → inOpened → c.state = .closing ∧ c.terminal = b.terminal) ∧
        (b.state = .booked ∨ b.state = .calling ∨ b.state = .closing ∨ ¬ inOpened →
          c.state = .cancelled ∧ c.terminal = some s.clock) ∧
        (b.state = .booked ∨ b.state = .closing → t.arb = s.arb ∧ t.notices = s.notices) ∧
        (b.state = .calling ∨ b.state = .active ∨ b.state = .suspended →
          ∀ z ∈ b.reserved, ∀ v, (t.zone z).reservation = some v → v.id ≠ b.id) ∧
        ∃ new posted, s.logged t new ∧ t.notices = s.notices ++ posted ∧
          (∀ z, t.ran z (if (b.state = .calling ∨ b.state = .active ∨ b.state = .suspended) ∧ z ∈ b.reserved then
            (s.courseOf z).unreserve s z b.id else s.courseOf z) new posted) ∧
          new.filter (fun e => e.kind == .bookingState) =
            [s.record .bookingState (number b.crane) 0 b.id c.state.code 10] ∧
          ∀ e ∈ new, e.kind ∈ [EventKind.bookingState, .conflictBegin, .conflictEnd])

/-- R124, R174: BOOKING_REMOVE and EVENTS. -/
def Obligations.RemovalAndReadingOfEvents : Prop :=
  (∀ (s : State) (seq hi lo : Byte), s.takes 0x3C seq [hi, lo] →
    (hi.toNat * 256 + lo.toNat = 0 → exec (.bookingRemove seq [hi, lo]) s = .next (s.refused 0x3C seq .refusedRange)) ∧
    (hi.toNat * 256 + lo.toNat ≠ 0 → (∀ b ∈ s.bookings, b.id ≠ hi.toNat * 256 + lo.toNat) →
      exec (.bookingRemove seq [hi, lo]) s = .next (s.refused 0x3C seq .refusedRef))) ∧
  (∀ (s : State) (seq hi lo : Byte) (b : Booking), s.takes 0x3C seq [hi, lo] → hi.toNat * 256 + lo.toNat ≠ 0 →
    s.bookings.find? (fun c => c.id == hi.toNat * 256 + lo.toNat) = some b →
    (b.state.terminal = false → exec (.bookingRemove seq [hi, lo]) s = .next (s.refused 0x3C seq .refusedState)) ∧
    (b.state.terminal = true → exec (.bookingRemove seq [hi, lo]) s =
      .next (({ s.taken with bookings := s.bookings.filter (fun c => c.id != b.id) } : State).answered 0x3C seq
        .done []))) ∧
  (∀ (s : State) (seq : Byte), s.takes 0x40 seq [] →
    let one := fun (n : Nat) => BitVec.ofNat 8 n
    let two := fun (n : Nat) => [BitVec.ofNat 8 (n / 256), BitVec.ofNat 8 n]
    let four := fun (n : Nat) => two (n / 65536) ++ two n
    let record := fun (e : Event) =>
      four e.time ++ [one e.kind.code, one e.crane, one e.zone] ++ two e.booking ++ four (BitVec.ofInt 32 e.a).toNat ++
        four (BitVec.ofInt 32 e.b).toNat
    exec (.events seq []) s =
      .next (({ s.taken with events := s.events.drop 8, overflow := false } : State).answered 0x40 seq .done
        ([one (min 8 s.events.length), if s.overflow then 1 else 0, one (s.events.length - 8)] ++
          ((s.events.take 8).map record).flatten)))

/-! ## Crane lines -/

/-- R21 to R36, R45 to R52, R54, R57, R60 to R62, R65, R71, R72, R76, R78, R80, R85, R135, R136: a cycle expiry of an
ONLINE line whose exchange in flight, if there is one, is not the miss that makes the link LOST. `course` is what the
actions of the evaluation and of the composition do to each zone: the guard end, the inside update, then a withdraw, a
release or a request, then a sweep claim or a sweep withdrawal. That the unfinished exchange sets SIZE however early it was
is the model's reading (log 25), and so is the receiver that has taken no sample (log 32); the crane that a conflict event
names, where the acting crane is not among the intruders that came or went, is its choice (log 7), and so is that the
crane's standing in a zone is read once its inside update there has been taken (log 35). -/
def Obligations.CycleExpirySendsThePermit : Prop :=
  ∀ (s : State) (k : Crane) (due : Moment),
    let l := s.line k
    let c := s.craneRec k
    l.link = .online → l.cycleTimer = some due → l.exchange = none ∨ l.missCount + 1 < c.missLimit →
    let now := s.reach due
    let misses := if l.exchange = none then l.missCount else l.missCount + 1
    let bits := fun (r : Rate) => match r with
      | .fast => 76800
      | .mid => 19200
      | .slow => 2400
    let cycle := l.rate.map (fun r => max c.cycle (((473000 + bits r - 1) / bits r + c.window + 9) / 10 * 10))
    let report := if l.reportSince = true ∧ s.worked k = true then l.lastReport else none
    let chunk : Byte × ChunkMarker × List Byte := match l.texts with
      | [] => (0, .none, [])
      | t :: _ =>
        if t.chars.length ≤ 16 then (t.serial, .only, t.chars)
        else match t.progress with
          | .first => (t.serial, .first, t.chars.take 16)
          | .second => (t.serial, .last, t.chars.drop 16)
    let calm := s.wind[k].level ≠ .storm ∧ s.service[k] ≠ .out ∧ s.vane[k].state = .none
    ∃ t, exec (.cycleExpiry k) s = .next t ∧ Within (touches (.cycleExpiry k)) s t ∧
      (∀ j, j ≠ k → t.line j = s.line j ∧ t.sent[j] = s.sent[j] ∧ t.faces[j] = s.faces[j] ∧ t.vane[j] = s.vane[j]) ∧
      -- the permit, and the POLL that carries it
      (let p := t.sent[k]
       p = { permit := t.permitFor k report, weathervane := t.vane[k].state == .active, yielding := t.yielding k
             wind := s.wind[k].level, booking := p.booking } ∧
       (s.mode ≠ .run ∨ l.reportSince = false → p.permit = .allStop) ∧
       (s.service[k] = .out ∨ s.wind[k].level = .storm → p.permit.cw = .stop ∧ p.permit.ccw = .stop ∧
         p.permit.outward = .stop ∧ p.permit.inward = .stop ∧ p.permit.down = .stop ∧ p.permit.up ≠ .full) ∧
       (∀ b ∈ s.bookings, b.crane = k → b.state = .active ∨ b.state = .suspended →
         (∀ d ∈ s.bookings, d.crane = k → d.state = .active ∨ d.state = .suspended → d.start < b.start ∨ d = b) →
         p.booking = b.id) ∧
       ((∀ d ∈ s.bookings, d.crane = k → d.state ≠ .active ∧ d.state ≠ .suspended) →
         (∀ b ∈ s.bookings, b.crane = k → b.state = .closing →
           (∀ d ∈ s.bookings, d.crane = k → d.state = .closing → d.start < b.start ∨ d = b) → p.booking = b.id) ∧
         ((∀ d ∈ s.bookings, d.crane = k → d.state ≠ .closing) → p.booking = 0)) ∧
       t.line k = { l with
         effCycle := cycle, cycleTimer := some (now.later (cycle.getD 0)), missCount := misses
         faults := match l.exchange with
           | none => l.faults
           | some x => match x.progress with
             | .receiving _ parity framing =>
               { l.faults with
                 size := true, parity := l.faults.parity || parity, framing := l.faults.framing || framing }
             | .sending | .waiting _ => { l.faults with size := true }
         guardEndDue := l.guardEndDue && (report.isNone || s.mode == .setup)
         rx := .hunt false
         exchange := some
           { kind := .poll chunk.2.1, window := c.window, progress := .sending
             sent := lineFrame 0x14 l.tag
               ([BitVec.ofNat 8 (p.permit.cw.code + 4 * p.permit.ccw.code + 16 * p.permit.outward.code +
                   64 * p.permit.inward.code),
                 BitVec.ofNat 8 (p.permit.up.code + 4 * p.permit.down.code),
                 BitVec.ofNat 8 (p.weathervane.toNat + 2 * p.yielding.toNat + 4 * p.wind.code + 16 * chunk.2.1.code),
                 BitVec.ofNat 8 (p.booking / 256), BitVec.ofNat 8 p.booking, chunk.1] ++ chunk.2.2) } }) ∧
      -- the face states
      (match report with
        | none => t.faces[k] = s.faces[k]
        | some r =>
          let latency := min 10000 (c.latency + cycle.getD 0 * (1 + misses) + r.age)
          let radius := min r.radius c.jib
          let stop := fun (cap speed decel margin : Nat) =>
            min cap ((speed * speed + 2 * decel - 1) / (2 * decel) + (speed * latency + 999) / 1000 + margin)
          let cwStop := stop 1799 r.omega.toNat c.alpha c.marginM
          let ccwStop := stop 1799 (-r.omega).toNat c.alpha c.marginM
          let outStop := stop 9000 r.speed.toNat c.beta c.marginMr
          let inStop := stop 9000 (-r.speed).toNat c.beta c.marginMr
          let cwSlow := min 1799 (cwStop + c.slowMs)
          let ccwSlow := min 1799 (ccwStop + c.slowMs)
          let outSlow := min 9000 (outStop + c.slowMrs)
          let inSlow := min 9000 (inStop + c.slowMrs)
          t.faces[k].map (fun g => g.zone) = allZones.filter (fun z => (s.faceIn k z).isSome) ∧
          ∀ g ∈ t.faces[k], match s.faceIn k g.zone with
            | none => False
            | some (d, f) =>
              let width := if f.arcEnd = f.arcStart then 3600 else (((f.arcEnd : Int) - f.arcStart) % 3600).toNat
              let facing := decide ((((r.theta : Int) - f.arcStart) % 3600).toNat < width)
              let low := fun (n : Nat) => match f.band with
                | none => true
                | some b => decide (b.ceiling = 30000 ∨ r.height < b.ceiling + n * d.mv)
              let plan := match f.band with
                | none => false
                | some b => facing && decide (b.rmin ≤ radius ∧ radius ≤ b.rmax)
              let inside := match f.band with
                | none => facing
                | some _ => plan && low 1
              let level := fun (reach near : Bool) =>
                if reach then FaceLevel.reach else if near then .near else .clear
              let meets := fun (start extent inward outward : Nat) =>
                overlap start (extent + 1) f.arcStart width && low 1 && match f.band with
                  | none => true
                  | some b => decide ((radius : Int) - inward ≤ b.rmax ∧ b.rmin ≤ radius + outward)
              let back := fun (extent : Nat) => (((r.theta : Int) - extent) % 3600).toNat
              g.planInside = plan ∧ g.inside = inside ∧
              g.cw = level (meets r.theta cwStop inStop outStop) (meets r.theta cwSlow inSlow outSlow) ∧
              g.ccw = level (meets (back ccwStop) ccwStop inStop outStop)
                (meets (back ccwSlow) ccwSlow inSlow outSlow) ∧
              g.outward = (match f.band with
                | none => .clear
                | some b => if facing && low 1 && decide (radius < b.rmin) then
                    level (decide (b.rmin ≤ radius + outStop)) (decide (b.rmin ≤ radius + outSlow)) else .clear) ∧
              g.inward = (match f.band with
                | none => .clear
                | some b => if facing && low 1 && decide (b.rmax < radius) then
                    level (decide ((radius : Int) - inStop ≤ b.rmax)) (decide ((radius : Int) - inSlow ≤ b.rmax))
                    else .clear) ∧
              g.down = (match f.band with
                | none => .clear
                | some _ => if plan && !inside then level (low 2) (low 3) else .clear) ∧
              (s.mode = .setup → g.clearSince = none)) ∧
      -- the zone actions, with their events and notices
      (let evaluated := report ≠ none ∧ s.mode ≠ .setup
       let course := fun (z : Zone) =>
         let q := if evaluated ∧ l.guardEndDue = true then (s.courseOf z).guardEnd s z k else s.courseOf z
         let q := match t.faces[k].find? (fun g => g.zone == z) with
           | none => q
           | some g =>
             let clear := g.inside = false ∧ g.cw = .clear ∧ g.ccw = .clear ∧ g.outward = .clear ∧ g.inward = .clear ∧
               g.down = .clear
             let since := ((s.faces[k].find? (fun f => f.zone == z)).bind (fun f => f.clearSince)).getD now.msCount
             let seen := q.inside s z k g.inside
             if ¬ evaluated then q
             else if s.isShared z = false then seen
             else if clear then
               if seen.record.holder = some k ∧ s.params.release ≤ (now.msCount - since).toNat then
                 (seen.withdraw k).release s z k
               else seen.withdraw k
             else if s.service[k] = .restricted then seen
             else seen.request s z k
         if s.mode = .setup ∨ s.faceIn k z = none then q
         else if s.wind[k].level = .storm ∨ s.service[k] = .out then q.claim s z k
         else if s.vane[k].state = .none then q
         else q.unclaim s z k
       let guarded := allZones.filter (fun z => decide (k ∈ (s.zone z).guard))
       ∃ new posted, s.logged t new ∧ t.notices = s.notices ++ posted ∧ (∀ z, t.ran z (course z) new posted) ∧
         new.filter (fun e => e.kind == .guardEnd) =
           (if evaluated ∧ l.guardEndDue = true ∧ guarded ≠ [] then
             [s.record .guardEnd (number k) 0 0 guarded.length 0] else []) ∧
         ∀ e ∈ new, e.kind ∈ [EventKind.guardEnd, .conflictBegin, .conflictEnd, .weathervaneOn, .weathervaneOff,
           .weathervaneBlocked]) ∧
      (s.mode = .setup ∨ (report = none ∧ calm) → t.arb = s.arb) ∧
      (∀ z j, j ∈ (t.zone z).guard ↔
        j ∈ (s.zone z).guard ∧ (j ≠ k ∨ l.guardEndDue = false ∨ report = none ∨ s.mode = .setup)) ∧
      (report ≠ none → s.mode ≠ .setup → l.guardEndDue = false → calm →
        (∀ z, s.faceIn k z = none → t.zone z = s.zone z) ∧
        ∀ g ∈ t.faces[k],
          let before := s.zone g.zone
          let after := t.zone g.zone
          let clear := g.inside = false ∧ g.cw = .clear ∧ g.ccw = .clear ∧ g.outward = .clear ∧ g.inward = .clear ∧
            g.down = .clear
          let since := ((s.faces[k].find? (fun f => f.zone == g.zone)).bind (fun f => f.clearSince)).getD now.msCount
          (k ∈ after.inside ↔ g.inside = true) ∧ (∀ j, j ≠ k → (j ∈ after.inside ↔ j ∈ before.inside)) ∧
          (s.isShared g.zone = false → g.clearSince = none ∧ after = { before with inside := after.inside }) ∧
          (s.isShared g.zone = true →
            (¬ clear → g.clearSince = none ∧
              (s.service[k] = .inService → after.holder = some k ∨ k ∈ after.sweep ∨ k ∈ after.waiting) ∧
              (before.holder = some k → after.holder = some k)) ∧
            (s.service[k] = .restricted → ∀ j ∈ after.waiting, j ∈ before.waiting) ∧
            (clear → k ∉ after.waiting ∧
              (before.holder = some k → g.clearSince = some since ∧
                (after.holder = some k ↔ (now.msCount - since).toNat < s.params.release)) ∧
              (before.holder ≠ some k → k ∉ before.waiting → g.clearSince = none ∧ after.holder ≠ some k))))

/-- R77 to R80: what a composition does to the weathervane record of its crane, with its events; and in RUN and HOLD no
POLL releases the slew brake unless its crane is a sweep member in every zone in which it has a face. -/
def Obligations.TheBrakeIsReleasedOnlyWhenEveryZoneIsSwept : Prop :=
  (∀ (s t : State) (k : Crane), exec (.cycleExpiry k) s = .next t → s.mode ≠ .setup →
    (s.line k).cycleTimer ≠ none → (s.line k).link = .online → (t.line k).link = .online →
    t.sent[k].weathervane = true → ∀ z, (s.faceIn k z).isSome = true → k ∈ (t.zone z).sweep) ∧
  ∀ (s : State) (k : Crane) (due : Moment), (s.line k).link = .online → (s.line k).cycleTimer = some due →
    (s.line k).exchange = none ∨ (s.line k).missCount + 1 < (s.craneRec k).missLimit →
    let now := (s.reach due).msCount
    let v := s.vane[k]
    let storm := s.wind[k].level = .storm
    let out := s.service[k] = .out
    let zones := allZones.filter (fun z => (s.faceIn k z).isSome)
    let on := fun (swept : Nat) (cause : VaneCause) => s.record .weathervaneOn (number k) 0 0 swept cause.code
    let off := fun (a b : Int) => s.record .weathervaneOff (number k) 0 0 a b
    ∃ t new, exec (.cycleExpiry k) s = .next t ∧ s.logged t new ∧ t.sent[k].weathervane = (t.vane[k].state == .active) ∧
      let unswept := zones.filter (fun z => decide (k ∉ (t.zone z).sweep))
      let becomes := fun (w : VaneRec) (events : List Event) => t.vane[k] = w ∧
        new.filter (fun e => e.kind ∈ [EventKind.weathervaneOn, .weathervaneOff, .weathervaneBlocked]) = events
      let episode : VaneRec := if v.state ≠ .none then v else
        { state := .pending, pendingSince := some now, alarm := false
          cause := if storm ∧ out then .both else if storm then .wind else .service }
      let fallen : VaneRec := { episode with state := .pending, pendingSince := some now }
      let pending := if episode.state = .active then fallen else episode
      let fall := if episode.state = .active then [off 0 1] else []
      let late := pending.alarm = false ∧ ∃ since, pending.pendingSince = some since ∧
        s.params.sweepAlarm * 1000 ≤ (now - since).toNat
      -- the condition does not hold
      (¬ storm → ¬ out →
        (v.state = .none → becomes v []) ∧
        (v.state ≠ .none → becomes { v with state := .none, pendingSince := none, alarm := false }
          [off 1 (if v.state = .active then 1 else 0)] ∧
          (s.mode ≠ .setup → ∀ z ∈ zones, k ∉ (t.zone z).sweep ∧ (s.isShared z = true → k ∉ (t.zone z).claims)))) ∧
      -- the condition holds
      (storm ∨ out →
        (s.mode ≠ .setup → ∀ z ∈ zones, k ∈ (t.zone z).sweep ∨ k ∈ (t.zone z).claims) ∧
        (s.mode = .setup ∨ unswept = [] →
          (episode.state = .active → becomes episode []) ∧
          (episode.state ≠ .active → becomes { episode with state := .active, pendingSince := none }
            [on (zones.length - unswept.length) episode.cause])) ∧
        (s.mode ≠ .setup → ∀ z rest, unswept = z :: rest →
          (¬ late → becomes pending fall) ∧
          (late → becomes { pending with alarm := true } (fall ++
            [s.record .weathervaneBlocked (number k) (number z) 0 unswept.length
              (unswept.filter (fun y => decide (k ∈ (t.zone y).claims))).length]))))

/-- R136, R138, R155: a cycle expiry that finds the reply unfinished, at the miss limit, makes the link LOST and sends
no POLL. That SIZE is set also when the frame is still being sent or no character has arrived is the model's reading
(log 25). -/
def Obligations.TheMissLimitMakesTheLinkLost : Prop :=
  ∀ (s : State) (k : Crane) (due : Moment) (x : Exchange), (s.line k).link = .online →
    (s.line k).cycleTimer = some due → (s.line k).exchange = some x →
    (s.craneRec k).missLimit ≤ (s.line k).missCount + 1 →
    ∃ t, exec (.cycleExpiry k) s = .next t ∧ Within [.msCount, .lines, .notices, .events, .overflow] s t ∧
      (t.line k).link = .lost ∧ (t.line k).linkCause = .misses ∧ (t.line k).missCount = (s.line k).missCount + 1 ∧
      (t.line k).exchange = none ∧ (t.line k).cycleTimer = none ∧
      (t.line k).wait = .lost ((s.reach due).later 1000) ∧ (t.line k).faults.size = true ∧
      (t.line k).lastReport = (s.line k).lastReport ∧ (∀ j, j ≠ k → t.line j = s.line j) ∧
      t.notices = s.notices ++ [.link k .online .lost] ∧
      t.events.getLast? = some (s.record .linkLost (number k) 0 0 1 ((s.line k).missCount + 1))

/-- R126 to R128, R132 to R134, R138, R139, R155: what the receiver of a crane line hears, how an exchange goes on, and how it ends as
a miss on an ONLINE line, which at the miss limit makes the link LOST. `x` is the run of samples of a whole character that begins at its start bit's first sample and
ends with sample 9 of its stop bit: each of its eleven bits is the majority of its samples 7, 8 and 9, whatever the others
are. That a silence limit within a character changes nothing is the model's choice for an event that cannot occur then
(log 2), that parity and framing errors are flagged with an unfinished reply is its reading (log 25), and so is that a
receiver without a rate takes no samples (log 32), and that the head text goes back to its first chunk in the step that
makes the link LOST, while the link notice waits (log 4). -/
def Obligations.AnExchangeRunsAsItsEventsCome : Prop :=
  ∀ (s : State) (k : Crane),
    let l := s.line k
    let c := s.craneRec k
    let hears := l.rate ≠ none ∧ (∀ x, l.exchange = some x → x.progress ≠ .sending) ∧ ∀ due, l.wait ≠ .pulse due
    let majority := fun (w : List Bool) => decide (2 ≤ (((w.drop 6).take 3).filter id).length)
    -- a reply that is missing or invalid: a miss, and at the miss limit the link becomes LOST
    let missed := fun (cmd : Instr) (now : State) (rx : Receiver) (faults : Faults) =>
      (l.missCount + 1 < c.missLimit → exec cmd s = .next (now.modLine k (fun l =>
        { l with rx := rx, exchange := none, missCount := l.missCount + 1, faults := faults }))) ∧
      (c.missLimit ≤ l.missCount + 1 → ∃ t, exec cmd s = .next t ∧
        Within [.msCount, .lines, .notices, .events, .overflow] s t ∧ t.msCount = now.msCount ∧
        (∀ j, j ≠ k → t.line j = s.line j) ∧
        t.line k = { l with
          rx := rx, exchange := none, missCount := l.missCount + 1, faults := faults, link := .lost, linkCause := .misses
          cycleTimer := none, nextPattern := 0, attempts := 0, readyDeadline := none, wait := .lost (now.later 1000)
          texts := match l.texts with
            | [] => []
            | text :: rest => { text with progress := .first } :: rest } ∧
        t.notices = s.notices ++ [.link k .online .lost] ∧
        s.logged t [s.record .linkLost (number k) 0 0 1 (l.missCount + 1)])
    -- the frame is sent, and the receiver hunts
    (∀ x, l.exchange = some x → x.progress = .sending → exec (.frameSent k) s =
      .next (s.modLine k (fun l => { l with exchange := some { x with progress := .waiting (s.later x.window) } }))) ∧
    (∀ x, ¬ hears → exec (.replyCharacter k x) s = .next s) ∧
    (∀ b n, l.rx = .hunt b → exec (.replyCharacter k (List.replicate n b)) s = .next s) ∧
    (∀ w : List Bool, hears → l.rx = .hunt true → w.length = 9 → w.head? = some false →
      (majority w = true → exec (.replyCharacter k w) s =
        .next (s.modLine k (fun l => { l with rx := .hunt (w.getD 8 false) }))) ∧
      (majority w = false → ∀ x due, l.exchange = some x → x.progress = .waiting due →
        exec (.replyCharacter k w) s = .next (s.modLine k (fun l =>
          { l with rx := .char 9 0 [false], exchange := some { x with progress := .receiving [] false false } })))) ∧
    -- a character arrives
    (∀ (ws : List (List Bool)) (ch : Byte) (tenth stop : Bool), hears → l.rx = .hunt true → ws.length = 11 →
      (∀ w ∈ ws, w.length = 16) → ws.flatten.head? = some false → ws.map majority = charBits ch tenth stop →
      let x := ws.flatten.take 169
      let rx := Receiver.hunt (x.getLastD true)
      let parity := ((octetBits ch ++ [tenth]).filter id).length % 2 == 0
      (l.exchange = none → exec (.replyCharacter k x) s = .next (s.modLine k (fun l => { l with rx := rx }))) ∧
      ∀ (e : Exchange) (before : List Byte) (p f : Bool), l.exchange = some e →
        (e.progress = .receiving before p f ∨
          ∃ due, e.progress = .waiting due ∧ before = [] ∧ p = false ∧ f = false) →
        let o := before ++ [ch]
        let whole := 3 ≤ o.length ∧ o.length = 4 + oct o 2
        (¬ whole → o.length < 32 → exec (.replyCharacter k x) s = .next (s.modLine k (fun l =>
          { l with
            rx := rx, exchange := some { e with progress := .receiving o (p || parity) (f || !stop) } }))) ∧
        -- the reply to a POLL ends as a miss: the buffer is full, or a check of the whole reply fails
        (l.link = .online →
          let flagged : Faults :=
            { timeout := l.faults.timeout, parity := l.faults.parity || (p || parity)
              framing := l.faults.framing || (f || !stop)
              check := l.faults.check || o.getLast? != some (o.dropLast.foldl (fun a b => a ^^^ b) 0xA5)
              size := l.faults.size || oct o 2 != 13
              tag := l.faults.tag || (o.getD 0 0 != 0x94 || o.getD 1 0 != l.tag), range := l.faults.range }
          let frameFails := (p || parity || f || !stop) = true ∨
            o.getLast? ≠ some (o.dropLast.foldl (fun a b => a ^^^ b) 0xA5) ∨ oct o 2 ≠ 13 ∨ o.getD 0 0 ≠ 0x94 ∨
            o.getD 1 0 ≠ l.tag
          (¬ whole → o.length = 32 → e.progress = .receiving before p f →
            missed (.replyBufferFull k x) s rx { l.faults with
              size := true, parity := l.faults.parity || (p || parity)
              framing := l.faults.framing || (f || !stop) }) ∧
          ∀ m, e.kind = .poll m → whole →
            (frameFails → missed (.report k x) s rx flagged) ∧
            (¬ frameFails → 3600 ≤ oct2 o 3 → missed (.report k x) s rx { l.faults with range := true }))) ∧
    -- no reply, and a reply that breaks off
    (l.link = .online → ∀ x, l.exchange = some x →
      (∀ due, x.progress = .waiting due →
        missed (.replyWindowClose k) (s.reach due) l.rx { l.faults with timeout := true }) ∧
      (∀ o p f, x.progress = .receiving o p f →
        (l.rx.inCharacter = true → exec (.silenceLimit k) s = .next s) ∧
        (l.rx.inCharacter = false → missed (.silenceLimit k) s l.rx { l.faults with
          size := true, parity := l.faults.parity || p, framing := l.faults.framing || f })))

/-- R132 to R134, R139, R146 to R150, R152, R155: the attempts of enrolment that fail: no reply comes, one breaks off, is
too long, or arrives whole and fails a check of R133 or the content check of its kind (another pattern, a READY flag above
1). `fails` is what such an end brings in each link state; `found` are the flags of the checks of a whole reply. The
character that ends the reply arrives on a line nobody disturbs, with the tenth bit and the stop bit given. That the
attempts counter holds the attempts that have failed, also in RATE_SEARCH, for which R149 and R152 do not say it, is the
model's reading (log 15, DEDUCED); so are the parity and framing errors flagged with an unfinished reply (log 25) and the
receiver that has taken no sample when a frame begins (log 32). -/
def Obligations.EnrolmentAttemptsThatFail : Prop :=
  ∀ (s : State) (k : Crane) (x : Exchange), (s.line k).exchange = some x →
    (s.line k).link ∈ [LinkState.rateSearch, .check, .waitready, .tagging] →
    let l := s.line k
    let begun := fun (kind : ExchangeKind) (sent : List Byte) => some
      ({ kind := kind, sent := sent, window := (s.craneRec k).window, progress := .sending } : Exchange)
    let wakeCheck := begun (.wakeCheck l.nextPattern) (lineFrame 0x11 0 [1, l.nextPattern])
    let clear : Faults :=
      { timeout := false, parity := false, framing := false, check := false, size := false, tag := false, range := false }
    let fails := fun (c : Instr) (now : State) (rx : Receiver) (f : Faults) =>
      let failed := l.attempts + 1
      let flagged : Faults :=
        { timeout := l.faults.timeout || f.timeout, parity := l.faults.parity || f.parity
          framing := l.faults.framing || f.framing, check := l.faults.check || f.check, size := l.faults.size || f.size
          tag := l.faults.tag || f.tag, range := l.faults.range || f.range }
      ∃ t, exec c s = .next t ∧ Within [.msCount, .lines, .notices, .events, .overflow] s t ∧
        t.msCount = now.msCount ∧ (∀ j, j ≠ k → t.line j = s.line j) ∧
        t.notices = s.notices ++ (if (t.line k).link = l.link then [] else [.link k l.link (t.line k).link]) ∧
        s.logged t (if l.link = .tagging ∧ 3 ≤ failed then [s.record .linkLost (number k) 0 0 3 l.missCount] else []) ∧
        (l.link = .rateSearch → failed < 3 → t.line k = { l with
          attempts := failed, rate := some (if l.attempts = 0 then .mid else .slow)
          nextPattern := l.nextPattern + 1, exchange := wakeCheck, rx := .hunt false }) ∧
        (l.link = .rateSearch → 3 ≤ failed → t.line k = { l with
          attempts := failed, rate := none, exchange := none, rx := rx, wait := .backoff (now.later 2000) }) ∧
        (l.link = .check → failed < 2 → t.line k = { l with
          attempts := failed, faults := flagged, nextPattern := l.nextPattern + 1, exchange := wakeCheck
          rx := .hunt false }) ∧
        (l.link = .check → 2 ≤ failed → t.line k = { l with
          link := .waking, attempts := failed, faults := flagged, rate := none, tag := 0, effCycle := none
          exchange := none, cycleTimer := none, readyDeadline := none, lastReport := none, rx := .hunt false
          wait := .pulse (now.later 5) }) ∧
        (l.link = .waitready → t.line k = { l with exchange := none, faults := flagged, rx := rx }) ∧
        (l.link = .tagging → failed < 3 → t.line k = { l with
          attempts := failed, faults := flagged, tagCounter := if l.tagCounter = 254 then 1 else l.tagCounter + 1
          exchange := begun (.tagSet l.tagCounter) (lineFrame 0x13 0 [l.tagCounter]), rx := .hunt false }) ∧
        (l.link = .tagging → 3 ≤ failed → t.line k = { l with
          link := .lost, linkCause := .noIdent, faults := flagged, exchange := none, cycleTimer := none
          nextPattern := 0, attempts := 0, readyDeadline := none, rx := rx, wait := .lost (now.later 1000) })
    -- no reply, and a reply that breaks off
    (∀ due, x.progress = .waiting due →
      fails (.replyWindowClose k) (s.reach due) l.rx { clear with timeout := true }) ∧
    (∀ o p f, x.progress = .receiving o p f → l.rx.inCharacter = false →
      fails (.silenceLimit k) s l.rx { clear with size := true, parity := p, framing := f }) ∧
    -- a character that fills the buffer, or completes a reply that is not valid
    (∀ (last : Bool) (before : List Byte) (p f : Bool) (ch : Byte) (tenth stop : Bool), l.rate ≠ none →
      (∀ d, l.wait ≠ .pulse d) → l.rx = .hunt last → x.progress = .receiving before p f →
      let samples := wave ([false] ++ octetBits ch ++ [tenth, stop])
      let o := before ++ [ch]
      let parity := p || ((octetBits ch ++ [tenth]).filter id).length % 2 == 0
      let framing := f || !stop
      (o.length = 32 → 4 + oct o 2 ≠ 32 →
        fails (.replyBufferFull k samples) s (.hunt stop) { clear with size := true, parity := parity, framing := framing }) ∧
      (3 ≤ o.length → o.length = 4 + oct o 2 →
        let judged := fun (c : Instr) (kind tag : Byte) (length : Nat) (bad : Prop) =>
          let found : Faults :=
            { clear with
              parity := parity, framing := framing, size := oct o 2 != length
              check := o.getLast? != some (o.dropLast.foldl (fun a b => a ^^^ b) 0xA5)
              tag := o.getD 0 0 != kind || o.getD 1 0 != tag }
          (found ≠ clear → fails c s (.hunt stop) found) ∧
          (found = clear → bad → fails c s (.hunt stop) { clear with range := true })
        (∀ pattern, x.kind = .wakeCheck pattern → judged (.echo k samples) 0x91 0 2 (o.getD 4 0 ≠ pattern)) ∧
        (x.kind = .readyQ → judged (.ready k samples) 0x92 0 1 (1 < oct o 3)) ∧
        (∀ t, x.kind = .tagSet t → judged (.ident k samples) 0x93 t 6 False)))

/-- R23, R85, R89, R128, R133, R137, R189: a valid REPORT, received character by character on a line nobody disturbs. -/
def Obligations.AValidReportIsTaken : Prop :=
  ∀ (s : State) (k : Crane) (x : Exchange) (m : ChunkMarker) (due : Moment) (p : List Byte) (last : Bool),
    (s.line k).exchange = some x → x.kind = .poll m → x.progress = .waiting due → (s.line k).rate ≠ none →
    (∀ d, (s.line k).wait ≠ .pulse d) → (s.line k).rx = .hunt last → p.length = 13 → oct2 p 0 < 3600 →
    let r : Report :=
      { theta := oct2 p 0, omega := max (-100) (min 100 (int1 p 2)), radius := min (oct2 p 3) (s.craneRec k).jib
        speed := max (-200) (min 200 (int2 p 5)), height := max (-5000) (min 30000 (int2 p 7))
        wind := min (oct2 p 9) 600, windValid := (p.getD 11 0).getLsbD 0, age := oct p 12 }
    let clamped := r.omega ≠ int1 p 2 ∨ r.radius ≠ oct2 p 3 ∨ r.speed ≠ int2 p 5 ∨ r.height ≠ int2 p 7 ∨
      r.wind ≠ oct2 p 9
    ∃ t, exec (.report k ((lineFrame 0x94 (s.line k).tag p).map (fun o => wave (lineBits o))).flatten) s = .next t ∧
      Within [.lines, .wind] s t ∧ (∀ j, j ≠ k → t.line j = s.line j ∧ t.wind[j] = s.wind[j]) ∧
      t.line k = { s.line k with
        rx := .hunt true, exchange := none, lastReport := some r, reportSince := true, missCount := 0
        texts := match m, (s.line k).texts with
          | .only, _ :: rest | .last, _ :: rest => rest
          | .first, text :: rest => { text with progress := .second } :: rest
          | _, texts => texts
        faults := { (s.line k).faults with range := (s.line k).faults.range || decide clamped } } ∧
      t.wind[k] =
        if r.windValid = true ∧ s.worked k = true then
          { s.wind[k] with ownSum := s.wind[k].ownSum + r.wind, ownCount := s.wind[k].ownCount + 1 }
        else s.wind[k]

/-- R128, R133, R147, R149, R150, R153, R154, R156: the good replies of enrolment, received character by character on a
line nobody disturbs. The receiver that has taken no sample when a frame begins is the model's reading (log 32), and so is
that the effective cycle is first stored on entry to WAITREADY (log 24). -/
def Obligations.EnrolmentRepliesAreTaken : Prop :=
  ∀ (s : State) (k : Crane) (x : Exchange) (due : Moment) (last : Bool), (s.line k).exchange = some x →
    x.progress = .waiting due → (s.line k).rate ≠ none → (∀ d, (s.line k).wait ≠ .pulse d) →
    (s.line k).rx = .hunt last →
    let l := s.line k
    let waves := fun (f : List Byte) => (f.map (fun o => wave (lineBits o))).flatten
    (∀ p, x.kind = .wakeCheck p → l.link = .rateSearch →
      ∃ t, exec (.echo k (waves (lineFrame 0x91 0 [1, p]))) s = .next t ∧ Within [.lines, .notices] s t ∧
        t.notices = s.notices ++ [.link k .rateSearch .check] ∧
        t.line k = { l with
          link := .check, attempts := 0, nextPattern := l.nextPattern + 1
          exchange := some
            { kind := .wakeCheck l.nextPattern, sent := lineFrame 0x11 0 [1, l.nextPattern]
              window := (s.craneRec k).window, progress := .sending }
          rx := .hunt false }) ∧
    (∀ p, x.kind = .wakeCheck p → l.link = .check →
      ∃ t, exec (.echo k (waves (lineFrame 0x91 0 [1, p]))) s = .next t ∧ Within [.lines, .notices] s t ∧
        t.notices = s.notices ++ [.link k .check .waitready] ∧
        t.line k = { l with
          link := .waitready, effCycle := s.cycleNow k, cycleTimer := some (s.later ((s.cycleNow k).getD 0))
          readyDeadline := some (s.later 10000)
          exchange := some
            { kind := .readyQ, sent := lineFrame 0x12 0 [], window := (s.craneRec k).window, progress := .sending }
          rx := .hunt false }) ∧
    (∀ p v, x.kind = .wakeCheck p → l.link = .rateSearch ∨ l.link = .check → v ≠ 1 →
      ∃ t, exec (.echo k (waves (lineFrame 0x91 0 [v, p]))) s = .next t ∧
        (t.line k).link = .mismatch ∧ (t.line k).linkCause = .version ∧ (t.line k).exchange = none ∧
        t.events.getLast? = some (s.record .linkMismatch (number k) 0 0 1 v.toNat)) ∧
    (x.kind = .readyQ → l.link = .waitready →
      exec (.ready k (waves (lineFrame 0x92 0 [0]))) s = .next (s.modLine k (fun l =>
        { l with rx := .hunt true, exchange := none })) ∧
      ∃ t, exec (.ready k (waves (lineFrame 0x92 0 [1]))) s = .next t ∧ Within [.lines, .notices] s t ∧
        t.notices = s.notices ++ [.link k .waitready .tagging] ∧
        t.line k = { l with
          link := .tagging, cycleTimer := none, readyDeadline := none, attempts := 0
          tagCounter := if l.tagCounter = 254 then 1 else l.tagCounter + 1
          exchange := some
            { kind := .tagSet l.tagCounter, sent := lineFrame 0x13 0 [l.tagCounter], window := (s.craneRec k).window
              progress := .sending }
          rx := .hunt false }) ∧
    (∀ (tag : Byte) (id : BitVec 32) (digest : BitVec 16), x.kind = .tagSet tag → l.link = .tagging →
      let c := s.craneRec k
      ∃ t, exec (.ident k (waves (lineFrame 0x93 tag (put4 id.toNat ++ put2 digest.toNat)))) s = .next t ∧
        Within [.lines, .notices, .events, .overflow] s t ∧
        (id = c.identity → digest = c.digest →
          t.notices = s.notices ++ [.link k .tagging .online] ∧
          t.line k = { l with
            link := .online, rx := .hunt true, exchange := none, tag := tag, missCount := 0, reportSince := false
            guardEndDue := true, nextPattern := 0, attempts := 0, readyDeadline := none, wait := .nothing
            effCycle := s.cycleNow k, cycleTimer := some s.msCount } ∧
          (l.rate = some .fast → t.events.getLast? =
            some (s.record .linkOnline (number k) 0 0 0 tag.toNat)) ∧
          (l.rate ≠ some .fast → t.events.getLast? =
            some (s.record .rateChange (number k) 0 0 (rateCode l.rate) (l.effCycle.getD 0)))) ∧
        (id ≠ c.identity ∨ digest ≠ c.digest →
          (t.line k).link = .mismatch ∧ (t.line k).linkCause = .identity ∧ (t.line k).exchange = none ∧
          t.events.getLast? = some (s.record .linkMismatch (number k) 0 0 2
            ((if id = c.identity then 0 else 1) + (if digest = c.digest then 0 else 2)))))

/-- R144, R145, R146, R148, R155: the waits of enrolment. The receiver that has taken no sample is the model's reading
(log 32). -/
def Obligations.TheWaitsOfEnrolmentEnd : Prop :=
  ∀ (s : State) (k : Crane) (due : Moment),
    let l := s.line k
    let now := s.reach due
    ((s.line k).wait = .pulse due → exec (.wakePulseEnd k) s =
      .next (now.modLine k (fun l => { l with wait := .idle (now.later 10) }))) ∧
    (l.wait = .idle due → l.link = .waking →
      ∃ t, exec (.wakeIdleEnd k) s = .next t ∧ Within [.msCount, .lines, .notices] s t ∧
        t.notices = s.notices ++ [.link k .waking .rateSearch] ∧ (∀ j, j ≠ k → t.line j = s.line j) ∧
        t.line k = { l with
          link := .rateSearch, rate := some .fast, attempts := 0, wait := .nothing, nextPattern := l.tagCounter + 1
          exchange := some
            { kind := .wakeCheck l.tagCounter, sent := lineFrame 0x11 0 [1, l.tagCounter]
              window := (s.craneRec k).window, progress := .sending }
          rx := .hunt false }) ∧
    (∀ c, (c = .backoffExpiry k ∧ l.wait = .backoff due ∧ l.link = .rateSearch) ∨
        (c = .lostExpiry k ∧ l.wait = .lost due ∧ l.link = .lost) →
      ∃ t, exec c s = .next t ∧ Within [.msCount, .lines, .notices] s t ∧
        t.notices = s.notices ++ [.link k l.link .waking] ∧ (∀ j, j ≠ k → t.line j = s.line j) ∧
        t.line k = { l with
          link := .waking, rate := none, tag := 0, effCycle := none, exchange := none, cycleTimer := none
          readyDeadline := none, lastReport := none, rx := .hunt false, wait := .pulse (now.later 5) })

/-- R150, R151, R155: WAITREADY asks again at each expiry of the cycle timer, until its deadline passes. That an exchange
whose reply has not begun, or whose frame is still being sent, then sets SIZE is the model's reading (log 25), and so is
the receiver that has taken no sample (log 32). -/
def Obligations.WaitreadyAsksUntilItsDeadline : Prop :=
  ∀ (s : State) (k : Crane) (due : Moment), (s.line k).link = .waitready →
    let l := s.line k
    let now := s.reach due
    (l.cycleTimer = some due →
      ∃ t, exec (.waitreadyExpiry k) s = .next t ∧ Within [.msCount, .lines] s t ∧
        (∀ j, j ≠ k → t.line j = s.line j) ∧
        t.line k = { l with
          effCycle := s.cycleNow k, cycleTimer := some (now.later ((s.cycleNow k).getD 0))
          faults := match l.exchange with
            | none => l.faults
            | some x => match x.progress with
              | .receiving _ parity framing =>
                { l.faults with
                  size := true, parity := l.faults.parity || parity, framing := l.faults.framing || framing }
              | .sending | .waiting _ => { l.faults with size := true }
          exchange := some
            { kind := .readyQ, sent := lineFrame 0x12 0 [], window := (s.craneRec k).window
              progress := .sending }
          rx := .hunt false }) ∧
    (l.readyDeadline = some due →
      ∃ t, exec (.readyDeadline k) s = .next t ∧ Within [.msCount, .lines, .notices, .events, .overflow] s t ∧
        (∀ j, j ≠ k → t.line j = s.line j) ∧ t.notices = s.notices ++ [.link k .waitready .lost] ∧
        t.line k = { l with
          link := .lost, linkCause := .notReady, exchange := none, cycleTimer := none, readyDeadline := none
          nextPattern := 0, attempts := 0, wait := .lost (now.later 1000) } ∧
        t.events.getLast? = some (s.record .linkLost (number k) 0 0 2 l.missCount))

/-! ## Notices and timers -/

/-- R22, R55, R59, R89, R139: what a link change does at the evaluator, the arbiter and the wind evaluator; no guard entry
changes but those of R55. -/
def Obligations.ALinkNoticeReachesItsBlocks : Prop :=
  ∀ (s : State) (k : Crane) (old new : LinkState) (rest : List Notice) (order : List Nat),
    takeFirst (Notice.isLink k) s.notices = some (.link k old new, rest) →
    ∃ t, exec (.linkNotice k order) s = .next t ∧ Within (touches (.linkNotice k order)) s t ∧
      (old = .online → new ≠ .online → t.faces[k] = []) ∧
      (old ≠ .online ∨ new = .online → t.faces[k] = s.faces[k]) ∧
      (old = .online → new ≠ .online → s.worked k = true →
        t.wind[k] = { s.wind[k] with quiet := 5, ownSum := 0, ownCount := 0 }) ∧
      (old ≠ .online ∨ new = .online → t.wind[k] = s.wind[k]) ∧
      (new = .online → t.declared[k] = []) ∧ (new ≠ .online → t.declared[k] = s.declared[k]) ∧
      (let shared := allZones.filter (fun z => s.isShared z && (s.faceIn k z).isSome)
       let added := shared.filter (fun z => decide (z ∉ s.declared[k] ∧ k ∉ (s.zone z).guard))
       let guards := new ≠ .online ∧ s.mode ≠ .setup ∧ s.worked k = true
       let begun := if guards ∧ added ≠ [] then [s.record .guardBegin (number k) 0 0 added.length
         (shared.filter (fun z => decide (z ∈ s.declared[k]))).length] else []
       (∀ z j, j ∈ (t.zone z).guard ↔ j ∈ (s.zone z).guard ∨ (j = k ∧ guards ∧ z ∈ added)) ∧
       (∃ logged, s.logged t logged ∧ logged.filter (fun e => e.kind == .guardBegin) = begun) ∧
       (old ≠ .online → new ≠ .online → s.logged t begun ∧
         ∀ z, t.zone z = if guards ∧ z ∈ added then { s.zone z with guard := addTo k (s.zone z).guard } else s.zone z)) ∧
      (old ≠ .online → new ≠ .online → t.bookings = s.bookings ∧ t.notices = rest) ∧
      ∀ j, j ≠ k → t.faces[j] = s.faces[j] ∧ t.wind[j] = s.wind[j] ∧ t.declared[j] = s.declared[j]

/-- R52, R55, R63 to R66, R74, R102, R110 to R117, R119, R122, R139, R167, R171: the reviews that a level, service, mode or clock notice
and a link notice into or out of ONLINE bring: to the bookings of its crane, or to all, each against the site clock as it
stands, with its event, and what they do to the zones (`State.reviews`). That a link notice has guarded its zones before
the reviews is the model's reading (log 5); the order of the reviews is an operand (log 6), and the crane that a conflict
event names its choice (log 7). -/
def Obligations.ANoticeReviewsTheBookings : Prop :=
  ∀ (s : State) (order : List Nat),
    let reviews := fun (c : Instr) (picked : Booking → Prop) (rest : List Notice) (course : Zone → Course)
        (begun : List Event) =>
      ∃ t new posted, exec c s = .next t ∧ Within (touches c) s t ∧ s.logged t new ∧ t.notices = rest ++ posted ∧
        s.reviews false picked course t new posted ∧
        new.filter (fun e => e.kind ∉ [EventKind.bookingState, .conflictBegin, .conflictEnd]) = begun
    (∀ k, (∃ n ∈ s.notices, Notice.isLevel k n = true) →
      reviews (.levelNotice k order) (fun b => b.crane = k) (s.notices.eraseP (Notice.isLevel k)) s.courseOf []) ∧
    (∀ k, (∃ n ∈ s.notices, Notice.isService k n = true) →
      reviews (.serviceNotice k order) (fun b => b.crane = k) (s.notices.eraseP (Notice.isService k)) s.courseOf []) ∧
    (.mode ∈ s.notices → reviews (.modeNotice order) (fun _ => True) (s.notices.erase .mode) s.courseOf []) ∧
    (.clock ∈ s.notices → reviews (.clockNotice order) (fun _ => True) (s.notices.erase .clock) s.courseOf []) ∧
    ∀ k old new rest, takeFirst (Notice.isLink k) s.notices = some (.link k old new, rest) →
      old = .online ∨ new = .online →
      let shared := allZones.filter (fun z => s.isShared z && (s.faceIn k z).isSome)
      let added := shared.filter (fun z => decide (new ≠ .online ∧ s.mode ≠ .setup ∧ s.worked k = true ∧
        z ∉ s.declared[k] ∧ k ∉ (s.zone z).guard))
      reviews (.linkNotice k order) (fun b => b.crane = k) rest
        (fun z => if z ∈ added then
          (s.courseOf z).set { s.zone z with guard := addTo k (s.zone z).guard } else s.courseOf z)
        (if added = [] then [] else [s.record .guardBegin (number k) 0 0 added.length
          (shared.filter (fun z => decide (z ∈ s.declared[k]))).length])

/-- R51, R64 to R66, R106, R110 to R112, R114 to R117, R119, R122: the review that a clearance notice brings to a CALLING,
ACTIVE or SUSPENDED booking, with its event and what it does to each reserved zone, and the end of a CLOSING one at the
notice that its crane has left. `State.obstacle` is the
cause of the first call condition that fails. The crane that a conflict event names is the model's choice (log 7). -/
def Obligations.ClearanceAndLeavingReviewTheBooking : Prop :=
  ∀ (s : State) (b : Booking), s.clockValid = true → s.bookings.find? (fun d => d.id == b.id) = some b →
    (∀ z, (∃ n ∈ s.notices, Notice.isClearance z b.id n = true) →
      let clear := ∀ y ∈ b.reserved, ((s.zone y).holder = none ∨ (s.zone y).holder = some b.crane) ∧ (s.zone y).sweep = []
      let inOpened := ∃ y ∈ b.opened, b.crane ∈ (s.zone y).inside
      ∃ t, exec (.clearanceNotice z b.id) s = .next t ∧
        Within [.bookings, .termSeq, .arb, .notices, .events, .overflow] s t ∧
        (∀ y, y ∉ b.reserved → t.zone y = s.zone y) ∧
        let others := s.notices.eraseP (Notice.isClearance z b.id)
        let becomes := fun (state : BookingState) (cause : BookingCause) (terminal : Option Nat)
            (does : Zone → Course → Course) =>
          (∃ n, t.bookings = s.bookings.map (fun d =>
            if d.id = b.id then { b with state := state, cause := cause, terminal := terminal, termSeq := n } else d)) ∧
          ∃ new posted, s.logged t new ∧ t.notices = others ++ posted ∧
            (∀ y, t.ran y (if y ∈ b.reserved then does y (s.courseOf y) else s.courseOf y) new posted) ∧
            new.filter (fun e => e.kind == .bookingState) =
              [s.record .bookingState (number b.crane) 0 b.id state.code cause.code] ∧
            ∀ e ∈ new, e.kind ∈ [EventKind.bookingState, .conflictBegin, .conflictEnd]
        let activates := fun (y : Zone) (q : Course) => q.activate s y b.id
        let suspends := fun (y : Zone) (q : Course) => q.suspend s y b.id
        let removes := fun (y : Zone) (q : Course) => q.unreserve s y b.id
        let phase := fun (p : Phase) => ∀ y ∈ b.reserved, ∀ v, (s.zone y).reservation = some v → v.id = b.id →
          (t.zone y).reservation = some { v with phase := p }
        let gone := ∀ y ∈ b.reserved, ∀ v, (t.zone y).reservation = some v → v.id ≠ b.id
        let stays := t.bookings = s.bookings ∧ t.arb = s.arb ∧ t.events = s.events ∧ t.notices = others
        (b.state = .calling →
          (b.deadline ≤ s.clock ∨ b.finish ≤ s.clock → becomes .lapsed .notClear (some s.clock) removes ∧ gone) ∧
          (s.clock < b.deadline → s.clock < b.finish →
            (s.obstacle b = none → clear → becomes .active .cleared b.terminal activates ∧ phase .active) ∧
            (s.obstacle b ≠ none ∨ ¬ clear → stays))) ∧
        (b.state = .active ∨ b.state = .suspended → b.finish ≤ s.clock →
          (inOpened → becomes .closing .finished b.terminal removes ∧ gone) ∧
          (¬ inOpened → becomes .ended .finished (some s.clock) removes ∧ gone)) ∧
        (b.state = .active → s.clock < b.finish →
          (s.obstacle b = none → stays) ∧
          ∀ cause, s.obstacle b = some cause → becomes .suspended cause b.terminal suspends ∧ phase .suspended) ∧
        (b.state = .suspended → s.clock < b.finish →
          (s.obstacle b = none → clear → becomes .active .resumed b.terminal activates ∧ phase .active) ∧
          (s.obstacle b ≠ none ∨ ¬ clear → stays))) ∧
    (∀ (z : Zone) (order : List Nat), (∃ n ∈ s.notices, Notice.isInsideLeft b.crane z n = true) →
      b.state = .closing → (∀ y ∈ b.opened, b.crane ∉ (s.zone y).inside) →
      ∃ t seq, exec (.insideLeftNotice b.crane z order) s = .next t ∧
        Within [.bookings, .termSeq, .notices, .events, .overflow] s t ∧
        t.bookings.find? (fun d => d.id == b.id) =
          some { b with state := .ended, cause := .left, terminal := some s.clock, termSeq := seq } ∧
        ∃ new, s.logged t new ∧ new.filter (fun e => e.booking == b.id) =
          [s.record .bookingState (number b.crane) 0 b.id BookingState.ended.code BookingCause.left.code])

/-- R63 to R66, R110 to R117, R119, R122, R170: one second of the site clock, and what the review of that second does to
each booking, with its events, and to its zones (`State.reviews`); the second that wraps counts as past every moment. The
crane that a conflict event names is the model's choice (log 7). -/
def Obligations.ASecondAdvancesTheClock : Prop :=
  ∀ (s : State) (order : List Nat),
    ∃ t new posted, exec (.clockSecond order) s = .next t ∧ Within (touches (.clockSecond order)) s t ∧
      t.clock = (s.clock + 1) % 4294967296 ∧
      t.clockDue = s.clockDue + 1000 ∧ s.logged t new ∧ t.notices = s.notices ++ posted ∧
      (s.clockValid = false → t.bookings = s.bookings ∧ t.arb = s.arb ∧ t.events = s.events) ∧
      ({ s with clock := t.clock } : State).reviews (decide (t.clock = 0)) (fun _ => True) s.courseOf t new posted ∧
      ∀ e ∈ new, e.kind ∈ [EventKind.bookingState, .conflictBegin, .conflictEnd]

/-- R88 to R98, R100, R102, R103: the slots close for every crane that is Defined and not absent, whatever order is taken:
the source, the second value, the gust and mean, the target and the level of each, with the events of R103. -/
def Obligations.EverySlotClosesOnce : Prop :=
  ∀ (s : State) (order : List Crane),
    ∃ t, exec (.slotClose order) s = .next t ∧ Within (touches (.slotClose order)) s t ∧
      t.windDue = s.windDue + 1000 ∧
      (∀ k c, s.crane k = some c → c.absent = false →
        let w := s.wind[k]
        let p := s.params
        let backup : Option MastCopy := match c.backup with
          | none => none
          | some m => if s.mastDefined m = true ∧ s.windMasts[m].state ≠ .missing then some s.windMasts[m] else none
        let source := if 1 ≤ w.ownCount ∨ w.quiet ≤ 3 then WindSource.own
          else if backup.isSome then .mast
          else .missing
        let quiet := if 1 ≤ w.ownCount then 0 else if w.quiet ≤ 3 then w.quiet + 1 else 5
        let value := if 1 ≤ w.ownCount then some (w.ownSum / w.ownCount)
          else if source = .mast then
            match (backup.filter (fun m => m.fresh)).bind (fun m => m.sample) with
            | some v => some v
            | none => w.values.head?
          else w.values.head?
        let values := match value with
          | none => w.values
          | some v => (v :: w.values).take 3
        let acc := match value, w.acc with
          | none, a => a
          | some v, none => some (256 * v)
          | some v, some a => some (a + v - a / 256)
        let gust := (values.sum + values.length - 1) / values.length
        let mean := acc.getD 0 / 256
        let known := values ≠ [] ∧ acc ≠ none
        let target := if known ∧ (c.stormGust ≤ gust ∨ c.stormMean ≤ mean) then WindLevel.storm
          else if (known ∧ (c.stopGust ≤ gust ∨ c.stopMean ≤ mean)) ∨ source = .missing then .stop
          else if known ∧ c.cautionGust ≤ gust then .caution
          else .calm
        let h := p.hysteresis
        let eases := known ∧ match w.level with
          | .storm => gust + h < c.stormGust ∧ mean + h < c.stormMean
          | .stop => gust + h < c.stopGust ∧ mean + h < c.stopMean ∧ source ≠ .missing
          | .caution => gust + h < c.cautionGust
          | .calm => False
        let hold := match w.level with
          | .storm => p.holdStorm
          | .stop => p.holdStop
          | .caution => p.holdCaution
          | .calm => 0
        let lower := match w.level with
          | .storm => WindLevel.stop
          | .stop => .caution
          | .caution | .calm => .calm
        let closed := fun (level : WindLevel) (eligible : Nat) (unsettled : Bool) =>
          t.wind[k] =
            { source := source, quiet := quiet, ownSum := 0, ownCount := 0, values := values, acc := acc, level := level
              eligible := eligible, unsettled := unsettled }
        (w.unsettled = true → values.length < 3 →
          closed (if target = .storm then .storm else w.level) 0 true) ∧
        (w.unsettled = true → 3 ≤ values.length → closed target 0 false) ∧
        (w.unsettled = false → w.level.code < target.code → closed target 0 false) ∧
        (w.unsettled = false → target.code ≤ w.level.code →
          (¬ eases → closed w.level 0 false) ∧
          (eases → w.eligible + 1 < hold → closed w.level (w.eligible + 1) false) ∧
          (eases → hold ≤ w.eligible + 1 → closed lower 0 false)) ∧
        (t.wind[k].level ≠ w.level → Notice.level k t.wind[k].level ∈ t.notices)) ∧
      (∀ k, s.worked k = false → t.wind[k] = s.wind[k]) ∧
      (∀ k level, Notice.level k level ∈ t.notices →
        Notice.level k level ∈ s.notices ∨ (level = t.wind[k].level ∧ level ≠ s.wind[k].level)) ∧
      (∃ new, s.logged t new ∧ (∀ e ∈ new, ∃ k, s.worked k = true ∧ e.crane = number k) ∧
        ∀ k, s.worked k = true → new.filter (fun e => e.crane == number k) =
          let w := s.wind[k]
          let w' := t.wind[k]
          (if w'.source = w.source then []
            else [s.record .windSource (number k) 0 0 w'.source.code w.source.code]) ++
          (if w'.level = w.level then []
            else [s.record .windLevel (number k) 0 0 w'.level.code w.level.code])) ∧
      ∀ m : Mast, t.windMasts[m] = { s.windMasts[m] with fresh := false }

/-- R16, R158 to R163: the slots and exchanges of the mast line, whose characters arrive on a line nobody disturbs, each
with the address flag and the stop bit given, and the notice to the Wind Evaluator. `ends` is the end of an exchange: with
a result that is discarded nothing but the exchange changes; a valid reply and a miss each leave the mast's record, event
and notice that R162 and R163 give. The receiver that has taken no sample when a request is sent is the model's reading
(log 32). -/
def Obligations.AMastIsCalledAndAnswers : Prop :=
  ∀ s : State,
    let l := s.mastLine
    let received := fun (o : Byte) (address stop : Bool) => wave ([false] ++ octetBits o ++ [address, stop])
    let hears := fun (stop : Bool) => ({ s with mastLine := { l with rx := .hunt stop } } : State)
    (l.exchange = none →
      let m := if l.slot = 3 then 0 else l.slot + 1
      exec .mastSlotStart s = .next { s.reach l.slotDue with mastLine := { l with
        divN := s.params.divN, divF := s.params.divF, slot := m, slotDue := l.slotDue + 250
        rx := if s.mastDefined m then .hunt false else l.rx
        exchange := if s.mastDefined m then some { mast := m, discard := false, progress := .sending } else none } }) ∧
    (∀ last, l.exchange = none → l.rx = .hunt last → ∀ o address stop,
      exec (.mastCharacter (received o address stop)) s = .next (hears stop)) ∧
    (∀ x, l.exchange = some x →
      (x.progress = .sending →
        (∀ samples, exec (.mastCharacter samples) s = .next s) ∧
        exec .mastRequestSent s = .next { s with mastLine := { l with
          exchange := some { x with progress := .window (s.later 50) [] false } } }) ∧
      (∀ due held framing, x.progress = .window due held framing →
        let ends := fun (c : Instr) (now : State) (rx : Receiver) (speed : Option Nat) =>
          ∃ t, exec c s = .next t ∧ Within [.msCount, .mastLine, .notices, .events, .overflow] s t ∧
            t.msCount = now.msCount ∧
            (x.discard = true → t.mastLine = { l with rx := rx, exchange := none } ∧ t.notices = s.notices ∧
              t.events = s.events ∧ t.overflow = s.overflow) ∧
            (x.discard = false → ∀ before, l.masts[x.mast] = some before →
              let becomes := fun (state : MastState) (misses : Nat) =>
                t.mastLine = { l with
                  rx := rx, exchange := none, masts := l.masts.set x.mast (some { state := state, misses := misses }) } ∧
                t.notices = s.notices ++ [.mast x.mast state speed]
              let silent := t.events = s.events ∧ t.overflow = s.overflow
              (∀ v, speed = some v → becomes .present 0 ∧
                (before.state ≠ .missing → silent) ∧
                (before.state = .missing → s.logged t [s.record .mastBack 0 0 0 (number x.mast) v])) ∧
              (speed = none →
                (before.state = .missing → becomes .missing 3 ∧ silent) ∧
                (before.state ≠ .missing → before.misses < 2 →
                  becomes before.state (before.misses + 1) ∧ silent) ∧
                (before.state ≠ .missing → 2 ≤ before.misses → becomes .missing 3 ∧
                  s.logged t [s.record .mastLost 0 0 0 (number x.mast) before.state.code])))
        -- four characters end the exchange: valid, or a miss
        let judged := fun (c : Instr) (rx : Receiver) (reply : List Byte) (damaged : Prop) =>
          let valid := ¬ damaged ∧ oct reply 0 = number x.mast ∧
            reply.getD 3 0 = 0xA5 ^^^ reply.getD 0 0 ^^^ reply.getD 1 0 ^^^ reply.getD 2 0
          (valid → ends c s rx (some (min (oct reply 1 * 256 + oct reply 2) 600))) ∧ (¬ valid → ends c s rx none)
        ends .mastWindowClose (s.reach due) l.rx none ∧
        ∀ last, l.rx = .hunt last →
          (∀ (o : Byte) (stop : Bool) (c : Instr), c = .mastCharacter (received o false stop) ∨
              c = .mastReply (received o false stop) →
            (held.length < 3 → exec c s = .next { s with mastLine := { l with
              rx := .hunt stop
              exchange := some { x with progress := .window due (held ++ [o]) (framing || !stop) } } }) ∧
            (held.length = 3 → judged c (.hunt stop) (held ++ [o]) (framing = true ∨ stop = false))) ∧
          (∀ (o : Byte) (stop : Bool), exec (.mastCharacter (received o true stop)) s = .next (hears stop)) ∧
          ∀ a b c d : Byte × Bool, held = [] → framing = false →
            judged (.mastReply ([a, b, c, d].map (fun h => received h.1 false h.2)).flatten) (.hunt d.2)
              [a.1, b.1, c.1, d.1] (a.2 = false ∨ b.2 = false ∨ c.2 = false ∨ d.2 = false))) ∧
    (∀ m state speed rest, takeFirst (Notice.isMast m) s.notices = some (.mast m state speed, rest) →
      exec (.mastNotice m) s = .next { s with
        notices := rest
        windMasts := s.windMasts.set m (match speed with
          | none => { s.windMasts[m] with state := state }
          | some v => { state := state, sample := some v, fresh := true }) })

/-! ## Rules of one block -/

/-- R2: two arcs overlap exactly when they share an angle. -/
def Obligations.ArcsOverlapExactlyWhenTheyShareAnAngle : Prop :=
  ∀ x wx y wy : Nat, x < 3600 → y < 3600 → 1 ≤ wx → wx ≤ 3600 → 1 ≤ wy → wy ≤ 3600 →
    (overlap x wx y wy = true ↔ ((y : Int) - x) % 3600 < wx ∨ ((x : Int) - y) % 3600 < wy) ∧
    (((y : Int) - x) % 3600 < wx ↔ inArc y x wx = true) ∧ (((x : Int) - y) % 3600 < wy ↔ inArc x y wy = true) ∧
    (overlap x wx y wy = true ↔ ∃ a < 3600, inArc a x wx = true ∧ inArc a y wy = true) ∧
    overlap x wx y wy = overlap y wy x wx ∧ overlap x 3600 y wy = true ∧
    (wx + wy ≤ 3600 → (x + wx) % 3600 = y → overlap x wx y wy = false)

/-- R49: the seven steps of the grant pass. -/
def Obligations.TheGrantPassTakesItsSteps : Prop :=
  ∀ r : ZoneRt,
    let claimed := r.claims ≠ [] ∧ ∀ v, r.reservation = some v → v.phase ≠ .active
    let next := fun (q : ZoneRt) (k : Crane) => { q with holder := some k, waiting := q.waiting.filter (· != k) }
    (r.holder ≠ none → r.grantPass = r) ∧
    (r.holder = none → claimed →
      (∀ k, k ∈ r.grantPass.sweep ↔ k ∈ r.sweep ∨ k ∈ r.claims) ∧ r.grantPass.claims = [] ∧
      r.grantPass.waiting = r.waiting.filter (fun k => !r.claims.contains k) ∧ r.grantPass.holder = none ∧
      r.grantPass.guard = r.guard ∧ r.grantPass.inside = r.inside ∧ r.grantPass.mover = r.mover ∧
      r.grantPass.reservation = r.reservation) ∧
    (r.holder = none → ¬ claimed → r.sweep ≠ [] ∨ r.guard ≠ [] → r.grantPass = r) ∧
    (r.holder = none → ¬ claimed → r.sweep = [] → r.guard = [] →
      (∀ v, r.reservation = some v → r.grantPass = if v.crane ∈ r.waiting then next r v.crane else r) ∧
      (r.reservation = none →
        (∀ k before after, r.waiting = before ++ k :: after → k ∈ r.inside → (∀ j ∈ before, j ∉ r.inside) →
          r.grantPass = next r k) ∧
        (∀ k rest, r.waiting = k :: rest → (∀ j ∈ r.waiting, j ∉ r.inside) → r.grantPass = next r k) ∧
        (r.waiting = [] → r.grantPass = r)))

/-- R96, R97: a target above the level raises a settled record to it at once, and no eligible second is kept. -/
def Obligations.TheWindLevelRisesAtOnce : Prop :=
  ∀ (w : WindRec) (c : CraneRec) (p : SiteParams) (backup : Option MastCopy), w.unsettled = false →
    let q := w.close c p backup
    let gust := (q.values.sum + q.values.length - 1) / q.values.length
    let mean := q.acc.getD 0 / 256
    let known := q.values ≠ [] ∧ q.acc ≠ none
    let target := if known ∧ (c.stormGust ≤ gust ∨ c.stormMean ≤ mean) then WindLevel.storm
      else if (known ∧ (c.stopGust ≤ gust ∨ c.stopMean ≤ mean)) ∨ q.source = .missing then .stop
      else if known ∧ c.cautionGust ≤ gust then .caution
      else .calm
    w.level.code < target.code → q.level = target ∧ q.eligible = 0 ∧ q.unsettled = false

/-- R45: who holds the zone, or where the crane waits, after a request of a crane that is not involved. -/
def Obligations.ARequestIsGrantedAtOnceOrWaits : Prop :=
  ∀ (r : ZoneRt) (k : Crane), r.involves k = false →
    let free := r.holder = none ∧ r.sweep = [] ∧ r.guard = [] ∧
      ((r.reservation = none ∧ r.claims = []) ∨ ∃ v, r.reservation = some v ∧ v.crane = k)
    (free → r.request k = { r with holder := some k }) ∧ (¬ free → r.request k = { r with waiting := r.waiting ++ [k] })

/-- R32, R37 to R41, R71 to R73, R118: each level of a permit is the lowest of its contributions, and what those of the
mode, the report, the service state, the wind and each face are. -/
def Obligations.ThePermitIsTheLowestOfItsContributions : Prop :=
  (∀ (s : State) (k : Crane) (evaluated : Option Report) (motion : Permit → MotionLevel),
    motion ∈ [Permit.cw, Permit.ccw, Permit.outward, Permit.inward, Permit.up, Permit.down] →
    let parts := [modeLimits s.mode, reportLimits (s.line k).reportSince, serviceLimits s.service[k],
      windLimits s.wind[k].level, s.facesPart k evaluated].map motion
    motion (s.permitFor k evaluated) ∈ parts ∧ (∀ l ∈ parts, (motion (s.permitFor k evaluated)).code ≤ l.code) ∧
    (evaluated = none ∨ s.mode = .setup → motion (s.facesPart k evaluated) = .full) ∧
    ∀ r, evaluated = some r → s.mode ≠ .setup →
      let faces := s.faces[k].map (fun g => motion (s.contribution k r g))
      (motion (s.facesPart k evaluated) = .full ∨ motion (s.facesPart k evaluated) ∈ faces) ∧
        ∀ l ∈ faces, (motion (s.facesPart k evaluated)).code ≤ l.code) ∧
  (∀ (s : State) (k : Crane) (r : Report) (g : FaceState) (d : ZoneDef) (f : Face), s.faceIn k g.zone = some (d, f) →
    let q := s.zone g.zone
    let full : Permit := { cw := .full, ccw := .full, outward := .full, inward := .full, up := .full, down := .full }
    let limit := fun (l : FaceLevel) => match l with
      | .reach => MotionLevel.stop
      | .near => .slow
      | .clear => .full
    let levels : Permit :=
      { cw := limit g.cw, ccw := limit g.ccw, outward := limit g.outward, inward := limit g.inward, up := .full
        down := limit g.down }
    let stopped : Permit :=
      { cw := .stop, ccw := .stop, outward := .stop, inward := .stop, up := .full, down := .stop }
    let led := if f.arcStart = f.arcEnd then stopped
      else if ((f.arcEnd : Int) - r.theta) % 3600 ≤ ((r.theta : Int) - f.arcStart) % 3600 + 1 then
        { stopped with cw := .slow }
      else { stopped with ccw := .slow }
    let contested := ∃ j ∈ q.inside, q.holder ≠ some j ∧ j ∉ q.sweep
    let opened := ∃ b ∈ s.bookings, b.crane = k ∧ (b.state = .active ∨ b.state = .suspended ∨ b.state = .closing) ∧
      g.zone ∈ b.opened
    (d.kind = .shared →
      (k ∈ q.sweep ∨ (q.holder = some k ∧ ¬ contested) → s.contribution k r g = full) ∧
      (k ∉ q.sweep → contested → g.inside = true →
        s.contribution k r g = if q.mover = some k then led else stopped) ∧
      (k ∉ q.sweep → q.holder ≠ some k ∨ contested → ¬ contested ∨ g.inside = false →
        s.contribution k r g = levels)) ∧
    (d.kind = .restricted →
      (opened → s.contribution k r g = full) ∧
      (¬ opened → s.contribution k r g = if g.inside then led else levels))) ∧
  (let full : Permit := { cw := .full, ccw := .full, outward := .full, inward := .full, up := .full, down := .full }
   let stop : Permit := { cw := .stop, ccw := .stop, outward := .stop, inward := .stop, up := .stop, down := .stop }
   let out : Permit := { cw := .stop, ccw := .stop, outward := .stop, inward := .stop, up := .slow, down := .stop }
   [Mode.setup, .run, .hold].map modeLimits = [stop, full, stop] ∧ [true, false].map reportLimits = [full, stop] ∧
   [ServiceState.inService, .restricted, .out].map serviceLimits = [full, full, out] ∧
   [WindLevel.calm, .caution, .stop, .storm].map windLimits =
     [full, full, { cw := .slow, ccw := .slow, outward := .stop, inward := .full, up := .full, down := .slow }, out])
end

