-- ==== Sys2Proof/Laws/State.lean ====
section
/-! SUPPORT. What each update of the state leaves as it was, one lemma for each field and update, and what it writes. -/

namespace Sys2Proof.Machine

variable (s : State)

/-! ## modLine -/

@[simp] theorem State.modLine_pending (k : Crane) (f : Line → Line) : (s.modLine k f).pending = s.pending := rfl
@[simp] theorem State.modLine_notices (k : Crane) (f : Line → Line) : (s.modLine k f).notices = s.notices := rfl
@[simp] theorem State.modLine_cranes (k : Crane) (f : Line → Line) : (s.modLine k f).cranes = s.cranes := rfl
@[simp] theorem State.modLine_zones (k : Crane) (f : Line → Line) : (s.modLine k f).zones = s.zones := rfl
@[simp] theorem State.modLine_params (k : Crane) (f : Line → Line) : (s.modLine k f).params = s.params := rfl
@[simp] theorem State.modLine_tag (k : Crane) (f : Line → Line) : (s.modLine k f).tag = s.tag := rfl
@[simp] theorem State.modLine_faces (k : Crane) (f : Line → Line) : (s.modLine k f).faces = s.faces := rfl
@[simp] theorem State.modLine_msCount (k : Crane) (f : Line → Line) : (s.modLine k f).msCount = s.msCount := rfl
@[simp] theorem State.modLine_arb (k : Crane) (f : Line → Line) : (s.modLine k f).arb = s.arb := rfl
@[simp] theorem State.modLine_declared (k : Crane) (f : Line → Line) : (s.modLine k f).declared = s.declared := rfl
@[simp] theorem State.modLine_sent (k : Crane) (f : Line → Line) : (s.modLine k f).sent = s.sent := rfl
@[simp] theorem State.modLine_vane (k : Crane) (f : Line → Line) : (s.modLine k f).vane = s.vane := rfl
@[simp] theorem State.modLine_service (k : Crane) (f : Line → Line) : (s.modLine k f).service = s.service := rfl
@[simp] theorem State.modLine_wind (k : Crane) (f : Line → Line) : (s.modLine k f).wind = s.wind := rfl
@[simp] theorem State.modLine_windMasts (k : Crane) (f : Line → Line) : (s.modLine k f).windMasts = s.windMasts := rfl
@[simp] theorem State.modLine_windDue (k : Crane) (f : Line → Line) : (s.modLine k f).windDue = s.windDue := rfl
@[simp] theorem State.modLine_bookings (k : Crane) (f : Line → Line) : (s.modLine k f).bookings = s.bookings := rfl
@[simp] theorem State.modLine_nextId (k : Crane) (f : Line → Line) : (s.modLine k f).nextId = s.nextId := rfl
@[simp] theorem State.modLine_termSeq (k : Crane) (f : Line → Line) : (s.modLine k f).termSeq = s.termSeq := rfl
@[simp] theorem State.modLine_mastLine (k : Crane) (f : Line → Line) : (s.modLine k f).mastLine = s.mastLine := rfl
@[simp] theorem State.modLine_mode (k : Crane) (f : Line → Line) : (s.modLine k f).mode = s.mode := rfl
@[simp] theorem State.modLine_clock (k : Crane) (f : Line → Line) : (s.modLine k f).clock = s.clock := rfl
@[simp] theorem State.modLine_clockValid (k : Crane) (f : Line → Line) : (s.modLine k f).clockValid = s.clockValid := rfl
@[simp] theorem State.modLine_clockDue (k : Crane) (f : Line → Line) : (s.modLine k f).clockDue = s.clockDue := rfl
@[simp] theorem State.modLine_events (k : Crane) (f : Line → Line) : (s.modLine k f).events = s.events := rfl
@[simp] theorem State.modLine_overflow (k : Crane) (f : Line → Line) : (s.modLine k f).overflow = s.overflow := rfl
@[simp] theorem State.modLine_port (k : Crane) (f : Line → Line) : (s.modLine k f).port = s.port := rfl

/-! ## setZone -/

@[simp] theorem State.setZone_pending (z : Zone) (r : ZoneRt) : (s.setZone z r).pending = s.pending := rfl
@[simp] theorem State.setZone_notices (z : Zone) (r : ZoneRt) : (s.setZone z r).notices = s.notices := rfl
@[simp] theorem State.setZone_cranes (z : Zone) (r : ZoneRt) : (s.setZone z r).cranes = s.cranes := rfl
@[simp] theorem State.setZone_zones (z : Zone) (r : ZoneRt) : (s.setZone z r).zones = s.zones := rfl
@[simp] theorem State.setZone_params (z : Zone) (r : ZoneRt) : (s.setZone z r).params = s.params := rfl
@[simp] theorem State.setZone_tag (z : Zone) (r : ZoneRt) : (s.setZone z r).tag = s.tag := rfl
@[simp] theorem State.setZone_faces (z : Zone) (r : ZoneRt) : (s.setZone z r).faces = s.faces := rfl
@[simp] theorem State.setZone_msCount (z : Zone) (r : ZoneRt) : (s.setZone z r).msCount = s.msCount := rfl
@[simp] theorem State.setZone_declared (z : Zone) (r : ZoneRt) : (s.setZone z r).declared = s.declared := rfl
@[simp] theorem State.setZone_sent (z : Zone) (r : ZoneRt) : (s.setZone z r).sent = s.sent := rfl
@[simp] theorem State.setZone_vane (z : Zone) (r : ZoneRt) : (s.setZone z r).vane = s.vane := rfl
@[simp] theorem State.setZone_service (z : Zone) (r : ZoneRt) : (s.setZone z r).service = s.service := rfl
@[simp] theorem State.setZone_lines (z : Zone) (r : ZoneRt) : (s.setZone z r).lines = s.lines := rfl
@[simp] theorem State.setZone_wind (z : Zone) (r : ZoneRt) : (s.setZone z r).wind = s.wind := rfl
@[simp] theorem State.setZone_windMasts (z : Zone) (r : ZoneRt) : (s.setZone z r).windMasts = s.windMasts := rfl
@[simp] theorem State.setZone_windDue (z : Zone) (r : ZoneRt) : (s.setZone z r).windDue = s.windDue := rfl
@[simp] theorem State.setZone_bookings (z : Zone) (r : ZoneRt) : (s.setZone z r).bookings = s.bookings := rfl
@[simp] theorem State.setZone_nextId (z : Zone) (r : ZoneRt) : (s.setZone z r).nextId = s.nextId := rfl
@[simp] theorem State.setZone_termSeq (z : Zone) (r : ZoneRt) : (s.setZone z r).termSeq = s.termSeq := rfl
@[simp] theorem State.setZone_mastLine (z : Zone) (r : ZoneRt) : (s.setZone z r).mastLine = s.mastLine := rfl
@[simp] theorem State.setZone_mode (z : Zone) (r : ZoneRt) : (s.setZone z r).mode = s.mode := rfl
@[simp] theorem State.setZone_clock (z : Zone) (r : ZoneRt) : (s.setZone z r).clock = s.clock := rfl
@[simp] theorem State.setZone_clockValid (z : Zone) (r : ZoneRt) : (s.setZone z r).clockValid = s.clockValid := rfl
@[simp] theorem State.setZone_clockDue (z : Zone) (r : ZoneRt) : (s.setZone z r).clockDue = s.clockDue := rfl
@[simp] theorem State.setZone_events (z : Zone) (r : ZoneRt) : (s.setZone z r).events = s.events := rfl
@[simp] theorem State.setZone_overflow (z : Zone) (r : ZoneRt) : (s.setZone z r).overflow = s.overflow := rfl
@[simp] theorem State.setZone_port (z : Zone) (r : ZoneRt) : (s.setZone z r).port = s.port := rfl

/-! ## setCrane -/

@[simp] theorem State.setCrane_pending (k : Crane) (c : Option CraneRec) : (s.setCrane k c).pending = s.pending := rfl
@[simp] theorem State.setCrane_notices (k : Crane) (c : Option CraneRec) : (s.setCrane k c).notices = s.notices := rfl
@[simp] theorem State.setCrane_zones (k : Crane) (c : Option CraneRec) : (s.setCrane k c).zones = s.zones := rfl
@[simp] theorem State.setCrane_params (k : Crane) (c : Option CraneRec) : (s.setCrane k c).params = s.params := rfl
@[simp] theorem State.setCrane_tag (k : Crane) (c : Option CraneRec) : (s.setCrane k c).tag = s.tag := rfl
@[simp] theorem State.setCrane_faces (k : Crane) (c : Option CraneRec) : (s.setCrane k c).faces = s.faces := rfl
@[simp] theorem State.setCrane_msCount (k : Crane) (c : Option CraneRec) : (s.setCrane k c).msCount = s.msCount := rfl
@[simp] theorem State.setCrane_arb (k : Crane) (c : Option CraneRec) : (s.setCrane k c).arb = s.arb := rfl
@[simp] theorem State.setCrane_declared (k : Crane) (c : Option CraneRec) : (s.setCrane k c).declared = s.declared := rfl
@[simp] theorem State.setCrane_sent (k : Crane) (c : Option CraneRec) : (s.setCrane k c).sent = s.sent := rfl
@[simp] theorem State.setCrane_vane (k : Crane) (c : Option CraneRec) : (s.setCrane k c).vane = s.vane := rfl
@[simp] theorem State.setCrane_service (k : Crane) (c : Option CraneRec) : (s.setCrane k c).service = s.service := rfl
@[simp] theorem State.setCrane_lines (k : Crane) (c : Option CraneRec) : (s.setCrane k c).lines = s.lines := rfl
@[simp] theorem State.setCrane_wind (k : Crane) (c : Option CraneRec) : (s.setCrane k c).wind = s.wind := rfl
@[simp] theorem State.setCrane_windMasts (k : Crane) (c : Option CraneRec) : (s.setCrane k c).windMasts = s.windMasts := rfl
@[simp] theorem State.setCrane_windDue (k : Crane) (c : Option CraneRec) : (s.setCrane k c).windDue = s.windDue := rfl
@[simp] theorem State.setCrane_bookings (k : Crane) (c : Option CraneRec) : (s.setCrane k c).bookings = s.bookings := rfl
@[simp] theorem State.setCrane_nextId (k : Crane) (c : Option CraneRec) : (s.setCrane k c).nextId = s.nextId := rfl
@[simp] theorem State.setCrane_termSeq (k : Crane) (c : Option CraneRec) : (s.setCrane k c).termSeq = s.termSeq := rfl
@[simp] theorem State.setCrane_mastLine (k : Crane) (c : Option CraneRec) : (s.setCrane k c).mastLine = s.mastLine := rfl
@[simp] theorem State.setCrane_mode (k : Crane) (c : Option CraneRec) : (s.setCrane k c).mode = s.mode := rfl
@[simp] theorem State.setCrane_clock (k : Crane) (c : Option CraneRec) : (s.setCrane k c).clock = s.clock := rfl
@[simp] theorem State.setCrane_clockValid (k : Crane) (c : Option CraneRec) : (s.setCrane k c).clockValid = s.clockValid := rfl
@[simp] theorem State.setCrane_clockDue (k : Crane) (c : Option CraneRec) : (s.setCrane k c).clockDue = s.clockDue := rfl
@[simp] theorem State.setCrane_events (k : Crane) (c : Option CraneRec) : (s.setCrane k c).events = s.events := rfl
@[simp] theorem State.setCrane_overflow (k : Crane) (c : Option CraneRec) : (s.setCrane k c).overflow = s.overflow := rfl
@[simp] theorem State.setCrane_port (k : Crane) (c : Option CraneRec) : (s.setCrane k c).port = s.port := rfl

/-! ## setFaces -/

@[simp] theorem State.setFaces_pending (k : Crane) (l : List FaceState) : (s.setFaces k l).pending = s.pending := rfl
@[simp] theorem State.setFaces_notices (k : Crane) (l : List FaceState) : (s.setFaces k l).notices = s.notices := rfl
@[simp] theorem State.setFaces_cranes (k : Crane) (l : List FaceState) : (s.setFaces k l).cranes = s.cranes := rfl
@[simp] theorem State.setFaces_zones (k : Crane) (l : List FaceState) : (s.setFaces k l).zones = s.zones := rfl
@[simp] theorem State.setFaces_params (k : Crane) (l : List FaceState) : (s.setFaces k l).params = s.params := rfl
@[simp] theorem State.setFaces_tag (k : Crane) (l : List FaceState) : (s.setFaces k l).tag = s.tag := rfl
@[simp] theorem State.setFaces_msCount (k : Crane) (l : List FaceState) : (s.setFaces k l).msCount = s.msCount := rfl
@[simp] theorem State.setFaces_arb (k : Crane) (l : List FaceState) : (s.setFaces k l).arb = s.arb := rfl
@[simp] theorem State.setFaces_declared (k : Crane) (l : List FaceState) : (s.setFaces k l).declared = s.declared := rfl
@[simp] theorem State.setFaces_sent (k : Crane) (l : List FaceState) : (s.setFaces k l).sent = s.sent := rfl
@[simp] theorem State.setFaces_vane (k : Crane) (l : List FaceState) : (s.setFaces k l).vane = s.vane := rfl
@[simp] theorem State.setFaces_service (k : Crane) (l : List FaceState) : (s.setFaces k l).service = s.service := rfl
@[simp] theorem State.setFaces_lines (k : Crane) (l : List FaceState) : (s.setFaces k l).lines = s.lines := rfl
@[simp] theorem State.setFaces_wind (k : Crane) (l : List FaceState) : (s.setFaces k l).wind = s.wind := rfl
@[simp] theorem State.setFaces_windMasts (k : Crane) (l : List FaceState) : (s.setFaces k l).windMasts = s.windMasts := rfl
@[simp] theorem State.setFaces_windDue (k : Crane) (l : List FaceState) : (s.setFaces k l).windDue = s.windDue := rfl
@[simp] theorem State.setFaces_bookings (k : Crane) (l : List FaceState) : (s.setFaces k l).bookings = s.bookings := rfl
@[simp] theorem State.setFaces_nextId (k : Crane) (l : List FaceState) : (s.setFaces k l).nextId = s.nextId := rfl
@[simp] theorem State.setFaces_termSeq (k : Crane) (l : List FaceState) : (s.setFaces k l).termSeq = s.termSeq := rfl
@[simp] theorem State.setFaces_mastLine (k : Crane) (l : List FaceState) : (s.setFaces k l).mastLine = s.mastLine := rfl
@[simp] theorem State.setFaces_mode (k : Crane) (l : List FaceState) : (s.setFaces k l).mode = s.mode := rfl
@[simp] theorem State.setFaces_clock (k : Crane) (l : List FaceState) : (s.setFaces k l).clock = s.clock := rfl
@[simp] theorem State.setFaces_clockValid (k : Crane) (l : List FaceState) : (s.setFaces k l).clockValid = s.clockValid := rfl
@[simp] theorem State.setFaces_clockDue (k : Crane) (l : List FaceState) : (s.setFaces k l).clockDue = s.clockDue := rfl
@[simp] theorem State.setFaces_events (k : Crane) (l : List FaceState) : (s.setFaces k l).events = s.events := rfl
@[simp] theorem State.setFaces_overflow (k : Crane) (l : List FaceState) : (s.setFaces k l).overflow = s.overflow := rfl
@[simp] theorem State.setFaces_port (k : Crane) (l : List FaceState) : (s.setFaces k l).port = s.port := rfl

/-! ## setWind -/

@[simp] theorem State.setWind_pending (k : Crane) (w : WindRec) : (s.setWind k w).pending = s.pending := rfl
@[simp] theorem State.setWind_notices (k : Crane) (w : WindRec) : (s.setWind k w).notices = s.notices := rfl
@[simp] theorem State.setWind_cranes (k : Crane) (w : WindRec) : (s.setWind k w).cranes = s.cranes := rfl
@[simp] theorem State.setWind_zones (k : Crane) (w : WindRec) : (s.setWind k w).zones = s.zones := rfl
@[simp] theorem State.setWind_params (k : Crane) (w : WindRec) : (s.setWind k w).params = s.params := rfl
@[simp] theorem State.setWind_tag (k : Crane) (w : WindRec) : (s.setWind k w).tag = s.tag := rfl
@[simp] theorem State.setWind_faces (k : Crane) (w : WindRec) : (s.setWind k w).faces = s.faces := rfl
@[simp] theorem State.setWind_msCount (k : Crane) (w : WindRec) : (s.setWind k w).msCount = s.msCount := rfl
@[simp] theorem State.setWind_arb (k : Crane) (w : WindRec) : (s.setWind k w).arb = s.arb := rfl
@[simp] theorem State.setWind_declared (k : Crane) (w : WindRec) : (s.setWind k w).declared = s.declared := rfl
@[simp] theorem State.setWind_sent (k : Crane) (w : WindRec) : (s.setWind k w).sent = s.sent := rfl
@[simp] theorem State.setWind_vane (k : Crane) (w : WindRec) : (s.setWind k w).vane = s.vane := rfl
@[simp] theorem State.setWind_service (k : Crane) (w : WindRec) : (s.setWind k w).service = s.service := rfl
@[simp] theorem State.setWind_lines (k : Crane) (w : WindRec) : (s.setWind k w).lines = s.lines := rfl
@[simp] theorem State.setWind_windMasts (k : Crane) (w : WindRec) : (s.setWind k w).windMasts = s.windMasts := rfl
@[simp] theorem State.setWind_windDue (k : Crane) (w : WindRec) : (s.setWind k w).windDue = s.windDue := rfl
@[simp] theorem State.setWind_bookings (k : Crane) (w : WindRec) : (s.setWind k w).bookings = s.bookings := rfl
@[simp] theorem State.setWind_nextId (k : Crane) (w : WindRec) : (s.setWind k w).nextId = s.nextId := rfl
@[simp] theorem State.setWind_termSeq (k : Crane) (w : WindRec) : (s.setWind k w).termSeq = s.termSeq := rfl
@[simp] theorem State.setWind_mastLine (k : Crane) (w : WindRec) : (s.setWind k w).mastLine = s.mastLine := rfl
@[simp] theorem State.setWind_mode (k : Crane) (w : WindRec) : (s.setWind k w).mode = s.mode := rfl
@[simp] theorem State.setWind_clock (k : Crane) (w : WindRec) : (s.setWind k w).clock = s.clock := rfl
@[simp] theorem State.setWind_clockValid (k : Crane) (w : WindRec) : (s.setWind k w).clockValid = s.clockValid := rfl
@[simp] theorem State.setWind_clockDue (k : Crane) (w : WindRec) : (s.setWind k w).clockDue = s.clockDue := rfl
@[simp] theorem State.setWind_events (k : Crane) (w : WindRec) : (s.setWind k w).events = s.events := rfl
@[simp] theorem State.setWind_overflow (k : Crane) (w : WindRec) : (s.setWind k w).overflow = s.overflow := rfl
@[simp] theorem State.setWind_port (k : Crane) (w : WindRec) : (s.setWind k w).port = s.port := rfl

/-! ## setVane -/

@[simp] theorem State.setVane_pending (k : Crane) (v : VaneRec) : (s.setVane k v).pending = s.pending := rfl
@[simp] theorem State.setVane_notices (k : Crane) (v : VaneRec) : (s.setVane k v).notices = s.notices := rfl
@[simp] theorem State.setVane_cranes (k : Crane) (v : VaneRec) : (s.setVane k v).cranes = s.cranes := rfl
@[simp] theorem State.setVane_zones (k : Crane) (v : VaneRec) : (s.setVane k v).zones = s.zones := rfl
@[simp] theorem State.setVane_params (k : Crane) (v : VaneRec) : (s.setVane k v).params = s.params := rfl
@[simp] theorem State.setVane_tag (k : Crane) (v : VaneRec) : (s.setVane k v).tag = s.tag := rfl
@[simp] theorem State.setVane_faces (k : Crane) (v : VaneRec) : (s.setVane k v).faces = s.faces := rfl
@[simp] theorem State.setVane_msCount (k : Crane) (v : VaneRec) : (s.setVane k v).msCount = s.msCount := rfl
@[simp] theorem State.setVane_arb (k : Crane) (v : VaneRec) : (s.setVane k v).arb = s.arb := rfl
@[simp] theorem State.setVane_declared (k : Crane) (v : VaneRec) : (s.setVane k v).declared = s.declared := rfl
@[simp] theorem State.setVane_sent (k : Crane) (v : VaneRec) : (s.setVane k v).sent = s.sent := rfl
@[simp] theorem State.setVane_service (k : Crane) (v : VaneRec) : (s.setVane k v).service = s.service := rfl
@[simp] theorem State.setVane_lines (k : Crane) (v : VaneRec) : (s.setVane k v).lines = s.lines := rfl
@[simp] theorem State.setVane_wind (k : Crane) (v : VaneRec) : (s.setVane k v).wind = s.wind := rfl
@[simp] theorem State.setVane_windMasts (k : Crane) (v : VaneRec) : (s.setVane k v).windMasts = s.windMasts := rfl
@[simp] theorem State.setVane_windDue (k : Crane) (v : VaneRec) : (s.setVane k v).windDue = s.windDue := rfl
@[simp] theorem State.setVane_bookings (k : Crane) (v : VaneRec) : (s.setVane k v).bookings = s.bookings := rfl
@[simp] theorem State.setVane_nextId (k : Crane) (v : VaneRec) : (s.setVane k v).nextId = s.nextId := rfl
@[simp] theorem State.setVane_termSeq (k : Crane) (v : VaneRec) : (s.setVane k v).termSeq = s.termSeq := rfl
@[simp] theorem State.setVane_mastLine (k : Crane) (v : VaneRec) : (s.setVane k v).mastLine = s.mastLine := rfl
@[simp] theorem State.setVane_mode (k : Crane) (v : VaneRec) : (s.setVane k v).mode = s.mode := rfl
@[simp] theorem State.setVane_clock (k : Crane) (v : VaneRec) : (s.setVane k v).clock = s.clock := rfl
@[simp] theorem State.setVane_clockValid (k : Crane) (v : VaneRec) : (s.setVane k v).clockValid = s.clockValid := rfl
@[simp] theorem State.setVane_clockDue (k : Crane) (v : VaneRec) : (s.setVane k v).clockDue = s.clockDue := rfl
@[simp] theorem State.setVane_events (k : Crane) (v : VaneRec) : (s.setVane k v).events = s.events := rfl
@[simp] theorem State.setVane_overflow (k : Crane) (v : VaneRec) : (s.setVane k v).overflow = s.overflow := rfl
@[simp] theorem State.setVane_port (k : Crane) (v : VaneRec) : (s.setVane k v).port = s.port := rfl

/-! ## setDeclared -/

@[simp] theorem State.setDeclared_pending (k : Crane) (l : List Zone) : (s.setDeclared k l).pending = s.pending := rfl
@[simp] theorem State.setDeclared_notices (k : Crane) (l : List Zone) : (s.setDeclared k l).notices = s.notices := rfl
@[simp] theorem State.setDeclared_cranes (k : Crane) (l : List Zone) : (s.setDeclared k l).cranes = s.cranes := rfl
@[simp] theorem State.setDeclared_zones (k : Crane) (l : List Zone) : (s.setDeclared k l).zones = s.zones := rfl
@[simp] theorem State.setDeclared_params (k : Crane) (l : List Zone) : (s.setDeclared k l).params = s.params := rfl
@[simp] theorem State.setDeclared_tag (k : Crane) (l : List Zone) : (s.setDeclared k l).tag = s.tag := rfl
@[simp] theorem State.setDeclared_faces (k : Crane) (l : List Zone) : (s.setDeclared k l).faces = s.faces := rfl
@[simp] theorem State.setDeclared_msCount (k : Crane) (l : List Zone) : (s.setDeclared k l).msCount = s.msCount := rfl
@[simp] theorem State.setDeclared_arb (k : Crane) (l : List Zone) : (s.setDeclared k l).arb = s.arb := rfl
@[simp] theorem State.setDeclared_sent (k : Crane) (l : List Zone) : (s.setDeclared k l).sent = s.sent := rfl
@[simp] theorem State.setDeclared_vane (k : Crane) (l : List Zone) : (s.setDeclared k l).vane = s.vane := rfl
@[simp] theorem State.setDeclared_service (k : Crane) (l : List Zone) : (s.setDeclared k l).service = s.service := rfl
@[simp] theorem State.setDeclared_lines (k : Crane) (l : List Zone) : (s.setDeclared k l).lines = s.lines := rfl
@[simp] theorem State.setDeclared_wind (k : Crane) (l : List Zone) : (s.setDeclared k l).wind = s.wind := rfl
@[simp] theorem State.setDeclared_windMasts (k : Crane) (l : List Zone) : (s.setDeclared k l).windMasts = s.windMasts := rfl
@[simp] theorem State.setDeclared_windDue (k : Crane) (l : List Zone) : (s.setDeclared k l).windDue = s.windDue := rfl
@[simp] theorem State.setDeclared_bookings (k : Crane) (l : List Zone) : (s.setDeclared k l).bookings = s.bookings := rfl
@[simp] theorem State.setDeclared_nextId (k : Crane) (l : List Zone) : (s.setDeclared k l).nextId = s.nextId := rfl
@[simp] theorem State.setDeclared_termSeq (k : Crane) (l : List Zone) : (s.setDeclared k l).termSeq = s.termSeq := rfl
@[simp] theorem State.setDeclared_mastLine (k : Crane) (l : List Zone) : (s.setDeclared k l).mastLine = s.mastLine := rfl
@[simp] theorem State.setDeclared_mode (k : Crane) (l : List Zone) : (s.setDeclared k l).mode = s.mode := rfl
@[simp] theorem State.setDeclared_clock (k : Crane) (l : List Zone) : (s.setDeclared k l).clock = s.clock := rfl
@[simp] theorem State.setDeclared_clockValid (k : Crane) (l : List Zone) : (s.setDeclared k l).clockValid = s.clockValid := rfl
@[simp] theorem State.setDeclared_clockDue (k : Crane) (l : List Zone) : (s.setDeclared k l).clockDue = s.clockDue := rfl
@[simp] theorem State.setDeclared_events (k : Crane) (l : List Zone) : (s.setDeclared k l).events = s.events := rfl
@[simp] theorem State.setDeclared_overflow (k : Crane) (l : List Zone) : (s.setDeclared k l).overflow = s.overflow := rfl
@[simp] theorem State.setDeclared_port (k : Crane) (l : List Zone) : (s.setDeclared k l).port = s.port := rfl

/-! ## setMastCopy -/

@[simp] theorem State.setMastCopy_pending (m : Mast) (c : MastCopy) : (s.setMastCopy m c).pending = s.pending := rfl
@[simp] theorem State.setMastCopy_notices (m : Mast) (c : MastCopy) : (s.setMastCopy m c).notices = s.notices := rfl
@[simp] theorem State.setMastCopy_cranes (m : Mast) (c : MastCopy) : (s.setMastCopy m c).cranes = s.cranes := rfl
@[simp] theorem State.setMastCopy_zones (m : Mast) (c : MastCopy) : (s.setMastCopy m c).zones = s.zones := rfl
@[simp] theorem State.setMastCopy_params (m : Mast) (c : MastCopy) : (s.setMastCopy m c).params = s.params := rfl
@[simp] theorem State.setMastCopy_tag (m : Mast) (c : MastCopy) : (s.setMastCopy m c).tag = s.tag := rfl
@[simp] theorem State.setMastCopy_faces (m : Mast) (c : MastCopy) : (s.setMastCopy m c).faces = s.faces := rfl
@[simp] theorem State.setMastCopy_msCount (m : Mast) (c : MastCopy) : (s.setMastCopy m c).msCount = s.msCount := rfl
@[simp] theorem State.setMastCopy_arb (m : Mast) (c : MastCopy) : (s.setMastCopy m c).arb = s.arb := rfl
@[simp] theorem State.setMastCopy_declared (m : Mast) (c : MastCopy) : (s.setMastCopy m c).declared = s.declared := rfl
@[simp] theorem State.setMastCopy_sent (m : Mast) (c : MastCopy) : (s.setMastCopy m c).sent = s.sent := rfl
@[simp] theorem State.setMastCopy_vane (m : Mast) (c : MastCopy) : (s.setMastCopy m c).vane = s.vane := rfl
@[simp] theorem State.setMastCopy_service (m : Mast) (c : MastCopy) : (s.setMastCopy m c).service = s.service := rfl
@[simp] theorem State.setMastCopy_lines (m : Mast) (c : MastCopy) : (s.setMastCopy m c).lines = s.lines := rfl
@[simp] theorem State.setMastCopy_wind (m : Mast) (c : MastCopy) : (s.setMastCopy m c).wind = s.wind := rfl
@[simp] theorem State.setMastCopy_windDue (m : Mast) (c : MastCopy) : (s.setMastCopy m c).windDue = s.windDue := rfl
@[simp] theorem State.setMastCopy_bookings (m : Mast) (c : MastCopy) : (s.setMastCopy m c).bookings = s.bookings := rfl
@[simp] theorem State.setMastCopy_nextId (m : Mast) (c : MastCopy) : (s.setMastCopy m c).nextId = s.nextId := rfl
@[simp] theorem State.setMastCopy_termSeq (m : Mast) (c : MastCopy) : (s.setMastCopy m c).termSeq = s.termSeq := rfl
@[simp] theorem State.setMastCopy_mastLine (m : Mast) (c : MastCopy) : (s.setMastCopy m c).mastLine = s.mastLine := rfl
@[simp] theorem State.setMastCopy_mode (m : Mast) (c : MastCopy) : (s.setMastCopy m c).mode = s.mode := rfl
@[simp] theorem State.setMastCopy_clock (m : Mast) (c : MastCopy) : (s.setMastCopy m c).clock = s.clock := rfl
@[simp] theorem State.setMastCopy_clockValid (m : Mast) (c : MastCopy) : (s.setMastCopy m c).clockValid = s.clockValid := rfl
@[simp] theorem State.setMastCopy_clockDue (m : Mast) (c : MastCopy) : (s.setMastCopy m c).clockDue = s.clockDue := rfl
@[simp] theorem State.setMastCopy_events (m : Mast) (c : MastCopy) : (s.setMastCopy m c).events = s.events := rfl
@[simp] theorem State.setMastCopy_overflow (m : Mast) (c : MastCopy) : (s.setMastCopy m c).overflow = s.overflow := rfl
@[simp] theorem State.setMastCopy_port (m : Mast) (c : MastCopy) : (s.setMastCopy m c).port = s.port := rfl

/-! ## setMast -/

@[simp] theorem State.setMast_pending (m : Mast) (r : Option MastRt) : (s.setMast m r).pending = s.pending := rfl
@[simp] theorem State.setMast_notices (m : Mast) (r : Option MastRt) : (s.setMast m r).notices = s.notices := rfl
@[simp] theorem State.setMast_cranes (m : Mast) (r : Option MastRt) : (s.setMast m r).cranes = s.cranes := rfl
@[simp] theorem State.setMast_zones (m : Mast) (r : Option MastRt) : (s.setMast m r).zones = s.zones := rfl
@[simp] theorem State.setMast_params (m : Mast) (r : Option MastRt) : (s.setMast m r).params = s.params := rfl
@[simp] theorem State.setMast_tag (m : Mast) (r : Option MastRt) : (s.setMast m r).tag = s.tag := rfl
@[simp] theorem State.setMast_faces (m : Mast) (r : Option MastRt) : (s.setMast m r).faces = s.faces := rfl
@[simp] theorem State.setMast_msCount (m : Mast) (r : Option MastRt) : (s.setMast m r).msCount = s.msCount := rfl
@[simp] theorem State.setMast_arb (m : Mast) (r : Option MastRt) : (s.setMast m r).arb = s.arb := rfl
@[simp] theorem State.setMast_declared (m : Mast) (r : Option MastRt) : (s.setMast m r).declared = s.declared := rfl
@[simp] theorem State.setMast_sent (m : Mast) (r : Option MastRt) : (s.setMast m r).sent = s.sent := rfl
@[simp] theorem State.setMast_vane (m : Mast) (r : Option MastRt) : (s.setMast m r).vane = s.vane := rfl
@[simp] theorem State.setMast_service (m : Mast) (r : Option MastRt) : (s.setMast m r).service = s.service := rfl
@[simp] theorem State.setMast_lines (m : Mast) (r : Option MastRt) : (s.setMast m r).lines = s.lines := rfl
@[simp] theorem State.setMast_wind (m : Mast) (r : Option MastRt) : (s.setMast m r).wind = s.wind := rfl
@[simp] theorem State.setMast_windMasts (m : Mast) (r : Option MastRt) : (s.setMast m r).windMasts = s.windMasts := rfl
@[simp] theorem State.setMast_windDue (m : Mast) (r : Option MastRt) : (s.setMast m r).windDue = s.windDue := rfl
@[simp] theorem State.setMast_bookings (m : Mast) (r : Option MastRt) : (s.setMast m r).bookings = s.bookings := rfl
@[simp] theorem State.setMast_nextId (m : Mast) (r : Option MastRt) : (s.setMast m r).nextId = s.nextId := rfl
@[simp] theorem State.setMast_termSeq (m : Mast) (r : Option MastRt) : (s.setMast m r).termSeq = s.termSeq := rfl
@[simp] theorem State.setMast_mode (m : Mast) (r : Option MastRt) : (s.setMast m r).mode = s.mode := rfl
@[simp] theorem State.setMast_clock (m : Mast) (r : Option MastRt) : (s.setMast m r).clock = s.clock := rfl
@[simp] theorem State.setMast_clockValid (m : Mast) (r : Option MastRt) : (s.setMast m r).clockValid = s.clockValid := rfl
@[simp] theorem State.setMast_clockDue (m : Mast) (r : Option MastRt) : (s.setMast m r).clockDue = s.clockDue := rfl
@[simp] theorem State.setMast_events (m : Mast) (r : Option MastRt) : (s.setMast m r).events = s.events := rfl
@[simp] theorem State.setMast_overflow (m : Mast) (r : Option MastRt) : (s.setMast m r).overflow = s.overflow := rfl
@[simp] theorem State.setMast_port (m : Mast) (r : Option MastRt) : (s.setMast m r).port = s.port := rfl

/-! ## post -/

@[simp] theorem State.post_pending (n : Notice) : (s.post n).pending = s.pending := rfl
@[simp] theorem State.post_cranes (n : Notice) : (s.post n).cranes = s.cranes := rfl
@[simp] theorem State.post_zones (n : Notice) : (s.post n).zones = s.zones := rfl
@[simp] theorem State.post_params (n : Notice) : (s.post n).params = s.params := rfl
@[simp] theorem State.post_tag (n : Notice) : (s.post n).tag = s.tag := rfl
@[simp] theorem State.post_faces (n : Notice) : (s.post n).faces = s.faces := rfl
@[simp] theorem State.post_msCount (n : Notice) : (s.post n).msCount = s.msCount := rfl
@[simp] theorem State.post_arb (n : Notice) : (s.post n).arb = s.arb := rfl
@[simp] theorem State.post_declared (n : Notice) : (s.post n).declared = s.declared := rfl
@[simp] theorem State.post_sent (n : Notice) : (s.post n).sent = s.sent := rfl
@[simp] theorem State.post_vane (n : Notice) : (s.post n).vane = s.vane := rfl
@[simp] theorem State.post_service (n : Notice) : (s.post n).service = s.service := rfl
@[simp] theorem State.post_lines (n : Notice) : (s.post n).lines = s.lines := rfl
@[simp] theorem State.post_wind (n : Notice) : (s.post n).wind = s.wind := rfl
@[simp] theorem State.post_windMasts (n : Notice) : (s.post n).windMasts = s.windMasts := rfl
@[simp] theorem State.post_windDue (n : Notice) : (s.post n).windDue = s.windDue := rfl
@[simp] theorem State.post_bookings (n : Notice) : (s.post n).bookings = s.bookings := rfl
@[simp] theorem State.post_nextId (n : Notice) : (s.post n).nextId = s.nextId := rfl
@[simp] theorem State.post_termSeq (n : Notice) : (s.post n).termSeq = s.termSeq := rfl
@[simp] theorem State.post_mastLine (n : Notice) : (s.post n).mastLine = s.mastLine := rfl
@[simp] theorem State.post_mode (n : Notice) : (s.post n).mode = s.mode := rfl
@[simp] theorem State.post_clock (n : Notice) : (s.post n).clock = s.clock := rfl
@[simp] theorem State.post_clockValid (n : Notice) : (s.post n).clockValid = s.clockValid := rfl
@[simp] theorem State.post_clockDue (n : Notice) : (s.post n).clockDue = s.clockDue := rfl
@[simp] theorem State.post_events (n : Notice) : (s.post n).events = s.events := rfl
@[simp] theorem State.post_overflow (n : Notice) : (s.post n).overflow = s.overflow := rfl
@[simp] theorem State.post_port (n : Notice) : (s.post n).port = s.port := rfl

/-! ## modPort -/

@[simp] theorem State.modPort_pending (f : Port → Port) : (s.modPort f).pending = s.pending := rfl
@[simp] theorem State.modPort_notices (f : Port → Port) : (s.modPort f).notices = s.notices := rfl
@[simp] theorem State.modPort_cranes (f : Port → Port) : (s.modPort f).cranes = s.cranes := rfl
@[simp] theorem State.modPort_zones (f : Port → Port) : (s.modPort f).zones = s.zones := rfl
@[simp] theorem State.modPort_params (f : Port → Port) : (s.modPort f).params = s.params := rfl
@[simp] theorem State.modPort_tag (f : Port → Port) : (s.modPort f).tag = s.tag := rfl
@[simp] theorem State.modPort_faces (f : Port → Port) : (s.modPort f).faces = s.faces := rfl
@[simp] theorem State.modPort_msCount (f : Port → Port) : (s.modPort f).msCount = s.msCount := rfl
@[simp] theorem State.modPort_arb (f : Port → Port) : (s.modPort f).arb = s.arb := rfl
@[simp] theorem State.modPort_declared (f : Port → Port) : (s.modPort f).declared = s.declared := rfl
@[simp] theorem State.modPort_sent (f : Port → Port) : (s.modPort f).sent = s.sent := rfl
@[simp] theorem State.modPort_vane (f : Port → Port) : (s.modPort f).vane = s.vane := rfl
@[simp] theorem State.modPort_service (f : Port → Port) : (s.modPort f).service = s.service := rfl
@[simp] theorem State.modPort_lines (f : Port → Port) : (s.modPort f).lines = s.lines := rfl
@[simp] theorem State.modPort_wind (f : Port → Port) : (s.modPort f).wind = s.wind := rfl
@[simp] theorem State.modPort_windMasts (f : Port → Port) : (s.modPort f).windMasts = s.windMasts := rfl
@[simp] theorem State.modPort_windDue (f : Port → Port) : (s.modPort f).windDue = s.windDue := rfl
@[simp] theorem State.modPort_bookings (f : Port → Port) : (s.modPort f).bookings = s.bookings := rfl
@[simp] theorem State.modPort_nextId (f : Port → Port) : (s.modPort f).nextId = s.nextId := rfl
@[simp] theorem State.modPort_termSeq (f : Port → Port) : (s.modPort f).termSeq = s.termSeq := rfl
@[simp] theorem State.modPort_mastLine (f : Port → Port) : (s.modPort f).mastLine = s.mastLine := rfl
@[simp] theorem State.modPort_mode (f : Port → Port) : (s.modPort f).mode = s.mode := rfl
@[simp] theorem State.modPort_clock (f : Port → Port) : (s.modPort f).clock = s.clock := rfl
@[simp] theorem State.modPort_clockValid (f : Port → Port) : (s.modPort f).clockValid = s.clockValid := rfl
@[simp] theorem State.modPort_clockDue (f : Port → Port) : (s.modPort f).clockDue = s.clockDue := rfl
@[simp] theorem State.modPort_events (f : Port → Port) : (s.modPort f).events = s.events := rfl
@[simp] theorem State.modPort_overflow (f : Port → Port) : (s.modPort f).overflow = s.overflow := rfl

/-! ## tick -/

@[simp] theorem State.tick_pending : (s.tick).pending = s.pending := rfl
@[simp] theorem State.tick_notices : (s.tick).notices = s.notices := rfl
@[simp] theorem State.tick_cranes : (s.tick).cranes = s.cranes := rfl
@[simp] theorem State.tick_zones : (s.tick).zones = s.zones := rfl
@[simp] theorem State.tick_params : (s.tick).params = s.params := rfl
@[simp] theorem State.tick_tag : (s.tick).tag = s.tag := rfl
@[simp] theorem State.tick_faces : (s.tick).faces = s.faces := rfl
@[simp] theorem State.tick_arb : (s.tick).arb = s.arb := rfl
@[simp] theorem State.tick_declared : (s.tick).declared = s.declared := rfl
@[simp] theorem State.tick_sent : (s.tick).sent = s.sent := rfl
@[simp] theorem State.tick_vane : (s.tick).vane = s.vane := rfl
@[simp] theorem State.tick_service : (s.tick).service = s.service := rfl
@[simp] theorem State.tick_lines : (s.tick).lines = s.lines := rfl
@[simp] theorem State.tick_wind : (s.tick).wind = s.wind := rfl
@[simp] theorem State.tick_windMasts : (s.tick).windMasts = s.windMasts := rfl
@[simp] theorem State.tick_windDue : (s.tick).windDue = s.windDue := rfl
@[simp] theorem State.tick_bookings : (s.tick).bookings = s.bookings := rfl
@[simp] theorem State.tick_nextId : (s.tick).nextId = s.nextId := rfl
@[simp] theorem State.tick_termSeq : (s.tick).termSeq = s.termSeq := rfl
@[simp] theorem State.tick_mastLine : (s.tick).mastLine = s.mastLine := rfl
@[simp] theorem State.tick_mode : (s.tick).mode = s.mode := rfl
@[simp] theorem State.tick_clock : (s.tick).clock = s.clock := rfl
@[simp] theorem State.tick_clockValid : (s.tick).clockValid = s.clockValid := rfl
@[simp] theorem State.tick_clockDue : (s.tick).clockDue = s.clockDue := rfl
@[simp] theorem State.tick_events : (s.tick).events = s.events := rfl
@[simp] theorem State.tick_overflow : (s.tick).overflow = s.overflow := rfl
@[simp] theorem State.tick_port : (s.tick).port = s.port := rfl

/-! ## reach -/

@[simp] theorem State.reach_pending (due : Moment) : (s.reach due).pending = s.pending := by unfold State.reach; split <;> rfl
@[simp] theorem State.reach_notices (due : Moment) : (s.reach due).notices = s.notices := by unfold State.reach; split <;> rfl
@[simp] theorem State.reach_cranes (due : Moment) : (s.reach due).cranes = s.cranes := by unfold State.reach; split <;> rfl
@[simp] theorem State.reach_zones (due : Moment) : (s.reach due).zones = s.zones := by unfold State.reach; split <;> rfl
@[simp] theorem State.reach_params (due : Moment) : (s.reach due).params = s.params := by unfold State.reach; split <;> rfl
@[simp] theorem State.reach_tag (due : Moment) : (s.reach due).tag = s.tag := by unfold State.reach; split <;> rfl
@[simp] theorem State.reach_faces (due : Moment) : (s.reach due).faces = s.faces := by unfold State.reach; split <;> rfl
@[simp] theorem State.reach_arb (due : Moment) : (s.reach due).arb = s.arb := by unfold State.reach; split <;> rfl
@[simp] theorem State.reach_declared (due : Moment) : (s.reach due).declared = s.declared := by unfold State.reach; split <;> rfl
@[simp] theorem State.reach_sent (due : Moment) : (s.reach due).sent = s.sent := by unfold State.reach; split <;> rfl
@[simp] theorem State.reach_vane (due : Moment) : (s.reach due).vane = s.vane := by unfold State.reach; split <;> rfl
@[simp] theorem State.reach_service (due : Moment) : (s.reach due).service = s.service := by unfold State.reach; split <;> rfl
@[simp] theorem State.reach_lines (due : Moment) : (s.reach due).lines = s.lines := by unfold State.reach; split <;> rfl
@[simp] theorem State.reach_wind (due : Moment) : (s.reach due).wind = s.wind := by unfold State.reach; split <;> rfl
@[simp] theorem State.reach_windMasts (due : Moment) : (s.reach due).windMasts = s.windMasts := by unfold State.reach; split <;> rfl
@[simp] theorem State.reach_windDue (due : Moment) : (s.reach due).windDue = s.windDue := by unfold State.reach; split <;> rfl
@[simp] theorem State.reach_bookings (due : Moment) : (s.reach due).bookings = s.bookings := by unfold State.reach; split <;> rfl
@[simp] theorem State.reach_nextId (due : Moment) : (s.reach due).nextId = s.nextId := by unfold State.reach; split <;> rfl
@[simp] theorem State.reach_termSeq (due : Moment) : (s.reach due).termSeq = s.termSeq := by unfold State.reach; split <;> rfl
@[simp] theorem State.reach_mastLine (due : Moment) : (s.reach due).mastLine = s.mastLine := by unfold State.reach; split <;> rfl
@[simp] theorem State.reach_mode (due : Moment) : (s.reach due).mode = s.mode := by unfold State.reach; split <;> rfl
@[simp] theorem State.reach_clock (due : Moment) : (s.reach due).clock = s.clock := by unfold State.reach; split <;> rfl
@[simp] theorem State.reach_clockValid (due : Moment) : (s.reach due).clockValid = s.clockValid := by unfold State.reach; split <;> rfl
@[simp] theorem State.reach_clockDue (due : Moment) : (s.reach due).clockDue = s.clockDue := by unfold State.reach; split <;> rfl
@[simp] theorem State.reach_events (due : Moment) : (s.reach due).events = s.events := by unfold State.reach; split <;> rfl
@[simp] theorem State.reach_overflow (due : Moment) : (s.reach due).overflow = s.overflow := by unfold State.reach; split <;> rfl
@[simp] theorem State.reach_port (due : Moment) : (s.reach due).port = s.port := by unfold State.reach; split <;> rfl

/-! ## append -/

@[simp] theorem State.append_pending (e : Event) : (s.append e).pending = s.pending := by unfold State.append; split <;> rfl
@[simp] theorem State.append_notices (e : Event) : (s.append e).notices = s.notices := by unfold State.append; split <;> rfl
@[simp] theorem State.append_cranes (e : Event) : (s.append e).cranes = s.cranes := by unfold State.append; split <;> rfl
@[simp] theorem State.append_zones (e : Event) : (s.append e).zones = s.zones := by unfold State.append; split <;> rfl
@[simp] theorem State.append_params (e : Event) : (s.append e).params = s.params := by unfold State.append; split <;> rfl
@[simp] theorem State.append_tag (e : Event) : (s.append e).tag = s.tag := by unfold State.append; split <;> rfl
@[simp] theorem State.append_faces (e : Event) : (s.append e).faces = s.faces := by unfold State.append; split <;> rfl
@[simp] theorem State.append_msCount (e : Event) : (s.append e).msCount = s.msCount := by unfold State.append; split <;> rfl
@[simp] theorem State.append_arb (e : Event) : (s.append e).arb = s.arb := by unfold State.append; split <;> rfl
@[simp] theorem State.append_declared (e : Event) : (s.append e).declared = s.declared := by unfold State.append; split <;> rfl
@[simp] theorem State.append_sent (e : Event) : (s.append e).sent = s.sent := by unfold State.append; split <;> rfl
@[simp] theorem State.append_vane (e : Event) : (s.append e).vane = s.vane := by unfold State.append; split <;> rfl
@[simp] theorem State.append_service (e : Event) : (s.append e).service = s.service := by unfold State.append; split <;> rfl
@[simp] theorem State.append_lines (e : Event) : (s.append e).lines = s.lines := by unfold State.append; split <;> rfl
@[simp] theorem State.append_wind (e : Event) : (s.append e).wind = s.wind := by unfold State.append; split <;> rfl
@[simp] theorem State.append_windMasts (e : Event) : (s.append e).windMasts = s.windMasts := by unfold State.append; split <;> rfl
@[simp] theorem State.append_windDue (e : Event) : (s.append e).windDue = s.windDue := by unfold State.append; split <;> rfl
@[simp] theorem State.append_bookings (e : Event) : (s.append e).bookings = s.bookings := by unfold State.append; split <;> rfl
@[simp] theorem State.append_nextId (e : Event) : (s.append e).nextId = s.nextId := by unfold State.append; split <;> rfl
@[simp] theorem State.append_termSeq (e : Event) : (s.append e).termSeq = s.termSeq := by unfold State.append; split <;> rfl
@[simp] theorem State.append_mastLine (e : Event) : (s.append e).mastLine = s.mastLine := by unfold State.append; split <;> rfl
@[simp] theorem State.append_mode (e : Event) : (s.append e).mode = s.mode := by unfold State.append; split <;> rfl
@[simp] theorem State.append_clock (e : Event) : (s.append e).clock = s.clock := by unfold State.append; split <;> rfl
@[simp] theorem State.append_clockValid (e : Event) : (s.append e).clockValid = s.clockValid := by unfold State.append; split <;> rfl
@[simp] theorem State.append_clockDue (e : Event) : (s.append e).clockDue = s.clockDue := by unfold State.append; split <;> rfl
@[simp] theorem State.append_port (e : Event) : (s.append e).port = s.port := by unfold State.append; split <;> rfl

/-! ## emit -/

@[simp] theorem State.emit_pending (kind : EventKind) (c z b : Nat) (x y : Int) : (s.emit kind c z b x y).pending = s.pending := State.append_pending _ _
@[simp] theorem State.emit_notices (kind : EventKind) (c z b : Nat) (x y : Int) : (s.emit kind c z b x y).notices = s.notices := State.append_notices _ _
@[simp] theorem State.emit_cranes (kind : EventKind) (c z b : Nat) (x y : Int) : (s.emit kind c z b x y).cranes = s.cranes := State.append_cranes _ _
@[simp] theorem State.emit_zones (kind : EventKind) (c z b : Nat) (x y : Int) : (s.emit kind c z b x y).zones = s.zones := State.append_zones _ _
@[simp] theorem State.emit_params (kind : EventKind) (c z b : Nat) (x y : Int) : (s.emit kind c z b x y).params = s.params := State.append_params _ _
@[simp] theorem State.emit_tag (kind : EventKind) (c z b : Nat) (x y : Int) : (s.emit kind c z b x y).tag = s.tag := State.append_tag _ _
@[simp] theorem State.emit_faces (kind : EventKind) (c z b : Nat) (x y : Int) : (s.emit kind c z b x y).faces = s.faces := State.append_faces _ _
@[simp] theorem State.emit_msCount (kind : EventKind) (c z b : Nat) (x y : Int) : (s.emit kind c z b x y).msCount = s.msCount := State.append_msCount _ _
@[simp] theorem State.emit_arb (kind : EventKind) (c z b : Nat) (x y : Int) : (s.emit kind c z b x y).arb = s.arb := State.append_arb _ _
@[simp] theorem State.emit_declared (kind : EventKind) (c z b : Nat) (x y : Int) : (s.emit kind c z b x y).declared = s.declared := State.append_declared _ _
@[simp] theorem State.emit_sent (kind : EventKind) (c z b : Nat) (x y : Int) : (s.emit kind c z b x y).sent = s.sent := State.append_sent _ _
@[simp] theorem State.emit_vane (kind : EventKind) (c z b : Nat) (x y : Int) : (s.emit kind c z b x y).vane = s.vane := State.append_vane _ _
@[simp] theorem State.emit_service (kind : EventKind) (c z b : Nat) (x y : Int) : (s.emit kind c z b x y).service = s.service := State.append_service _ _
@[simp] theorem State.emit_lines (kind : EventKind) (c z b : Nat) (x y : Int) : (s.emit kind c z b x y).lines = s.lines := State.append_lines _ _
@[simp] theorem State.emit_wind (kind : EventKind) (c z b : Nat) (x y : Int) : (s.emit kind c z b x y).wind = s.wind := State.append_wind _ _
@[simp] theorem State.emit_windMasts (kind : EventKind) (c z b : Nat) (x y : Int) : (s.emit kind c z b x y).windMasts = s.windMasts := State.append_windMasts _ _
@[simp] theorem State.emit_windDue (kind : EventKind) (c z b : Nat) (x y : Int) : (s.emit kind c z b x y).windDue = s.windDue := State.append_windDue _ _
@[simp] theorem State.emit_bookings (kind : EventKind) (c z b : Nat) (x y : Int) : (s.emit kind c z b x y).bookings = s.bookings := State.append_bookings _ _
@[simp] theorem State.emit_nextId (kind : EventKind) (c z b : Nat) (x y : Int) : (s.emit kind c z b x y).nextId = s.nextId := State.append_nextId _ _
@[simp] theorem State.emit_termSeq (kind : EventKind) (c z b : Nat) (x y : Int) : (s.emit kind c z b x y).termSeq = s.termSeq := State.append_termSeq _ _
@[simp] theorem State.emit_mastLine (kind : EventKind) (c z b : Nat) (x y : Int) : (s.emit kind c z b x y).mastLine = s.mastLine := State.append_mastLine _ _
@[simp] theorem State.emit_mode (kind : EventKind) (c z b : Nat) (x y : Int) : (s.emit kind c z b x y).mode = s.mode := State.append_mode _ _
@[simp] theorem State.emit_clock (kind : EventKind) (c z b : Nat) (x y : Int) : (s.emit kind c z b x y).clock = s.clock := State.append_clock _ _
@[simp] theorem State.emit_clockValid (kind : EventKind) (c z b : Nat) (x y : Int) : (s.emit kind c z b x y).clockValid = s.clockValid := State.append_clockValid _ _
@[simp] theorem State.emit_clockDue (kind : EventKind) (c z b : Nat) (x y : Int) : (s.emit kind c z b x y).clockDue = s.clockDue := State.append_clockDue _ _
@[simp] theorem State.emit_port (kind : EventKind) (c z b : Nat) (x y : Int) : (s.emit kind c z b x y).port = s.port := State.append_port _ _

/-! ## emitCrane -/

@[simp] theorem State.emitCrane_pending (kind : EventKind) (k : Crane) (x y : Int) : (s.emitCrane kind k x y).pending = s.pending := State.append_pending _ _
@[simp] theorem State.emitCrane_notices (kind : EventKind) (k : Crane) (x y : Int) : (s.emitCrane kind k x y).notices = s.notices := State.append_notices _ _
@[simp] theorem State.emitCrane_cranes (kind : EventKind) (k : Crane) (x y : Int) : (s.emitCrane kind k x y).cranes = s.cranes := State.append_cranes _ _
@[simp] theorem State.emitCrane_zones (kind : EventKind) (k : Crane) (x y : Int) : (s.emitCrane kind k x y).zones = s.zones := State.append_zones _ _
@[simp] theorem State.emitCrane_params (kind : EventKind) (k : Crane) (x y : Int) : (s.emitCrane kind k x y).params = s.params := State.append_params _ _
@[simp] theorem State.emitCrane_tag (kind : EventKind) (k : Crane) (x y : Int) : (s.emitCrane kind k x y).tag = s.tag := State.append_tag _ _
@[simp] theorem State.emitCrane_faces (kind : EventKind) (k : Crane) (x y : Int) : (s.emitCrane kind k x y).faces = s.faces := State.append_faces _ _
@[simp] theorem State.emitCrane_msCount (kind : EventKind) (k : Crane) (x y : Int) : (s.emitCrane kind k x y).msCount = s.msCount := State.append_msCount _ _
@[simp] theorem State.emitCrane_arb (kind : EventKind) (k : Crane) (x y : Int) : (s.emitCrane kind k x y).arb = s.arb := State.append_arb _ _
@[simp] theorem State.emitCrane_declared (kind : EventKind) (k : Crane) (x y : Int) : (s.emitCrane kind k x y).declared = s.declared := State.append_declared _ _
@[simp] theorem State.emitCrane_sent (kind : EventKind) (k : Crane) (x y : Int) : (s.emitCrane kind k x y).sent = s.sent := State.append_sent _ _
@[simp] theorem State.emitCrane_vane (kind : EventKind) (k : Crane) (x y : Int) : (s.emitCrane kind k x y).vane = s.vane := State.append_vane _ _
@[simp] theorem State.emitCrane_service (kind : EventKind) (k : Crane) (x y : Int) : (s.emitCrane kind k x y).service = s.service := State.append_service _ _
@[simp] theorem State.emitCrane_lines (kind : EventKind) (k : Crane) (x y : Int) : (s.emitCrane kind k x y).lines = s.lines := State.append_lines _ _
@[simp] theorem State.emitCrane_wind (kind : EventKind) (k : Crane) (x y : Int) : (s.emitCrane kind k x y).wind = s.wind := State.append_wind _ _
@[simp] theorem State.emitCrane_windMasts (kind : EventKind) (k : Crane) (x y : Int) : (s.emitCrane kind k x y).windMasts = s.windMasts := State.append_windMasts _ _
@[simp] theorem State.emitCrane_windDue (kind : EventKind) (k : Crane) (x y : Int) : (s.emitCrane kind k x y).windDue = s.windDue := State.append_windDue _ _
@[simp] theorem State.emitCrane_bookings (kind : EventKind) (k : Crane) (x y : Int) : (s.emitCrane kind k x y).bookings = s.bookings := State.append_bookings _ _
@[simp] theorem State.emitCrane_nextId (kind : EventKind) (k : Crane) (x y : Int) : (s.emitCrane kind k x y).nextId = s.nextId := State.append_nextId _ _
@[simp] theorem State.emitCrane_termSeq (kind : EventKind) (k : Crane) (x y : Int) : (s.emitCrane kind k x y).termSeq = s.termSeq := State.append_termSeq _ _
@[simp] theorem State.emitCrane_mastLine (kind : EventKind) (k : Crane) (x y : Int) : (s.emitCrane kind k x y).mastLine = s.mastLine := State.append_mastLine _ _
@[simp] theorem State.emitCrane_mode (kind : EventKind) (k : Crane) (x y : Int) : (s.emitCrane kind k x y).mode = s.mode := State.append_mode _ _
@[simp] theorem State.emitCrane_clock (kind : EventKind) (k : Crane) (x y : Int) : (s.emitCrane kind k x y).clock = s.clock := State.append_clock _ _
@[simp] theorem State.emitCrane_clockValid (kind : EventKind) (k : Crane) (x y : Int) : (s.emitCrane kind k x y).clockValid = s.clockValid := State.append_clockValid _ _
@[simp] theorem State.emitCrane_clockDue (kind : EventKind) (k : Crane) (x y : Int) : (s.emitCrane kind k x y).clockDue = s.clockDue := State.append_clockDue _ _
@[simp] theorem State.emitCrane_port (kind : EventKind) (k : Crane) (x y : Int) : (s.emitCrane kind k x y).port = s.port := State.append_port _ _

/-! ## What the updates write -/

theorem vector_get_set {α : Type} {n : Nat} (v : Vector α n) (i j : Fin n) (x : α) :
    (v.set i x)[j] = if j = i then x else v[j] := by
  simp [Vector.getElem_set, Fin.ext_iff, eq_comm]

theorem State.line_modLine (k j : Crane) (f : Line → Line) :
    (s.modLine k f).line j = if j = k then f (s.line k) else s.line j := vector_get_set ..

@[simp] theorem State.line_modLine_self (k : Crane) (f : Line → Line) :
    (s.modLine k f).line k = f (s.line k) := by simp [State.line_modLine]

theorem State.zone_setZone (z y : Zone) (r : ZoneRt) :
    (s.setZone z r).zone y = if y = z then r else s.zone y := vector_get_set ..

@[simp] theorem State.zone_setZone_self (z : Zone) (r : ZoneRt) : (s.setZone z r).zone z = r := by
  simp [State.zone_setZone]

theorem State.crane_setCrane (k j : Crane) (c : Option CraneRec) :
    (s.setCrane k c).crane j = if j = k then c else s.crane j := vector_get_set ..

theorem State.faces_setFaces (k j : Crane) (l : List FaceState) :
    (s.setFaces k l).faces[j] = if j = k then l else s.faces[j] := vector_get_set ..

theorem State.wind_setWind (k j : Crane) (w : WindRec) :
    (s.setWind k w).wind[j] = if j = k then w else s.wind[j] := vector_get_set ..

theorem State.vane_setVane (k j : Crane) (v : VaneRec) :
    (s.setVane k v).vane[j] = if j = k then v else s.vane[j] := vector_get_set ..

theorem State.declared_setDeclared (k j : Crane) (l : List Zone) :
    (s.setDeclared k l).declared[j] = if j = k then l else s.declared[j] := vector_get_set ..

theorem State.windMasts_setMastCopy (m n : Mast) (c : MastCopy) :
    (s.setMastCopy m c).windMasts[n] = if n = m then c else s.windMasts[n] := vector_get_set ..

theorem State.masts_setMast (m n : Mast) (r : Option MastRt) :
    (s.setMast m r).mastLine.masts[n] = if n = m then r else s.mastLine.masts[n] := vector_get_set ..

@[simp] theorem State.notices_post (n : Notice) : (s.post n).notices = s.notices ++ [n] := rfl

@[simp] theorem State.port_modPort (f : Port → Port) : (s.modPort f).port = f s.port := rfl

end Sys2Proof.Machine
end

