-- ==== Sys2Proof/Laws/Frames.lean ====
section
/-! SUPPORT. For each operation, the parts of the state that it can touch. -/

namespace Sys2Proof.Machine

/-! ## Frames in general -/

theorem Within.refl (ps : List Part) (s : State) : Within ps s s := by
  constructor; intro p _; cases p <;> rfl

theorem Part.same_trans {p : Part} {s t u : State} (h : p.same s t) (h' : p.same t u) : p.same s u := by
  cases p <;> exact Eq.trans h' h

theorem Within.trans {ps : List Part} {s t u : State} (h : Within ps s t) (h' : Within ps t u) : Within ps s u :=
  ⟨fun p hp => Part.same_trans (h.same p hp) (h'.same p hp)⟩

theorem Within.mono {ps qs : List Part} {s t : State} (h : Within ps s t) (hs : ∀ p ∈ ps, p ∈ qs) : Within qs s t :=
  ⟨fun p hp => h.same p (fun hm => hp (hs p hm))⟩

theorem Within.foldl {α : Type} {ps : List Part} {f : State → α → State} (h : ∀ s a, Within ps s (f s a))
    (l : List α) : ∀ s, Within ps s (l.foldl f s) := by
  induction l with
  | nil => intro s; exact Within.refl ps s
  | cons a l ih => intro s; exact (h s a).trans (ih _)

theorem Within.ite {ps : List Part} {s t u : State} {c : Prop} [Decidable c] (h : Within ps s t)
    (h' : Within ps s u) : Within ps s (if c then t else u) := by
  split
  · exact h
  · exact h'

variable (s : State)

/-! ## Single updates -/

theorem State.modLine_within (k : Crane) (f : Line → Line) : Within [.lines] s (s.modLine k f) := by
  constructor; intro p hp; cases p <;> first | rfl | simp at hp

theorem State.setZone_within (z : Zone) (r : ZoneRt) : Within [.arb] s (s.setZone z r) := by
  constructor; intro p hp; cases p <;> first | rfl | simp at hp

theorem State.setCrane_within (k : Crane) (c : Option CraneRec) : Within [.cranes] s (s.setCrane k c) := by
  constructor; intro p hp; cases p <;> first | rfl | simp at hp

theorem State.setFaces_within (k : Crane) (l : List FaceState) : Within [.faces] s (s.setFaces k l) := by
  constructor; intro p hp; cases p <;> first | rfl | simp at hp

theorem State.setWind_within (k : Crane) (w : WindRec) : Within [.wind] s (s.setWind k w) := by
  constructor; intro p hp; cases p <;> first | rfl | simp at hp

theorem State.setVane_within (k : Crane) (v : VaneRec) : Within [.vane] s (s.setVane k v) := by
  constructor; intro p hp; cases p <;> first | rfl | simp at hp

theorem State.setDeclared_within (k : Crane) (l : List Zone) : Within [.declared] s (s.setDeclared k l) := by
  constructor; intro p hp; cases p <;> first | rfl | simp at hp

theorem State.setMastCopy_within (m : Mast) (c : MastCopy) : Within [.windMasts] s (s.setMastCopy m c) := by
  constructor; intro p hp; cases p <;> first | rfl | simp at hp

theorem State.setMast_within (m : Mast) (r : Option MastRt) : Within [.mastLine] s (s.setMast m r) := by
  constructor; intro p hp; cases p <;> first | rfl | simp at hp

theorem State.post_within (n : Notice) : Within [.notices] s (s.post n) := by
  constructor; intro p hp; cases p <;> first | rfl | simp at hp

theorem State.modPort_within (f : Port → Port) : Within [.port] s (s.modPort f) := by
  constructor; intro p hp; cases p <;> first | rfl | simp at hp

theorem State.tick_within : Within [.msCount] s s.tick := by
  constructor; intro p hp; cases p <;> first | rfl | simp at hp

theorem State.reach_within (due : Moment) : Within [.msCount] s (s.reach due) := by
  constructor; intro p hp; cases p <;> first | (simp [Part.same]; done) | simp at hp

theorem State.append_within (e : Event) : Within [.events, .overflow] s (s.append e) := by
  constructor; intro p hp; cases p <;> first | (simp [Part.same]; done) | simp at hp

theorem State.emit_within (kind : EventKind) (c z b : Nat) (x y : Int) :
    Within [.events, .overflow] s (s.emit kind c z b x y) := State.append_within ..

theorem State.emitCrane_within (kind : EventKind) (k : Crane) (x y : Int) :
    Within [.events, .overflow] s (s.emitCrane kind k x y) := State.append_within ..

/-! ## The Zone Arbiter -/

/-- What the actions of the Zone Arbiter touch. -/
def arbiterParts : List Part := [.arb, .notices, .events, .overflow]

theorem State.conflictEvents_within (z : Zone) (a : Crane) (x y : ZoneRt) :
    Within arbiterParts s (s.conflictEvents z a x y) := by
  unfold State.conflictEvents
  split
  · exact (State.emit_within ..).mono (by decide)
  split
  · exact (State.emit_within ..).mono (by decide)
  · exact Within.refl ..

theorem State.postClearance_within (z : Zone) (r : ZoneRt) : Within arbiterParts s (s.postClearance z r) := by
  unfold State.postClearance
  split
  · exact Within.refl ..
  · exact (State.post_within ..).mono (by decide)

theorem State.setZone_arbiter (z : Zone) (r : ZoneRt) : Within arbiterParts s (s.setZone z r) :=
  (State.setZone_within ..).mono (by decide)

theorem State.settle_within (z : Zone) (a : Crane) (x y : ZoneRt) (p q : Bool) :
    Within arbiterParts s (s.settle z a x y p q) := by
  unfold State.settle
  dsimp only
  exact ((State.setZone_arbiter s z _).trans (Within.ite (State.postClearance_within ..) (Within.refl ..))).trans
    (State.conflictEvents_within ..)

theorem State.requestZone_within (z : Zone) (k : Crane) : Within arbiterParts s (s.requestZone z k) := by
  unfold State.requestZone
  exact Within.ite (Within.refl ..) (State.settle_within ..)

theorem State.withdrawZone_within (z : Zone) (k : Crane) : Within arbiterParts s (s.withdrawZone z k) := by
  unfold State.withdrawZone
  exact Within.ite (State.setZone_arbiter ..) (Within.refl ..)

theorem State.releaseZone_within (z : Zone) (k : Crane) : Within arbiterParts s (s.releaseZone z k) := by
  unfold State.releaseZone
  exact Within.ite (State.settle_within ..) (Within.refl ..)

theorem State.insideAdd_within (z : Zone) (k : Crane) : Within arbiterParts s (s.insideAdd z k) := by
  unfold State.insideAdd
  exact Within.ite (Within.refl ..) (Within.ite (State.settle_within ..) (State.setZone_arbiter ..))

theorem State.insideRemove_within (z : Zone) (k : Crane) : Within arbiterParts s (s.insideRemove z k) := by
  unfold State.insideRemove
  exact Within.ite (Within.ite (State.settle_within ..)
    ((State.setZone_arbiter ..).trans ((State.post_within ..).mono (by decide)))) (Within.refl ..)

/-- What the beginning of a guard touches. -/
def guardParts : List Part := [.arb, .events, .overflow]

theorem State.guardZone_within (k : Crane) (z : Zone) : Within guardParts s (State.guardZone k s z) :=
  (State.setZone_within ..).mono (by decide)

theorem State.guardBegin_within (k : Crane) : Within guardParts s (s.guardBegin k) := by
  unfold State.guardBegin
  exact Within.ite (Within.refl ..)
    ((Within.foldl (fun s z => State.guardZone_within s k z) _ s).trans
      ((State.emitCrane_within ..).mono (by decide)))

theorem State.unguardZone_within (k : Crane) (z : Zone) : Within arbiterParts s (State.unguardZone k s z) := by
  unfold State.unguardZone
  exact Within.ite (State.settle_within ..) (Within.refl ..)

theorem State.guardEnd_within (k : Crane) : Within arbiterParts s (s.guardEnd k) := by
  unfold State.guardEnd
  exact Within.ite (Within.refl ..)
    ((Within.foldl (fun s z => State.unguardZone_within s k z) _ s).trans
      ((State.emitCrane_within ..).mono (by decide)))

/-- What a DECLARE touches. -/
def declareParts : List Part := [.arb, .declared, .notices, .events, .overflow]

theorem State.declareZone_within (k : Crane) (z : Zone) : Within declareParts s (State.declareZone k s z) := by
  unfold State.declareZone
  dsimp only
  exact Within.trans ((State.setDeclared_within s k _).mono (by decide))
    (Within.ite ((State.settle_within ..).mono (by decide)) ((State.setZone_arbiter ..).mono (by decide)))

theorem State.declareZones_within (k : Crane) (zs : List Zone) : Within declareParts s (s.declareZones k zs) := by
  unfold State.declareZones
  have h := Within.foldl (fun s z => State.declareZone_within s k z) zs s
  exact Within.ite h (h.trans ((State.emitCrane_within ..).mono (by decide)))

theorem State.claimZone_within (k : Crane) (z : Zone) : Within arbiterParts s (State.claimZone k s z) := by
  unfold State.claimZone
  exact Within.ite (State.settle_within ..) (State.setZone_arbiter ..)

theorem State.withdrawSweepZone_within (k : Crane) (z : Zone) :
    Within arbiterParts s (State.withdrawSweepZone k s z) := by
  unfold State.withdrawSweepZone
  exact Within.ite (State.settle_within ..) (State.setZone_arbiter ..)

theorem State.withdrawSweeps_within (k : Crane) : Within arbiterParts s (s.withdrawSweeps k) :=
  Within.foldl (fun s z => State.withdrawSweepZone_within s k z) _ s

theorem State.placeReservation_within (id : Nat) (k : Crane) (z : Zone) :
    Within arbiterParts s (State.placeReservation id k s z) := State.settle_within ..

theorem State.phaseActive_within (id : Nat) (z : Zone) : Within arbiterParts s (State.phaseActive id s z) := by
  unfold State.phaseActive
  dsimp only
  split
  · exact Within.refl ..
  · exact Within.ite (State.settle_within ..) (Within.refl ..)

theorem State.phaseSuspended_within (id : Nat) (z : Zone) : Within arbiterParts s (State.phaseSuspended id s z) := by
  unfold State.phaseSuspended
  dsimp only
  split
  · exact Within.refl ..
  · refine Within.ite (Within.ite ?_ (State.setZone_arbiter ..)) (Within.refl ..)
    split
    · exact State.settle_within ..
    · exact Within.ite (State.settle_within ..) (State.settle_within ..)

theorem State.removeReservation_within (id : Nat) (z : Zone) :
    Within arbiterParts s (State.removeReservation id s z) := by
  unfold State.removeReservation
  dsimp only
  split
  · exact Within.refl ..
  · exact Within.ite (State.settle_within ..) (Within.refl ..)

theorem State.clearZones_within : Within [.arb, .declared] s s.clearZones := by
  constructor; intro p hp; cases p <;> first | rfl | simp at hp

/-! ## The Reach Evaluator -/

/-- What an evaluation touches. -/
def evaluationParts : List Part := [.faces, .lines, .arb, .notices, .events, .overflow]

theorem State.setClearSince_within (k : Crane) (z : Zone) (t : Option Moment) :
    Within evaluationParts s (s.setClearSince k z t) := (State.setFaces_within ..).mono (by decide)

theorem State.postInside_within (k : Crane) (f : FaceState) : Within arbiterParts s (s.postInside k f) := by
  unfold State.postInside
  exact Within.ite (State.insideAdd_within ..) (State.insideRemove_within ..)

theorem State.dwell_within (k : Crane) (f : FaceState) : Within evaluationParts s (s.dwell k f) := by
  unfold State.dwell
  dsimp only
  exact Within.ite ((State.setClearSince_within ..).trans ((State.releaseZone_within ..).mono (by decide)))
    (State.setClearSince_within ..)

theorem State.faceActions_within (k : Crane) (f : FaceState) : Within evaluationParts s (State.faceActions k s f) := by
  unfold State.faceActions
  dsimp only
  refine Within.trans ((State.postInside_within s k f).mono (by decide)) ?_
  refine Within.ite (Within.ite ?_ ?_) (State.setClearSince_within ..)
  · refine Within.ite ?_ ?_
    · exact ((State.withdrawZone_within ..).mono (by decide)).trans (State.dwell_within ..)
    · exact ((State.withdrawZone_within ..).mono (by decide)).trans (State.setClearSince_within ..)
  · refine Within.ite (State.setClearSince_within ..) ?_
    exact (State.setClearSince_within ..).trans ((State.requestZone_within ..).mono (by decide))

theorem State.firstEvaluation_within (k : Crane) : Within evaluationParts s (s.firstEvaluation k) := by
  unfold State.firstEvaluation
  exact Within.ite (((State.modLine_within ..).mono (by decide)).trans ((State.guardEnd_within ..).mono (by decide)))
    (Within.refl ..)

theorem State.evaluate_within (k : Crane) (r : Report) : Within evaluationParts s (s.evaluate k r) := by
  unfold State.evaluate
  dsimp only
  refine Within.trans ((State.setFaces_within s k (s.faceStates k r)).mono (by decide)) ?_
  exact Within.ite (Within.refl ..)
    ((State.firstEvaluation_within ..).trans (Within.foldl (fun s f => State.faceActions_within s k f) _ _))

/-! ## The Wind Evaluator -/

theorem State.ownSample_within (k : Crane) (v : Nat) : Within [.wind] s (s.ownSample k v) := by
  unfold State.ownSample
  exact Within.ite (State.setWind_within ..) (Within.refl ..)

theorem State.ownStale_within (k : Crane) : Within [.wind] s (s.ownStale k) := by
  unfold State.ownStale
  exact Within.ite (State.setWind_within ..) (Within.refl ..)

theorem State.takeMastNotice_within (m : Mast) (st : MastState) (v : Option Nat) :
    Within [.windMasts] s (s.takeMastNotice m st v) := by
  unfold State.takeMastNotice
  split <;> exact State.setMastCopy_within ..

/-- What a slot close touches. -/
def slotParts : List Part := [.wind, .windMasts, .notices, .events, .overflow]

theorem State.windEvents_within (k : Crane) (x y : WindRec) : Within slotParts s (s.windEvents k x y) := by
  unfold State.windEvents
  dsimp only
  have h : Within slotParts s (if x.source != y.source then
      s.emitCrane .windSource k y.source.code x.source.code else s) :=
    Within.ite ((State.emitCrane_within ..).mono (by decide)) (Within.refl ..)
  refine Within.ite (h.trans ?_) h
  exact ((State.emitCrane_within ..).mono (by decide)).trans ((State.post_within ..).mono (by decide))

theorem State.closeSlot_within (k : Crane) : Within slotParts s (s.closeSlot k) := by
  unfold State.closeSlot
  split
  · exact Within.refl ..
  · exact Within.ite (Within.refl ..)
      (((State.setWind_within ..).mono (by decide)).trans (State.windEvents_within ..))

theorem State.staleMasts_within : Within slotParts s s.staleMasts :=
  Within.foldl (fun s m => (State.setMastCopy_within s m _).mono (by decide)) _ s

theorem State.closeSlots_within (order : List Crane) : Within slotParts s (s.closeSlots order) :=
  (Within.foldl State.closeSlot_within _ s).trans (State.staleMasts_within _)

/-! ## The Booking Scheduler -/

/-- What a change of a booking's state touches. -/
def moveParts : List Part := [.bookings, .termSeq, .events, .overflow]

/-- What a review touches. -/
def reviewParts : List Part := [.bookings, .termSeq, .arb, .notices, .events, .overflow]

theorem State.putBooking_within (b : Booking) : Within moveParts s (s.putBooking b) := by
  constructor; intro p hp; cases p <;> first | rfl | simp [moveParts] at hp

theorem State.changeState_within (b : Booking) (st : BookingState) (c : BookingCause) :
    Within moveParts s (s.changeState b st c) := by
  unfold State.changeState
  refine Within.ite ?_ (State.putBooking_within ..)
  constructor; intro p hp; cases p <;> first | rfl | simp [moveParts] at hp

theorem State.moveOnly_within (b : Booking) (st : BookingState) (c : BookingCause) :
    Within moveParts s (s.move b st c) :=
  (State.changeState_within ..).trans ((State.emit_within ..).mono (by decide))

theorem State.move_within (b : Booking) (st : BookingState) (c : BookingCause) :
    Within reviewParts s (s.move b st c) := (State.moveOnly_within ..).mono (by decide)

theorem State.dropReservations_within (b : Booking) : Within reviewParts s (s.dropReservations b) :=
  Within.foldl (fun s z => (State.removeReservation_within s b.id z).mono (by decide)) _ s

theorem State.leaveReserving_within (b : Booking) (st : BookingState) (c : BookingCause) :
    Within reviewParts s (s.leaveReserving b st c) :=
  (State.move_within ..).trans (State.dropReservations_within ..)

theorem State.activate_within (b : Booking) (c : BookingCause) : Within reviewParts s (s.activate b c) :=
  (State.move_within ..).trans (Within.foldl (fun s z => (State.phaseActive_within s b.id z).mono (by decide)) _ _)

theorem State.reviewCalling_within (w : Bool) (b : Booking) : Within reviewParts s (s.reviewCalling w b) := by
  unfold State.reviewCalling
  exact Within.ite (State.leaveReserving_within ..) (Within.ite (State.activate_within ..) (Within.refl ..))

theorem State.call_within (w : Bool) (b : Booking) : Within reviewParts s (s.call w b) := by
  unfold State.call
  dsimp only
  refine Within.trans ((State.move_within s b .calling .called).trans ?_) (State.reviewCalling_within ..)
  exact Within.foldl (fun s z => (State.placeReservation_within s b.id b.crane z).mono (by decide)) _ _

theorem State.reviewBooked_within (w : Bool) (b : Booking) : Within reviewParts s (s.reviewBooked w b) := by
  unfold State.reviewBooked
  exact Within.ite (Within.refl ..) (Within.ite (State.move_within ..)
    (Within.ite (State.call_within ..) (Within.refl ..)))

theorem State.reviewActive_within (w : Bool) (b : Booking) : Within reviewParts s (s.reviewActive w b) := by
  unfold State.reviewActive
  refine Within.ite (State.leaveReserving_within ..) ?_
  split
  · exact Within.refl ..
  · exact (State.move_within ..).trans
      (Within.foldl (fun s z => (State.phaseSuspended_within s b.id z).mono (by decide)) _ _)

theorem State.reviewSuspended_within (w : Bool) (b : Booking) : Within reviewParts s (s.reviewSuspended w b) := by
  unfold State.reviewSuspended
  exact Within.ite (State.leaveReserving_within ..) (Within.ite (State.activate_within ..) (Within.refl ..))

theorem State.reviewClosing_within (b : Booking) : Within reviewParts s (s.reviewClosing b) := by
  unfold State.reviewClosing
  exact Within.ite (Within.refl ..) (State.move_within ..)

theorem State.review_within (w : Bool) (id : Nat) : Within reviewParts s (State.review w s id) := by
  unfold State.review
  refine Within.ite (Within.refl ..) ?_
  split
  · exact Within.refl ..
  · split <;> first
      | exact Within.refl .. | exact State.reviewBooked_within .. | exact State.reviewCalling_within ..
      | exact State.reviewActive_within .. | exact State.reviewSuspended_within ..
      | exact State.reviewClosing_within ..

theorem State.reviewAll_within (w : Bool) (order : List Nat) (p : Booking → Bool) :
    Within reviewParts s (s.reviewAll w order p) := Within.foldl (fun s id => State.review_within s w id) _ s

theorem State.cancelBooking_within (b : Booking) : Within reviewParts s (s.cancelBooking b) := by
  unfold State.cancelBooking
  split <;> first
    | exact State.move_within .. | exact State.leaveReserving_within .. | exact Within.refl ..

theorem State.cancelInProgress_within (c : BookingCause) (e : Bool) (id : Nat) :
    Within moveParts s (State.cancelInProgress c e s id) := by
  unfold State.cancelInProgress
  split
  · exact Within.refl ..
  · exact Within.ite (Within.ite (State.moveOnly_within ..) (State.changeState_within ..)) (Within.refl ..)

theorem State.cancelAll_within (c : BookingCause) (e : Bool) : Within moveParts s (s.cancelAll c e) :=
  Within.foldl (fun s id => State.cancelInProgress_within s c e id) _ s

/-! ## The Crane Line Controllers -/

/-- What a step of a crane line controller touches, a REPORT's wind sample apart. -/
def lineParts : List Part := [.lines, .notices, .events, .overflow]

theorem State.modLine_line (k : Crane) (f : Line → Line) : Within lineParts s (s.modLine k f) :=
  (State.modLine_within ..).mono (by decide)

theorem State.setLinkOnly_within (k : Crane) (n : LinkState) : Within [.lines, .notices] s (s.setLink k n) :=
  ((State.modLine_within ..).mono (by decide)).trans ((State.post_within ..).mono (by decide))

theorem State.setLink_within (k : Crane) (n : LinkState) : Within lineParts s (s.setLink k n) :=
  (State.setLinkOnly_within ..).mono (by decide)

theorem State.wakingOnly_within (k : Crane) (b : Bool) : Within [.lines, .notices] s (s.enterWaking k b) :=
  ((State.modLine_within ..).mono (by decide)).trans (State.setLinkOnly_within ..)

theorem State.enterWaking_within (k : Crane) (b : Bool) : Within lineParts s (s.enterWaking k b) :=
  (State.wakingOnly_within ..).mono (by decide)

theorem State.emitCrane_line (kind : EventKind) (k : Crane) (x y : Int) :
    Within lineParts s (s.emitCrane kind k x y) := (State.emitCrane_within ..).mono (by decide)

theorem State.enterLost_within (k : Crane) (c : LinkCause) : Within lineParts s (s.enterLost k c) :=
  ((State.modLine_line ..).trans (State.emitCrane_line ..)).trans (State.setLink_within ..)

theorem State.enterMismatch_within (k : Crane) (c : LinkCause) (b : Int) : Within lineParts s (s.enterMismatch k c b) :=
  ((State.modLine_line ..).trans (State.emitCrane_line ..)).trans (State.setLink_within ..)

theorem State.enterOnline_within (k : Crane) (t : Byte) : Within lineParts s (s.enterOnline k t) := by
  unfold State.enterOnline
  dsimp only
  refine Within.trans (Within.trans ?_ (State.setLink_within ..)) (State.modLine_line ..)
  have h := fun f x y => (State.modLine_line s k f).trans (State.emitCrane_line (s.modLine k f) .linkOnline k x y)
  exact Within.ite (h ..) ((h ..).trans (State.emitCrane_line ..))

theorem State.beginExchange_within (k : Crane) (x : ExchangeKind) (o : List Byte) :
    Within lineParts s (s.beginExchange k x o) := State.modLine_line ..

theorem State.wakeCheckOnly_within (k : Crane) : Within [.lines] s (s.sendWakeCheck k) := by
  unfold State.sendWakeCheck State.beginExchange
  dsimp only
  exact Within.trans (State.modLine_within ..) (State.modLine_within ..)

theorem State.sendWakeCheck_within (k : Crane) : Within lineParts s (s.sendWakeCheck k) :=
  (State.wakeCheckOnly_within ..).mono (by decide)

theorem State.attemptOnly_within (k : Crane) : Within [.lines] s (s.searchAttempt k) :=
  (State.modLine_within ..).trans (State.wakeCheckOnly_within ..)

theorem State.searchAttempt_within (k : Crane) : Within lineParts s (s.searchAttempt k) :=
  (State.attemptOnly_within ..).mono (by decide)

theorem State.enterRateSearch_within (k : Crane) : Within [.lines, .notices] s (s.enterRateSearch k) :=
  ((State.setLinkOnly_within ..).trans ((State.modLine_within ..).mono (by decide))).trans
    ((State.attemptOnly_within ..).mono (by decide))

theorem State.enterCheck_within (k : Crane) : Within lineParts s (s.enterCheck k) :=
  ((State.setLink_within ..).trans (State.modLine_line ..)).trans (State.sendWakeCheck_within ..)

theorem State.startCycle_within (k : Crane) : Within lineParts s (s.startCycle k) := State.modLine_line ..

theorem State.enterWaitready_within (k : Crane) : Within lineParts s (s.enterWaitready k) :=
  (((State.setLink_within ..).trans (State.startCycle_within ..)).trans (State.modLine_line ..)).trans
    (State.beginExchange_within ..)

theorem State.tagAttempt_within (k : Crane) : Within lineParts s (s.tagAttempt k) := by
  unfold State.tagAttempt
  dsimp only
  exact Within.trans (State.beginExchange_within ..) (State.modLine_line ..)

theorem State.enterTagging_within (k : Crane) : Within lineParts s (s.enterTagging k) :=
  ((State.setLink_within ..).trans (State.modLine_line ..)).trans (State.tagAttempt_within ..)

theorem State.countMiss_within (k : Crane) : Within lineParts s (s.countMiss k) := by
  unfold State.countMiss
  dsimp only
  exact Within.ite ((State.modLine_line ..).trans (State.enterLost_within ..)) (State.modLine_line ..)

theorem State.searchFailed_within (k : Crane) : Within lineParts s (s.searchFailed k) := by
  unfold State.searchFailed
  dsimp only
  exact Within.ite ((State.modLine_line ..).trans (State.searchAttempt_within ..))
    ((State.modLine_line ..).trans (State.modLine_line ..))

theorem State.checkFailed_within (k : Crane) : Within lineParts s (s.checkFailed k) := by
  unfold State.checkFailed
  dsimp only
  exact Within.ite ((State.modLine_line ..).trans (State.sendWakeCheck_within ..))
    ((State.modLine_line ..).trans (State.enterWaking_within ..))

theorem State.taggingFailed_within (k : Crane) : Within lineParts s (s.taggingFailed k) := by
  unfold State.taggingFailed
  dsimp only
  exact Within.ite ((State.modLine_line ..).trans (State.tagAttempt_within ..))
    ((State.modLine_line ..).trans (State.enterLost_within ..))

theorem State.dropExchange_within (k : Crane) : Within lineParts s (s.dropExchange k) := State.modLine_line ..

theorem State.setFaults_within (k : Crane) (f : Faults) : Within lineParts s (s.setFaults k f) :=
  State.modLine_line ..

theorem State.exchangeFailed_within (k : Crane) (f : Faults) : Within lineParts s (s.exchangeFailed k f) := by
  unfold State.exchangeFailed
  dsimp only
  refine Within.trans (State.dropExchange_within s k) ?_
  have h := fun s : State => State.setFaults_within s k f
  split <;> first
    | exact State.searchFailed_within .. | exact (h _).trans (State.checkFailed_within ..) | exact h _
    | exact (h _).trans (State.taggingFailed_within ..) | exact (h _).trans (State.countMiss_within ..)
    | exact Within.refl ..

theorem State.endIncomplete_within (k : Crane) : Within lineParts s (s.endIncomplete k) := by
  unfold State.endIncomplete
  split
  · exact Within.refl ..
  · exact State.exchangeFailed_within ..

/-- What a character on a crane line touches. -/
def charParts : List Part := [.lines, .wind, .notices, .events, .overflow]

theorem State.takeReport_within (k : Crane) (m : ChunkMarker) (o : List Byte) :
    Within charParts s (s.takeReport k m o) := by
  unfold State.takeReport
  dsimp only
  have h := fun f => (State.modLine_within s k f).mono (qs := charParts) (by decide)
  exact Within.ite ((h _).trans ((State.ownSample_within ..).mono (by decide))) (h _)

theorem State.takeEcho_within (k : Crane) (v : Byte) : Within lineParts s (s.takeEcho k v) := by
  unfold State.takeEcho
  dsimp only
  refine Within.trans (State.dropExchange_within s k) ?_
  exact Within.ite (State.enterMismatch_within ..)
    (Within.ite (State.enterWaitready_within ..) (State.enterCheck_within ..))

theorem State.takeReady_within (k : Crane) (f : Nat) : Within lineParts s (s.takeReady k f) := by
  unfold State.takeReady
  dsimp only
  refine Within.trans (State.dropExchange_within s k) ?_
  exact Within.ite (State.enterTagging_within ..) (Within.refl ..)

theorem State.takeIdent_within (k : Crane) (t : Byte) (o : List Byte) : Within lineParts s (s.takeIdent k t o) := by
  unfold State.takeIdent
  dsimp only
  exact Within.ite (State.enterOnline_within ..) (State.enterMismatch_within ..)

theorem State.judge_within (k : Crane) (x : ExchangeKind) (o : List Byte) (p f : Bool) :
    Within charParts s (s.judge k x o p f) := by
  unfold State.judge
  refine Within.ite ((State.exchangeFailed_within ..).mono (by decide)) ?_
  split
  · exact (State.takeEcho_within ..).mono (by decide)
  · exact (State.takeReady_within ..).mono (by decide)
  · exact (State.takeIdent_within ..).mono (by decide)
  · exact State.takeReport_within ..

theorem State.extendReply_within (k : Crane) (x : Exchange) (o : List Byte) (p f : Bool) :
    Within charParts s (s.extendReply k x o p f) := by
  unfold State.extendReply
  exact Within.ite (State.judge_within ..)
    (Within.ite ((State.exchangeFailed_within ..).mono (by decide)) ((State.modLine_within ..).mono (by decide)))

theorem State.replyBegins_within (k : Crane) : Within lineParts s (s.replyBegins k) := by
  unfold State.replyBegins
  split
  · exact Within.refl ..
  · split
    · exact (State.modLine_within ..).mono (by decide)
    · exact Within.refl ..
    · exact Within.refl ..

theorem State.takeChar_within (k : Crane) (c : LineChar) : Within charParts s (s.takeChar k c) := by
  unfold State.takeChar
  split
  · exact Within.refl ..
  · split
    · exact State.extendReply_within ..
    · exact Within.refl ..
    · exact Within.refl ..

theorem State.hear_within (k : Crane) (h : Heard) : Within charParts s (s.hear k h) := by
  cases h
  · exact Within.refl ..
  · exact (State.replyBegins_within ..).mono (by decide)
  · exact State.takeChar_within ..

theorem State.sampleLine_within (k : Crane) (b : Bool) : Within charParts s (State.sampleLine k s b) := by
  unfold State.sampleLine
  exact Within.ite (((State.modLine_within ..).mono (by decide)).trans (State.hear_within ..)) (Within.refl ..)

theorem State.sampleLines_within (k : Crane) (x : Samples) : Within charParts s (s.sampleLines k x) :=
  Within.foldl (fun s b => State.sampleLine_within s k b) _ s

/-! ## The Permit Composer -/

/-- What a composition touches. -/
def vaneParts : List Part := [.vane, .arb, .notices, .events, .overflow]

theorem State.beginEpisode_within (k : Crane) : Within vaneParts s (s.beginEpisode k) := by
  unfold State.beginEpisode
  exact Within.ite ((State.setVane_within ..).mono (by decide)) (Within.refl ..)

theorem State.setVaneEmit_within (k : Crane) (v : VaneRec) (kind : EventKind) (c z b : Nat) (x y : Int) :
    Within vaneParts s ((s.setVane k v).emit kind c z b x y) :=
  ((State.setVane_within ..).mono (by decide)).trans ((State.emit_within ..).mono (by decide))

theorem State.becomeActive_within (k : Crane) : Within vaneParts s (s.becomeActive k) := by
  unfold State.becomeActive
  exact Within.ite (Within.refl ..) (State.setVaneEmit_within ..)

theorem State.becomePending_within (k : Crane) : Within vaneParts s (s.becomePending k) := by
  unfold State.becomePending
  exact Within.ite (State.setVaneEmit_within ..) (Within.refl ..)

theorem State.vaneAlarm_within (k : Crane) : Within vaneParts s (s.vaneAlarm k) := by
  unfold State.vaneAlarm
  dsimp only
  split
  · exact Within.ite (State.setVaneEmit_within ..) (Within.refl ..)
  · exact Within.refl ..

theorem State.sendClaims_within (k : Crane) : Within arbiterParts s (s.sendClaims k) :=
  Within.foldl (fun s z => State.claimZone_within s k z) _ s

theorem State.vaneHolds_within (k : Crane) : Within vaneParts s (s.vaneHolds k) := by
  unfold State.vaneHolds
  dsimp only
  refine Within.trans (State.beginEpisode_within s k) (Within.ite (State.becomeActive_within ..) ?_)
  refine Within.trans ((State.sendClaims_within _ k).mono (by decide)) ?_
  exact Within.trans (Within.ite (State.becomeActive_within ..) (State.becomePending_within ..))
    (State.vaneAlarm_within ..)

theorem State.vaneEnds_within (k : Crane) : Within vaneParts s (s.vaneEnds k) := by
  unfold State.vaneEnds
  dsimp only
  refine Within.ite (Within.refl ..) (Within.trans ?_ (State.setVaneEmit_within ..))
  exact Within.ite (Within.refl ..) ((State.withdrawSweeps_within ..).mono (by decide))

theorem State.weathervane_within (k : Crane) : Within vaneParts s (s.weathervane k) := by
  unfold State.weathervane
  exact Within.ite (State.vaneHolds_within ..) (State.vaneEnds_within ..)

theorem State.vaneClear_within (k : Crane) : Within [.vane, .events, .overflow] s (s.vaneClear k) := by
  unfold State.vaneClear
  dsimp only
  exact Within.ite ((State.setVane_within ..).mono (by decide))
    (((State.setVane_within ..).mono (by decide)).trans ((State.emitCrane_within ..).mono (by decide)))

/-- What a cycle expiry touches. -/
def cycleParts : List Part := [.faces, .lines, .vane, .sent, .arb, .notices, .events, .overflow]

theorem State.sendPoll_within (k : Crane) (p : SentPermit) : Within cycleParts s (s.sendPoll k p) := by
  unfold State.sendPoll
  dsimp only
  refine Within.trans (t := { s with sent := s.sent.set k p }) ?_
    ((State.beginExchange_within ..).mono (by decide))
  constructor; intro q hq; cases q <;> first | rfl | simp [cycleParts] at hq

theorem State.evaluateAndPoll_within (k : Crane) : Within cycleParts s (s.evaluateAndPoll k) := by
  unfold State.evaluateAndPoll
  dsimp only
  refine Within.trans (Within.trans ?_ ((State.weathervane_within _ k).mono (by decide))) (State.sendPoll_within ..)
  split
  · exact Within.refl ..
  · exact (State.evaluate_within ..).mono (by decide)

theorem State.expireCycle_within (k : Crane) : Within cycleParts s (s.expireCycle k) := by
  unfold State.expireCycle
  dsimp only
  refine Within.trans ((State.endIncomplete_within s k).mono (by decide)) ?_
  exact Within.ite (((State.startCycle_within ..).mono (by decide)).trans (State.evaluateAndPoll_within ..))
    (Within.refl ..)

/-! ## The Mast Line Controller -/

/-- What an event of the mast line touches, the time apart. -/
def mastParts : List Part := [.mastLine, .notices, .events, .overflow]

theorem State.beginSlot_within (m : Mast) (due : Moment) : Within [.mastLine] s (s.beginSlot m due) := by
  constructor; intro p hp; cases p <;> first | rfl | simp at hp

theorem State.mastEvents_within (m : Mast) (x y : MastRt) (r : Option Nat) :
    Within [.events, .overflow] s (s.mastEvents m x y r) := by
  unfold State.mastEvents
  exact Within.ite (State.emit_within ..) (Within.ite (State.emit_within ..) (Within.refl ..))

theorem State.dropMastExchange_within : Within [.mastLine] s s.dropMastExchange := by
  constructor; intro p hp; cases p <;> first | rfl | simp at hp

theorem State.endMastExchange_within (x : MastExchange) (r : Option Nat) :
    Within mastParts s (s.endMastExchange x r) := by
  unfold State.endMastExchange
  dsimp only
  refine Within.trans ((State.dropMastExchange_within s).mono (by decide)) ?_
  refine Within.ite (Within.refl ..) ?_
  split
  · exact Within.refl ..
  · exact (((State.setMast_within ..).mono (by decide)).trans ((State.mastEvents_within ..).mono (by decide))).trans
      ((State.post_within ..).mono (by decide))

theorem State.takeMastChar_within (c : LineChar) : Within mastParts s (s.takeMastChar c) := by
  unfold State.takeMastChar
  split
  · exact Within.refl ..
  · split
    · exact Within.refl ..
    · dsimp only
      refine Within.ite (Within.refl ..) (Within.ite (State.endMastExchange_within ..) ?_)
      constructor; intro p hp; cases p <;> first | rfl | simp [mastParts] at hp

theorem State.hearMast_within (h : Heard) : Within mastParts s (s.hearMast h) := by
  cases h
  · exact Within.refl ..
  · exact Within.refl ..
  · exact State.takeMastChar_within ..

theorem State.sampleMast_within (b : Bool) : Within mastParts s (s.sampleMast b) := by
  unfold State.sampleMast
  refine Within.ite (Within.refl ..) (Within.trans ?_ (State.hearMast_within ..))
  constructor; intro p hp; cases p <;> first | rfl | simp [mastParts] at hp

theorem State.sampleMasts_within (x : Samples) : Within mastParts s (s.sampleMasts x) :=
  Within.foldl (fun s b => State.sampleMast_within s b) _ s

end Sys2Proof.Machine
end

