-- ==== Sys2Proof/Laws/Requests.lean ====
section
/-! SUPPORT. Taking and answering a request, and for each request's owner the parts of the state that it can touch. -/

namespace Sys2Proof.Machine

/-! ## Taking and answering -/

theorem State.serve_of_canTake {s : State} {f : Frame} (own : State → Answer) (h : s.port.canTake f = true) :
    s.serve f own = (own s.taken).state.reply f (own s.taken).code (own s.taken).payload := by
  simp only [State.serve, if_pos h]; rfl

theorem State.serve_of_not_canTake {s : State} {f : Frame} (own : State → Answer) (h : s.port.canTake f = false) :
    s.serve f own = s := by
  simp [State.serve, h]

theorem State.reply_eq_answered (t : State) (f : Frame) (code : ReplyCode) (payload : List Byte) :
    t.reply f code payload = t.answered f.typ f.seq code payload := rfl

theorem State.taken_within (s : State) : Within [.port] s s.taken := by
  constructor; intro p hp; cases p <;> first | (simp at hp; done) | rfl

@[simp] theorem State.done_state (s : State) (p : List Byte) : (s.done p).state = s := rfl

@[simp] theorem State.refuse_state (s : State) (c : ReplyCode) : (s.refuse c).state = s := rfl

theorem State.answered_within (t : State) (typ seq : Byte) (code : ReplyCode) (payload : List Byte) :
    Within [.port] t (t.answered typ seq code payload) := by
  constructor; intro p hp; cases p <;> first | (simp at hp; done) | rfl

theorem Answer.ite_within {ps : List Part} {s : State} {c : Prop} [Decidable c] {a b : Answer}
    (h : Within ps s a.state) (h' : Within ps s b.state) : Within ps s (if c then a else b).state := by
  split
  · exact h
  · exact h'

theorem State.serve_within {ps : List Part} (s : State) (f : Frame) (own : State → Answer) (hp : Part.port ∈ ps)
    (h : ∀ s, Within ps s (own s).state) : Within ps s (s.serve f own) := by
  have one : ∀ q ∈ [Part.port], q ∈ ps := by simpa using hp
  unfold State.serve
  refine Within.ite ?_ (Within.refl ..)
  exact ((s.taken_within.mono one).trans (h _)).trans ((State.answered_within _ f.typ f.seq _ _).mono one)

theorem State.refuse_within (ps : List Part) (s : State) (c : ReplyCode) : Within ps s (s.refuse c).state :=
  Within.refl ..

theorem withLength_within {ps : List Part} (n : Nat) (p : List Byte) (own : State → Answer)
    (h : ∀ s, Within ps s (own s).state) (s : State) : Within ps s (withLength n p own s).state := by
  unfold withLength
  split
  · exact h s
  · exact Within.refl ..

theorem inSetup_within {ps : List Part} (own : State → Answer)
    (h : ∀ s, Within ps s (own s).state) (s : State) : Within ps s (inSetup own s).state := by
  unfold inSetup
  split
  · exact Within.refl ..
  · exact h s

theorem withCrane_within {ps : List Part} (n : Nat) (own : Crane → State → Answer)
    (h : ∀ k s, Within ps s (own k s).state) (s : State) : Within ps s (withCrane n own s).state := by
  unfold withCrane
  split
  · exact Within.refl ..
  · exact h _ s

theorem withZone_within {ps : List Part} (n : Nat) (own : Zone → State → Answer)
    (h : ∀ z s, Within ps s (own z s).state) (s : State) : Within ps s (withZone n own s).state := by
  unfold withZone
  split
  · exact Within.refl ..
  · exact h _ s

theorem withBooking_within {ps : List Part} (id : Nat) (own : Booking → State → Answer)
    (h : ∀ b s, Within ps s (own b s).state) (s : State) : Within ps s (withBooking id own s).state := by
  unfold withBooking
  split
  · exact Within.refl ..
  · split
    · exact Within.refl ..
    · exact h _ s

/-! ## Site requests -/

variable (s : State)

theorem State.setMode_within (m : Mode) : Within [.mode, .events, .overflow] s (s.setMode m) := by
  unfold State.setMode
  refine Within.trans (t := { s with mode := m }) ?_ ((State.emit_within ..).mono (by decide))
  constructor; intro p hp; cases p <;> first | (simp at hp; done) | rfl

theorem State.guardAtStart_within (k : Crane) : Within guardParts s (s.guardAtStart k) := by
  unfold State.guardAtStart
  exact Within.ite (State.guardBegin_within ..) (Within.refl ..)

theorem State.startRequest_within : Within [.mode, .arb, .declared, .events, .overflow] s s.startRequest.state := by
  unfold State.startRequest
  split
  · exact Within.refl ..
  · split
    · exact Within.refl ..
    · rw [State.done_state]
      refine Within.trans (t := (s.setMode .run).clearZones) ?_
        ((Within.foldl State.guardAtStart_within _ _).mono (by decide))
      exact ((State.setMode_within ..).mono (by decide)).trans ((State.clearZones_within ..).mono (by decide))

theorem State.holdRequest_within : Within [.mode, .notices, .events, .overflow] s s.holdRequest.state := by
  unfold State.holdRequest
  split
  · exact Within.refl ..
  · exact ((State.setMode_within ..).mono (by decide)).trans ((State.post_within ..).mono (by decide))

theorem State.resumeRequest_within : Within [.mode, .notices, .events, .overflow] s s.resumeRequest.state := by
  unfold State.resumeRequest
  split
  · exact Within.refl ..
  · exact ((State.setMode_within ..).mono (by decide)).trans ((State.post_within ..).mono (by decide))

theorem State.enterSetup_within :
    Within [.mode, .arb, .declared, .bookings, .termSeq, .faces, .events, .overflow] s s.enterSetup := by
  unfold State.enterSetup
  refine Within.trans (t := (s.setMode .setup).clearZones.cancelAll .setup true) ?_ ?_
  · exact (((State.setMode_within ..).mono (by decide)).trans ((State.clearZones_within ..).mono (by decide))).trans
      ((State.cancelAll_within ..).mono (by decide))
  · constructor; intro p hp; cases p <;> first | (simp at hp; done) | rfl

theorem State.setupRequest_within :
    Within [.mode, .arb, .declared, .bookings, .termSeq, .faces, .events, .overflow] s s.setupRequest.state := by
  unfold State.setupRequest
  split
  · exact Within.refl ..
  · exact State.enterSetup_within s

theorem State.setClock_within (t : Nat) :
    Within [.clock, .clockValid, .notices, .events, .overflow] s (s.setClock t) := by
  unfold State.setClock
  dsimp only
  have h : ∀ x y : Int, Within [.clock, .clockValid, .notices, .events, .overflow] s
      ({ s with clock := t, clockValid := true }.emit .clockSet 0 0 0 x y) := by
    intro x y
    refine Within.trans (t := { s with clock := t, clockValid := true }) ?_
      ((State.emit_within ..).mono (by decide))
    constructor; intro p hp; cases p <;> first | (simp at hp; done) | rfl
  exact Within.ite (h ..) ((h ..).trans ((State.post_within ..).mono (by decide)))

theorem State.clockRequest_within (t : Nat) :
    Within [.clock, .clockValid, .notices, .events, .overflow] s (s.clockRequest t).state := by
  unfold State.clockRequest
  split
  · exact Within.refl ..
  · exact State.setClock_within ..

theorem State.tagRequest_within (t : BitVec 16) : Within [.tag] s (s.tagRequest t).state := by
  unfold State.tagRequest
  split
  · exact Within.refl ..
  · constructor; intro p hp; cases p <;> first | (simp at hp; done) | rfl

theorem State.maskRequest_within (m : BitVec 16) : Within [.port] s (s.maskRequest m).state := by
  constructor; intro p hp; cases p <;> first | (simp at hp; done) | rfl

/-! ## Configuration requests -/

/-- What an accepted CRANE_DEF touches. -/
def craneDefParts : List Part := [.cranes, .wind, .vane, .lines, .notices, .events, .overflow]

theorem State.applyCrane_within (k : Crane) (c : CraneRec) : Within craneDefParts s (s.applyCrane k c) := by
  unfold State.applyCrane
  dsimp only
  have h : ∀ b, Within craneDefParts s ((s.setCrane k (some c)).freshenWind k b) := by
    intro b
    unfold State.freshenWind
    exact Within.ite ((State.setCrane_within ..).mono (by decide))
      (((State.setCrane_within ..).mono (by decide)).trans ((State.setWind_within ..).mono (by decide)))
  have h2 : Within craneDefParts s (if (s.crane k).isSome && c.absent
      then ((s.setCrane k (some c)).freshenWind k (s.worked k)).vaneClear k
      else (s.setCrane k (some c)).freshenWind k (s.worked k)) :=
    Within.ite ((h _).trans ((State.vaneClear_within ..).mono (by decide))) (h _)
  exact Within.ite (h2.trans ((State.wakingOnly_within ..).mono (by decide))) h2

theorem State.craneDefRequest_within (k : Crane) (c : CraneRec) :
    Within craneDefParts s (s.craneDefRequest k c).state := by
  unfold State.craneDefRequest
  repeat' split
  all_goals simp only [State.done_state, State.refuse_state]
  all_goals first | exact Within.refl .. | exact State.applyCrane_within ..

theorem State.applyClear_within (k : Crane) :
    Within [.cranes, .service, .wind, .vane, .lines, .events, .overflow] s (s.applyClear k) := by
  unfold State.applyClear State.clearTexts
  refine Within.trans (t := { s.setCrane k none with service := s.service.set k .inService }) ?_ ?_
  · constructor; intro p hp; cases p <;> first | (simp at hp; done) | rfl
  · exact (((State.modLine_within ..).mono (by decide)).trans ((State.setWind_within ..).mono (by decide))).trans
      ((State.vaneClear_within ..).mono (by decide))

theorem State.craneClearRequest_within (k : Crane) :
    Within [.cranes, .service, .wind, .vane, .lines, .events, .overflow] s (s.craneClearRequest k).state := by
  unfold State.craneClearRequest
  repeat' split
  all_goals simp only [State.done_state, State.refuse_state]
  all_goals first | exact Within.refl .. | exact State.applyClear_within ..

theorem State.writeZone_within (z : Zone) (d : Option ZoneDef) : Within [.zones, .arb, .faces] s (s.writeZone z d) := by
  unfold State.writeZone State.dropFaceStates
  refine Within.trans (t := { s with zones := s.zones.set z d }.setZone z .empty) ?_
    (Within.foldl (fun s k => (State.setFaces_within s k _).mono (by decide)) _ _)
  constructor; intro p hp; cases p <;> first | (simp at hp; done) | rfl

theorem State.zoneDefRequest_within (z : Zone) (d : ZoneDef) :
    Within [.zones, .arb, .faces] s (s.zoneDefRequest z d).state := by
  unfold State.zoneDefRequest
  exact Answer.ite_within (Within.refl ..) (Answer.ite_within (Within.refl ..) (Answer.ite_within (Within.refl ..)
    (Answer.ite_within (Within.refl ..) (State.writeZone_within ..))))

theorem State.zoneDelRequest_within (z : Zone) : Within [.zones, .arb, .faces] s (s.zoneDelRequest z).state := by
  unfold State.zoneDelRequest
  exact Answer.ite_within (Within.refl ..) (Answer.ite_within (Within.refl ..) (State.writeZone_within ..))

theorem State.defineMast_within (m : Mast) : Within [.mastLine, .windMasts] s (s.defineMast m) := by
  unfold State.defineMast
  exact Within.ite (Within.refl ..)
    (((State.setMast_within ..).mono (by decide)).trans ((State.setMastCopy_within ..).mono (by decide)))

theorem State.undefineMast_within (m : Mast) : Within [.mastLine, .windMasts] s (s.undefineMast m) := by
  unfold State.undefineMast
  refine Within.ite ?_ (Within.refl ..)
  dsimp only
  refine Within.trans (t := (s.setMast m none).setMastCopy m .unknown) ?_ ?_
  · exact ((State.setMast_within ..).mono (by decide)).trans ((State.setMastCopy_within ..).mono (by decide))
  · constructor; intro p hp; cases p <;> first | (simp at hp; done) | rfl

theorem State.mastDefRequest_within (m : Mast) (d : Bool) :
    Within [.mastLine, .windMasts] s (s.mastDefRequest m d).state := by
  unfold State.mastDefRequest
  repeat' split
  all_goals first
    | exact Within.refl .. | exact State.defineMast_within .. | exact State.undefineMast_within ..

theorem State.siteDefRequest_within (q : SiteParams) : Within [.params] s (s.siteDefRequest q).state := by
  unfold State.siteDefRequest
  split
  · constructor; intro p hp; cases p <;> first | (simp at hp; done) | rfl
  · exact Within.refl ..

/-! ## Crane requests -/

theorem State.lineOnRequest_within (k : Crane) : Within [.lines, .notices] s (s.lineOnRequest k).state := by
  unfold State.lineOnRequest
  split
  · exact Within.refl ..
  · exact Within.ite (((State.modLine_within ..).mono (by decide)).trans (State.wakingOnly_within ..)) (Within.refl ..)

theorem State.guardUnlessSetup_within (k : Crane) : Within guardParts s (s.guardUnlessSetup k) := by
  unfold State.guardUnlessSetup
  exact Within.ite (State.guardBegin_within ..) (Within.refl ..)

theorem State.lineOffRequest_within (k : Crane) :
    Within [.lines, .notices, .arb, .events, .overflow] s (s.lineOffRequest k).state := by
  unfold State.lineOffRequest
  split
  · exact Within.refl ..
  · exact (((State.modLine_within ..).mono (by decide)).trans ((State.setLinkOnly_within ..).mono (by decide))).trans
      ((State.guardUnlessSetup_within ..).mono (by decide))

theorem State.serviceRequest_within (k : Crane) (n : ServiceState) :
    Within [.service, .notices] s (s.serviceRequest k n).state := by
  unfold State.serviceRequest
  split
  · exact Within.refl ..
  · refine Within.ite (Within.refl ..) ?_
    constructor; intro p hp; cases p <;> first | (simp at hp; done) | rfl

theorem State.craneStateRequest_within (k : Crane) (c : Bool) :
    Within [.lines] s (s.craneStateRequest k c).state := by
  unfold State.craneStateRequest
  exact Within.ite (State.modLine_within ..) (Within.refl ..)

theorem State.textRequest_within (k : Crane) (cs : List Byte) : Within [.lines] s (s.textRequest k cs).state := by
  unfold State.textRequest
  dsimp only
  repeat' split
  all_goals simp only [State.done_state, State.refuse_state]
  all_goals first | exact Within.refl .. | exact State.modLine_within ..

theorem State.declareRequest_within (k : Crane) (zs : List Zone) :
    Within declareParts s (s.declareRequest k zs).state := by
  unfold State.declareRequest
  repeat' split
  all_goals simp only [State.done_state, State.refuse_state]
  all_goals first | exact Within.refl .. | exact State.declareZones_within ..

/-! ## Zone and booking requests -/

theorem State.zoneStateRequest_within (z : Zone) : Within [] s (s.zoneStateRequest z).state := by
  unfold State.zoneStateRequest
  split <;> exact Within.refl ..

theorem State.resolveRequest_within (z : Zone) (m : Option Crane) : Within [.arb] s (s.resolveRequest z m).state := by
  unfold State.resolveRequest
  repeat' split
  all_goals simp only [State.done_state, State.refuse_state]
  all_goals first | exact Within.refl .. | exact State.setZone_within ..

theorem State.enterBooking_within (q : BookRequest) : Within [.bookings, .nextId, .events, .overflow] s (s.enterBooking q) := by
  unfold State.enterBooking State.bookingEvent
  dsimp only
  refine Within.trans ?_ ((State.emit_within ..).mono (by decide))
  constructor; intro p hp; cases p <;> first | (simp at hp; done) | rfl

theorem State.bookRequest_within (q : BookRequest) :
    Within [.bookings, .nextId, .events, .overflow] s (s.bookRequest q).state := by
  unfold State.bookRequest
  repeat' split
  all_goals simp only [State.done_state, State.refuse_state]
  all_goals first | exact Within.refl .. | exact State.enterBooking_within ..

theorem State.cancelRequest_within (b : Booking) : Within reviewParts s (s.cancelRequest b).state := by
  unfold State.cancelRequest
  split
  · exact Within.refl ..
  · exact State.cancelBooking_within ..

theorem State.bookingRemoveRequest_within (b : Booking) : Within [.bookings] s (s.bookingRemoveRequest b).state := by
  unfold State.bookingRemoveRequest
  split
  · constructor; intro p hp; cases p <;> first | (simp at hp; done) | rfl
  · exact Within.refl ..

theorem State.eventsRequest_within : Within [.events, .overflow] s s.eventsRequest.state := by
  constructor; intro p hp; cases p <;> first | (simp at hp; done) | rfl

/-! ## Notices and timers -/

theorem State.deliver_within {ps : List Part} (p : Notice → Bool) (act : Notice → State → State)
    (hn : Part.notices ∈ ps) (h : ∀ n s, Within ps s (act n s)) : Within ps s (s.deliver p act) := by
  unfold State.deliver
  split
  · exact Within.refl ..
  · refine Within.trans ?_ (h _ _)
    constructor; intro q hq; cases q <;> first | rfl | exact absurd hn hq

theorem State.linkZones_within (k : Crane) (old new : LinkState) :
    Within [.faces, .declared, .arb, .events, .overflow] s (s.linkZones k old new) := by
  unfold State.linkZones
  dsimp only
  have h : Within [.faces, .declared, .arb, .events, .overflow] s
      (if old = .online ∧ new ≠ .online then s.setFaces k [] else s) :=
    Within.ite ((State.setFaces_within ..).mono (by decide)) (Within.refl ..)
  exact Within.ite (h.trans ((State.setDeclared_within ..).mono (by decide)))
    (h.trans ((State.guardUnlessSetup_within ..).mono (by decide)))

theorem State.linkChanged_within (k : Crane) (old new : LinkState) (order : List Nat) :
    Within [.faces, .declared, .wind, .bookings, .termSeq, .arb, .notices, .events, .overflow] s
      (s.linkChanged k old new order) := by
  unfold State.linkChanged
  dsimp only
  have h := (State.linkZones_within s k old new).mono (qs := [.faces, .declared, .wind, .bookings, .termSeq, .arb,
    .notices, .events, .overflow]) (by decide)
  have h' := Within.ite (c := old = .online ∧ new ≠ .online)
    (h.trans ((State.ownStale_within (s.linkZones k old new) k).mono (by decide))) h
  exact Within.ite (h'.trans ((State.reviewAll_within ..).mono (by decide))) h'

theorem State.secondPasses_within (order : List Nat) :
    Within [.msCount, .clock, .clockDue, .bookings, .termSeq, .arb, .notices, .events, .overflow] s
      (s.secondPasses order) := by
  unfold State.secondPasses
  refine Within.trans (t := { s.reach s.clockDue with
    clock := s.clockNext, clockDue := s.clockDue + BitVec.ofNat 32 Config.second }) ?_
    ((State.reviewAll_within ..).mono (by decide))
  refine Within.trans ((State.reach_within s s.clockDue).mono (by decide)) ?_
  constructor; intro p hp; cases p <;> first | (simp at hp; done) | rfl

theorem State.slotsClose_within (order : List Crane) :
    Within [.msCount, .windDue, .wind, .windMasts, .notices, .events, .overflow] s (s.slotsClose order) := by
  unfold State.slotsClose
  refine Within.trans (t := { s.reach s.windDue with windDue := s.windDue + BitVec.ofNat 32 Config.second }) ?_
    ((State.closeSlots_within ..).mono (by decide))
  refine Within.trans ((State.reach_within s s.windDue).mono (by decide)) ?_
  constructor; intro p hp; cases p <;> first | (simp at hp; done) | rfl

/-! ## The restart -/

/-- What the restart touches (R169). -/
def restartParts : List Part :=
  [.notices, .faces, .msCount, .arb, .declared, .sent, .vane, .lines, .wind, .windMasts, .windDue, .bookings,
    .termSeq, .mastLine, .mode, .clockDue, .events, .overflow, .port]

theorem State.restartLines_within : Within [.lines] s s.restartLines :=
  Within.foldl (fun s k => State.modLine_within s k _) _ s

theorem State.restartMasts_within : Within [.mastLine] s s.restartMasts :=
  Within.foldl (fun s m => State.setMast_within s m _) _ s

theorem State.restart_within : Within restartParts s s.restart := by
  unfold State.restart
  dsimp only
  refine Within.trans ?_ ((State.emit_within ..).mono (by decide))
  refine Within.trans ?_ ((State.modPort_within ..).mono (by decide))
  refine Within.trans ?_ ((State.beginSlot_within ..).mono (by decide))
  refine Within.trans ?_ ((State.restartMasts_within _).mono (by decide))
  refine Within.trans ?_ ((State.restartLines_within _).mono (by decide))
  refine Within.trans ?_ ((State.clearZones_within _).mono (by decide))
  refine Within.trans (t := s.cancelAll .restart false) ((State.cancelAll_within ..).mono (by decide)) ?_
  constructor; intro p hp; cases p <;> first | (simp [restartParts] at hp; done) | rfl

theorem State.replySent_within : Within restartParts s s.replySent := by
  unfold State.replySent
  refine Within.ite ?_ (Within.refl ..)
  dsimp only
  exact Within.ite (((State.modPort_within ..).mono (by decide)).trans (State.restart_within _))
    ((State.modPort_within ..).mono (by decide))

end Sys2Proof.Machine
end

