-- ==== Sys2Proof/Laws/Zones.lean ====
section
/-! SUPPORT. The Zone Arbiter's operations on one record keep it well formed, and name no crane that was not named
before or did not act. -/

namespace Sys2Proof.Machine

/-! ## Sets -/

@[simp] theorem mem_addTo {n : Nat} (a b : Fin n) (l : List (Fin n)) : b ∈ addTo a l ↔ b = a ∨ b ∈ l := by
  unfold addTo
  split
  · rename_i h
    constructor
    · exact Or.inr
    · rintro (rfl | h') <;> assumption
  · simp [List.mem_orderedInsert]

@[simp] theorem mem_union {n : Nat} (l m : List (Fin n)) (b : Fin n) : b ∈ union l m ↔ b ∈ l ∨ b ∈ m := by
  unfold union
  induction m generalizing l with
  | nil => simp
  | cons a m ih => simp [ih]; tauto

@[simp] theorem mem_ascending {n : Nat} (l : List (Fin n)) (b : Fin n) : b ∈ ascending l ↔ b ∈ l := by
  simp [ascending]

/-! ## The record of one zone -/

variable {r : ZoneRt}

theorem ZoneRt.ok_empty : ZoneRt.empty.ok := by simp [ZoneRt.ok, ZoneRt.empty]

theorem ZoneRt.ok_grant (k : Crane) (h : r.ok) (hs : r.sweep = []) : (r.grant k).ok := by
  obtain ⟨h1, h2, h3, h4, h5⟩ := h
  refine ⟨h1.filter _, ?_, ?_, h4, h5⟩
  · intro j hj
    simp only [ZoneRt.grant, Option.some.injEq] at hj
    subst hj
    exact ⟨by simp [ZoneRt.grant], hs⟩
  · intro j hj
    simp [ZoneRt.grant, hs] at hj

theorem ZoneRt.ok_admitClaims (h : r.ok) (hn : r.holder = none) : r.admitClaims.ok := by
  obtain ⟨h1, h2, h3, h4, h5⟩ := h
  refine ⟨h1.filter _, ?_, ?_, ?_, h5⟩
  · intro k hk; simp [ZoneRt.admitClaims, hn] at hk
  · intro k hk
    simp only [ZoneRt.admitClaims, mem_union] at hk
    simp only [ZoneRt.admitClaims, List.mem_filter, not_and]
    intro hw
    rcases hk with hk | hk
    · exact absurd hw (h3 k hk)
    · simp [hk]
  · simp [ZoneRt.admitClaims]

theorem ZoneRt.ok_grantNext (h : r.ok) : r.grantNext.ok := by
  unfold ZoneRt.grantNext
  split
  · exact h
  · rename_i hs
    have hs : r.sweep = [] := by simpa using hs
    split
    · exact h
    · split
      · split
        · exact ZoneRt.ok_grant _ h hs
        · exact h
      · split
        · exact ZoneRt.ok_grant _ h hs
        · split
          · exact h
          · exact ZoneRt.ok_grant _ h hs

theorem ZoneRt.ok_grantPass (h : r.ok) : r.grantPass.ok := by
  unfold ZoneRt.grantPass
  split
  · exact h
  · rename_i hn
    have hn : r.holder = none := by simpa using hn
    split
    · exact ZoneRt.ok_grantNext (ZoneRt.ok_admitClaims h hn)
    · exact ZoneRt.ok_grantNext h

theorem ZoneRt.ok_request (k : Crane) (h : r.ok) (hk : r.involves k = false) : (r.request k).ok := by
  obtain ⟨h1, h2, h3, h4, h5⟩ := h
  simp only [ZoneRt.involves, Bool.or_eq_false_iff, beq_eq_false_iff_ne, ne_eq, List.contains_eq_mem,
    decide_eq_false_iff_not] at hk
  obtain ⟨⟨hh, hs⟩, hw⟩ := hk
  unfold ZoneRt.request
  split
  · rename_i hg
    simp only [ZoneRt.grantsNow, Bool.and_eq_true, List.isEmpty_iff] at hg
    refine ⟨h1, ?_, h3, h4, h5⟩
    intro j hj
    simp only [Option.some.injEq] at hj
    subst hj
    exact ⟨hw, hg.1.1.2⟩
  · refine ⟨?_, ?_, ?_, h4, h5⟩
    · rw [List.nodup_append]
      refine ⟨h1, by simp, ?_⟩
      intro a ha b hb
      simp only [List.mem_singleton] at hb
      rintro rfl
      exact hw (hb ▸ ha)
    · intro j hj
      refine ⟨?_, (h2 j hj).2⟩
      simp only [List.mem_append, List.mem_singleton, not_or]
      refine ⟨(h2 j hj).1, ?_⟩
      rintro rfl
      exact hh hj
    · intro j hj
      simp only [List.mem_append, List.mem_singleton, not_or]
      exact ⟨h3 j hj, fun e => hs (e ▸ hj)⟩

theorem ZoneRt.ok_convert (k : Crane) (h : r.ok) : (r.convert k).ok := by
  obtain ⟨h1, h2, h3, h4, h5⟩ := h
  refine ⟨(h1.filter _).filter _, by simp [ZoneRt.convert], ?_, by simp [ZoneRt.convert, ZoneRt.admitClaims], h5⟩
  intro j hj
  simp only [ZoneRt.convert, ZoneRt.admitClaims, mem_addTo, mem_union] at hj
  simp only [ZoneRt.convert, ZoneRt.admitClaims, List.mem_filter, List.contains_eq_mem, Bool.not_eq_eq_eq_not,
    Bool.not_true, decide_eq_false_iff_not, bne_iff_ne, ne_eq, not_and, not_not, and_imp]
  intro hw hc
  rcases hj with hj | hj | hj
  · exact hj
  · exact absurd hw (h3 j hj)
  · exact absurd hj hc

theorem ZoneRt.ok_claim (k : Crane) (h : r.ok) : (r.claim k).ok := by
  have hok := h
  obtain ⟨h1, h2, h3, h4, h5⟩ := h
  unfold ZoneRt.claim
  split
  · exact hok
  · rename_i hk
    simp only [List.contains_eq_mem, Bool.or_eq_true, decide_eq_true_eq, not_or] at hk
    have add : ({ r with claims := addTo k r.claims } : ZoneRt).ok := by
      refine ⟨h1, h2, h3, ?_, h5⟩
      intro j hj
      simp only [mem_addTo] at hj
      rcases hj with rfl | hj
      · exact hk.1
      · exact h4 j hj
    split
    · exact add
    · split
      · rename_i hn
        refine ⟨h1.filter _, by simp [hn], ?_, ?_, h5⟩
        · intro j hj
          simp only [mem_addTo] at hj
          simp only [List.mem_filter, bne_iff_ne, ne_eq, not_and, not_not]
          rcases hj with rfl | hj
          · intro _; rfl
          · intro hw; exact absurd hw (h3 j hj)
        · intro j hj
          simp only [mem_addTo, not_or]
          exact ⟨fun e => hk.2 (e ▸ hj), h4 j hj⟩
      · split
        · exact ZoneRt.ok_convert k hok
        · exact add

theorem ZoneRt.ok_dropMover (k : Crane) (h : r.ok) : (r.dropMover k).ok := by
  unfold ZoneRt.dropMover
  split
  · exact ⟨h.1, h.2.1, h.2.2.1, h.2.2.2.1, by simp⟩
  · exact h

theorem ZoneRt.ok_withdrawSweep (k : Crane) (h : r.ok) : (r.withdrawSweep k).ok := by
  obtain ⟨h1, h2, h3, h4, h5⟩ := h
  refine ⟨h1, ?_, ?_, ?_, h5⟩
  · intro j hj; exact ⟨(h2 j hj).1, by simp [ZoneRt.withdrawSweep, (h2 j hj).2]⟩
  · intro j hj; exact h3 j (List.mem_of_mem_filter hj)
  · intro j hj hj'; exact h4 j (List.mem_of_mem_filter hj) (List.mem_of_mem_filter hj')

theorem ZoneRt.ok_remove (k : Crane) (h : r.ok) : (r.remove k).ok := by
  obtain ⟨h1, h2, h3, h4, h5⟩ := h
  refine ⟨h1.filter _, ?_, ?_, ?_, ?_⟩
  · intro j hj
    simp only [ZoneRt.remove] at hj
    split at hj
    · simp at hj
    · exact ⟨fun hm => (h2 j hj).1 (List.mem_of_mem_filter hm), by simp [ZoneRt.remove, (h2 j hj).2]⟩
  · intro j hj hj'; exact h3 j (List.mem_of_mem_filter hj) (List.mem_of_mem_filter hj')
  · intro j hj hj'; exact h4 j (List.mem_of_mem_filter hj) (List.mem_of_mem_filter hj')
  · intro j hj
    simp only [ZoneRt.remove] at hj
    split at hj
    · simp at hj
    · rename_i hne
      refine List.mem_filter.mpr ⟨h5 j hj, ?_⟩
      simp only [bne_iff_ne, ne_eq]
      rintro rfl
      simp [hj] at hne

theorem ZoneRt.ok_release (h : r.ok) : ({ r with holder := none } : ZoneRt).ok :=
  ⟨h.1, by simp, h.2.2.1, h.2.2.2.1, h.2.2.2.2⟩

theorem ZoneRt.ok_reservation (v : Option Reservation) (h : r.ok) : ({ r with reservation := v } : ZoneRt).ok := h

theorem ZoneRt.ok_guard (g : List Crane) (h : r.ok) : ({ r with guard := g } : ZoneRt).ok := h

/-! ## Whom a record names -/

theorem ZoneRt.names_grant {k j : Crane} (h : (r.grant k).names j) (hk : k ∈ r.waiting) : r.names j := by
  simp only [ZoneRt.names, ZoneRt.grant, Option.some.injEq, List.mem_filter] at h ⊢
  rcases h with rfl | h
  · tauto
  · tauto

theorem ZoneRt.names_admitClaims {j : Crane} (h : r.admitClaims.names j) : r.names j := by
  simp only [ZoneRt.names, ZoneRt.admitClaims, mem_union, List.mem_filter, List.not_mem_nil] at h ⊢
  tauto

theorem ZoneRt.names_grantNext {j : Crane} (h : r.grantNext.names j) : r.names j := by
  unfold ZoneRt.grantNext at h
  split at h
  · exact h
  · split at h
    · exact h
    · split at h
      · split at h
        · rename_i hw; exact ZoneRt.names_grant h (by simpa using hw)
        · exact h
      · split at h
        · rename_i hf; exact ZoneRt.names_grant h (List.mem_of_find?_eq_some hf)
        · split at h
          · exact h
          · rename_i hw; exact ZoneRt.names_grant h (by simp [hw])

theorem ZoneRt.names_grantPass {j : Crane} (h : r.grantPass.names j) : r.names j := by
  unfold ZoneRt.grantPass at h
  split at h
  · exact h
  · split at h
    · exact ZoneRt.names_admitClaims (ZoneRt.names_grantNext h)
    · exact ZoneRt.names_grantNext h

theorem ZoneRt.names_request {k j : Crane} (h : (r.request k).names j) : r.names j ∨ j = k := by
  unfold ZoneRt.request at h
  split at h
  · simp only [ZoneRt.names, Option.some.injEq] at h ⊢; tauto
  · simp only [ZoneRt.names, List.mem_append, List.mem_singleton] at h ⊢; tauto

theorem ZoneRt.names_convert {k j : Crane} (h : (r.convert k).names j) : r.names j ∨ j = k := by
  simp only [ZoneRt.names, ZoneRt.convert, ZoneRt.admitClaims, mem_addTo, mem_union, List.mem_filter,
    List.not_mem_nil, reduceCtorEq] at h ⊢
  tauto

theorem ZoneRt.names_claim {k j : Crane} (h : (r.claim k).names j) : r.names j ∨ j = k := by
  unfold ZoneRt.claim at h
  have add : ({ r with claims := addTo k r.claims } : ZoneRt).names j → r.names j ∨ j = k := by
    simp only [ZoneRt.names, mem_addTo]; tauto
  split at h
  · exact Or.inl h
  · split at h
    · exact add h
    · split at h
      · simp only [ZoneRt.names, mem_addTo, List.mem_filter] at h ⊢; tauto
      · split at h
        · exact ZoneRt.names_convert h
        · exact add h

theorem ZoneRt.names_remove {k j : Crane} (h : (r.remove k).names j) : r.names j := by
  simp only [ZoneRt.names, ZoneRt.remove, List.mem_filter] at h ⊢
  rcases h with h | h | h | h | h | h | h
  · split at h
    · simp at h
    · exact Or.inl h
  · tauto
  · tauto
  · tauto
  · tauto
  · tauto
  · split at h
    · simp at h
    · tauto

theorem ZoneRt.names_dropMover {k j : Crane} (h : (r.dropMover k).names j) : r.names j := by
  unfold ZoneRt.dropMover at h
  split at h
  · simp only [ZoneRt.names] at h ⊢; simp at h; tauto
  · exact h

theorem ZoneRt.names_withdrawSweep {k j : Crane} (h : (r.withdrawSweep k).names j) : r.names j := by
  simp only [ZoneRt.names, ZoneRt.withdrawSweep, List.mem_filter] at h ⊢
  tauto

/-! ## The end of an action -/

theorem State.zone_conflictEvents (s : State) (z y : Zone) (a : Crane) (p q : ZoneRt) :
    (s.conflictEvents z a p q).zone y = s.zone y := by
  unfold State.conflictEvents
  split
  · simp [State.zone]
  · split
    · simp [State.zone]
    · rfl

theorem State.zone_postClearance (s : State) (z y : Zone) (r : ZoneRt) : (s.postClearance z r).zone y = s.zone y := by
  unfold State.postClearance
  split <;> rfl

/-- What the end of an action leaves in each zone: the record the action's own changes made, with a grant pass when
the action asks for one or ended a contest (R50). -/
theorem State.zone_settle (s : State) (z y : Zone) (a : Crane) (p q : ZoneRt) (pass always : Bool) :
    (s.settle z a p q pass always).zone y =
      if y = z then (if pass || (p.contested && !q.contested) then q.grantPass else q) else s.zone y := by
  unfold State.settle
  dsimp only
  rw [State.zone_conflictEvents]
  generalize (if pass || (p.contested && !q.contested) then q.grantPass else q) = after
  split
  · rw [State.zone_postClearance, State.zone_setZone]
  · rw [State.zone_setZone]

/-- The record after an action is well formed if the action's own changes keep it so. -/
theorem State.settle_ok (s : State) (z : Zone) (a : Crane) (p q : ZoneRt) (pass always : Bool) (h : q.ok) :
    ((s.settle z a p q pass always).zone z).ok := by
  rw [State.zone_settle, if_pos rfl]
  split
  · exact ZoneRt.ok_grantPass h
  · exact h

end Sys2Proof.Machine
end

