-- ==== Sys2Proof/Laws/Courses.lean ====
section
/-! SUPPORT. Events appended in a row, and what ending an action at a shared zone comes to: the zone's record, the events
and the notices of `Course.act`; and the call conditions of a booking. -/

namespace Sys2Proof.Machine

/-! ## Events appended -/

variable {s t u : State}

theorem State.logged_of_same (he : t.events = s.events) (ho : t.overflow = s.overflow) : s.logged t [] := by
  intro h
  simp [he, ho, h]

theorem State.logged_refl (s : State) : s.logged s [] := State.logged_of_same rfl rfl

theorem State.logged_append (s : State) (e : Event) : s.logged (s.append e) [e] := by
  intro h
  unfold State.append
  split
  · rename_i hl
    have : s.events.length < 64 := hl
    simp [show s.events.length + 1 - 64 = 0 by omega, show ¬ 64 < s.events.length + 1 by omega]
  · rename_i hl
    have : ¬ s.events.length < 64 := hl
    have h64 : s.events.length = 64 := by omega
    simp [h64, List.drop_append]

theorem State.logged_emit (s : State) (kind : EventKind) (crane zone booking : Nat) (a b : Int) :
    s.logged (s.emit kind crane zone booking a b) [s.record kind crane zone booking a b] := State.logged_append s _

/-- What two steps append, one after the other. -/
theorem State.logged_trans {l m : List Event} (h1 : s.logged t l) (h2 : t.logged u m) : s.logged u (l ++ m) := by
  intro h
  obtain ⟨e1, o1⟩ := h1 h
  have hl : t.events.length = s.events.length + l.length - (s.events.length + l.length - 64) := by
    rw [e1, List.length_drop, List.length_append]
  obtain ⟨e2, o2⟩ := h2 (by omega)
  constructor
  · rw [e2, hl, e1, List.length_append, ← List.append_assoc,
      ← List.drop_append_of_le_length (by rw [List.length_append]; omega), List.drop_drop]
    congr 1
    omega
  · rw [o2, o1, hl, List.length_append, Bool.or_assoc]
    congr 1
    rw [← Bool.decide_or]
    congr 1
    rw [eq_iff_iff]
    omega

/-! ## The end of an action at a shared zone -/

/-- `trespassers` are the model's intruders. -/
theorem ZoneRt.trespassers_eq (r : ZoneRt) : r.trespassers = r.intruders := by
  unfold ZoneRt.trespassers ZoneRt.intruders
  congr 1
  funext j
  by_cases h : r.holder = some j <;> by_cases h' : j ∈ r.sweep <;> simp [h, h']

/-- The conflict event of an action (R52). -/
theorem State.conflictEvents_logged (s : State) (z : Zone) (k : Crane) (p q : ZoneRt) :
    (s.conflictEvents z k p q).notices = s.notices ∧
    s.logged (s.conflictEvents z k p q) (match p.trespassers, q.trespassers with
      | [], j :: l =>
        [s.record .conflictBegin (number (if k ∈ j :: l then k else (j :: l).headD k)) (number z) 0 (l.length + 1) 0]
      | j :: l, [] => [s.record .conflictEnd (number (if k ∈ j :: l then k else (j :: l).headD k)) (number z) 0 0 0]
      | _, _ => []) := by
  unfold State.conflictEvents ZoneRt.contested conflictCrane
  simp only [ZoneRt.trespassers_eq]
  rcases p.intruders with _ | ⟨i, m⟩ <;> rcases q.intruders with _ | ⟨j, l⟩
  · exact ⟨rfl, State.logged_refl s⟩
  · refine ⟨by simp, ?_⟩
    simpa using State.logged_emit s .conflictBegin _ (number z) 0 (l.length + 1) 0
  · refine ⟨by simp, ?_⟩
    simpa using State.logged_emit s .conflictEnd _ (number z) 0 0 0
  · exact ⟨rfl, State.logged_refl s⟩

/-- The notice of R65: posted for a reserved zone where it is due, with whether the zone is clear for its booking. -/
theorem State.postClearance_posts (s : State) (z : Zone) (r : ZoneRt) (due : Bool) :
    (if due then s.postClearance z r else s).notices = s.notices ++ (match r.reservation with
      | none => []
      | some v =>
        if due then [.clearance z v.id (decide ((r.holder = none ∨ r.holder = some v.crane) ∧ r.sweep = []))] else []) ∧
    s.logged (if due then s.postClearance z r else s) [] ∧ (if due then s.postClearance z r else s).clock = s.clock := by
  unfold State.postClearance ZoneRt.clearFor
  rcases r.reservation with _ | v <;> cases due
  case some.true =>
    refine ⟨?_, State.logged_of_same rfl rfl, rfl⟩
    simp only [if_true, State.post]
    congr 3
    rw [Bool.eq_iff_iff]
    simp [List.isEmpty_iff]
  all_goals exact ⟨by simp, State.logged_of_same (by simp) (by simp), by simp⟩

/-- When a clearance notice is due (R49, R65). -/
theorem noticeDue_eq (p q r : ZoneRt) : noticeDue p q r =
    decide (p.holder ≠ r.holder ∨ (p.sweep ≠ [] ∧ r.sweep = []) ∨ q.sweep ≠ r.sweep) := by
  rw [Bool.eq_iff_iff]
  simp [noticeDue, or_assoc]

/-- The end of an action whose own changes took the zone's record to `r` gives the record of `Course.act`, appends the
event it adds and posts the notice it adds. -/
theorem State.settle_course (s : State) (z : Zone) (k : Crane) (q : Course) (r : ZoneRt) (pass tell : Bool)
    (hq : q.record = s.zone z) :
    (s.settle z k (s.zone z) r pass tell).zone z = (q.act s z k r pass tell).record ∧
      ∃ new posted, s.logged (s.settle z k (s.zone z) r pass tell) new ∧
        (q.act s z k r pass tell).events = q.events ++ new ∧
        (s.settle z k (s.zone z) r pass tell).notices = s.notices ++ posted ∧
        (q.act s z k r pass tell).notices = q.notices ++ posted := by
  constructor
  · rw [State.zone_settle, if_pos rfl]
    simp [Course.act, hq, ZoneRt.trespassers_eq, ZoneRt.contested]
  · unfold State.settle Course.act
    simp only [hq, ZoneRt.contested, ZoneRt.trespassers_eq, Bool.not_not, noticeDue_eq]
    generalize (if (pass || !(s.zone z).intruders.isEmpty && r.intruders.isEmpty) = true then r.grantPass else r) = after
    generalize (tell || decide ((s.zone z).holder ≠ after.holder ∨ ((s.zone z).sweep ≠ [] ∧ after.sweep = []) ∨
      r.sweep ≠ after.sweep)) = due
    obtain ⟨n1, l1, c1⟩ := State.postClearance_posts (s.setZone z after) z after due
    generalize (if due = true then (s.setZone z after).postClearance z after else s.setZone z after) = u at n1 l1 c1
    obtain ⟨n2, l2⟩ := State.conflictEvents_logged u z k (s.zone z) after
    refine ⟨_, _, State.logged_trans (State.logged_trans (State.logged_of_same rfl rfl) l1) l2, ?_, n2.trans n1, rfl⟩
    simp only [ZoneRt.trespassers_eq]
    rcases (s.zone z).intruders with _ | ⟨_, _⟩ <;> rcases after.intruders with _ | ⟨_, _⟩ <;>
      simp [State.record, c1]

/-! ## The call conditions -/

/-- `obstacle` is the model's cause of the first call condition that fails (R111). -/
theorem State.obstacle_eq (s : State) (b : Booking) : s.obstacle b = s.callFailure b := by
  have allows : s.windAllows b = true ↔ (s.wind[b.crane].level = .calm ∨ s.wind[b.crane].level = .caution) ∧
      s.wind[b.crane].values ≠ [] ∧ (s.wind[b.crane].values.sum + s.wind[b.crane].values.length - 1) /
        s.wind[b.crane].values.length ≤ b.windLimit.getD (s.craneRec b.crane).stopGust := by
    unfold State.windAllows WindRec.gust
    generalize s.wind[b.crane] = w
    by_cases h : w.values = [] <;> rcases b.windLimit with _ | _ <;> simp [ceilDiv, h]
  unfold State.obstacle State.callFailure
  simp only [← allows]
  cases s.windAllows b <;> rfl

end Sys2Proof.Machine
end

