-- ==== Sys2Proof/Laws/Octets.lean ====
section
/-! SUPPORT. Numbers in octets: what is put into octets is read back, and crane, zone and mast numbers name their
indices. -/

namespace Sys2Proof.Machine

/-! ## Crane, zone and mast numbers -/

@[simp] theorem pick_number {m : Nat} (i : Fin m) : (pick (number i) : Option (Fin m)) = some i := by
  unfold pick number
  rw [dif_pos ⟨by omega, by omega⟩]
  simp

theorem pick_eq_none {m n : Nat} (h : n = 0 ∨ m < n) : (pick n : Option (Fin m)) = none := by
  unfold pick
  rw [dif_neg (by omega)]

theorem toNat_ofNat_number {m : Nat} (hm : m < 256) (i : Fin m) : (BitVec.ofNat 8 (number i)).toNat = number i := by
  have := i.isLt
  simp [number]
  omega

@[simp] theorem toNat_craneNumber (k : Crane) : (BitVec.ofNat 8 (number k)).toNat = number k :=
  toNat_ofNat_number (by decide) k

@[simp] theorem toNat_zoneNumber (z : Zone) : (BitVec.ofNat 8 (number z)).toNat = number z :=
  toNat_ofNat_number (by decide) z

@[simp] theorem toNat_mastNumber (m : Mast) : (BitVec.ofNat 8 (number m)).toNat = number m :=
  toNat_ofNat_number (by decide) m

/-! ## Reading octets -/

@[simp] theorem oct_cons_zero (o : Byte) (p : List Byte) : oct (o :: p) 0 = o.toNat := rfl

@[simp] theorem oct_cons_succ (o : Byte) (p : List Byte) (i : Nat) : oct (o :: p) (i + 1) = oct p i := by
  simp [oct]

theorem oct_append_right (p q : List Byte) (i : Nat) (h : p.length ≤ i) : oct (p ++ q) i = oct q (i - p.length) := by
  simp only [oct, List.getD_append_right _ _ _ _ h]

theorem oct_append_left (p q : List Byte) (i : Nat) (h : i < p.length) : oct (p ++ q) i = oct p i := by
  simp only [oct, List.getD_append _ _ _ _ h]

theorem oct_lt (p : List Byte) (i : Nat) : oct p i < 256 := (p.getD i 0).isLt

theorem append_toNat {n m : Nat} (a : BitVec n) (b : BitVec m) :
    (a ++ b).toNat = a.toNat * 2 ^ m + b.toNat := by
  rw [BitVec.toNat_append, Nat.shiftLeft_eq, Nat.mul_comm, Nat.two_pow_add_eq_or_of_lt b.isLt]

theorem oct2_pair (a b : Byte) : oct2 [a, b] 0 = (a ++ b).toNat := by
  simp only [oct2, oct_cons_zero, oct_cons_succ]
  rw [append_toNat]
  omega

theorem oct4_quad (a b c d : Byte) : oct4 [a, b, c, d] 0 = (a ++ b ++ c ++ d).toNat := by
  simp only [oct4, oct2, oct_cons_zero, oct_cons_succ]
  rw [append_toNat, append_toNat, append_toNat]
  omega

/-! ## Octets written and read back -/

@[simp] theorem put1_length (n : Nat) : (put1 n).length = 1 := rfl
@[simp] theorem put2_length (n : Nat) : (put2 n).length = 2 := rfl
@[simp] theorem put4_length (n : Nat) : (put4 n).length = 4 := rfl

theorem oct_put1 {n : Nat} (h : n < 256) (q : List Byte) : oct (put1 n ++ q) 0 = n := by
  simp [put1]
  omega

theorem oct2_put2 {n : Nat} (h : n < 65536) (q : List Byte) : oct2 (put2 n ++ q) 0 = n := by
  simp [put2, oct2]
  omega

theorem oct4_put4 {n : Nat} (h : n < 4294967296) (q : List Byte) : oct4 (put4 n ++ q) 0 = n := by
  simp [put4, put2, oct4, oct2]
  omega

theorem put2_toNat (x : BitVec 16) : put2 x.toNat = [x.extractLsb' 8 8, x.extractLsb' 0 8] := by
  have h0 : BitVec.ofNat 8 (x.toNat / 256) = x.extractLsb' 8 8 := by
    apply BitVec.eq_of_toNat_eq
    simp [Nat.shiftRight_eq_div_pow]
  have h1 : BitVec.ofNat 8 x.toNat = x.extractLsb' 0 8 := by
    apply BitVec.eq_of_toNat_eq
    simp
  simp only [put2, h0, h1]

/-! ## A request that the port takes -/

/-- What taking a request comes to: its owner's answer on the state without the frame, and the reply to it. -/
theorem State.serve_of_takes {s : State} {typ seq : Byte} {p : List Byte} (own : State → Answer)
    (h : s.takes typ seq p) :
    s.serve { typ := typ, seq := seq, payload := p } own =
      (own s.taken).state.answered typ seq (own s.taken).code (own s.taken).payload := by
  rw [State.serve_of_canTake own h, State.reply_eq_answered]

theorem withLength_of_eq {n : Nat} {p : List Byte} (h : p.length = n) (own : State → Answer) (s : State) :
    withLength n p own s = own s := if_pos h

theorem withLength_of_ne {n : Nat} {p : List Byte} (h : p.length ≠ n) (own : State → Answer) (s : State) :
    withLength n p own s = s.refuse .badLength := if_neg h

@[simp] theorem withCrane_number (k : Crane) (own : Crane → State → Answer) (s : State) :
    withCrane (number k) own s = own k s := by
  simp [withCrane]

@[simp] theorem withZone_number (z : Zone) (own : Zone → State → Answer) (s : State) :
    withZone (number z) own s = own z s := by
  simp [withZone]

theorem inSetup_of_setup {s : State} (h : s.mode = .setup) (own : State → Answer) : inSetup own s = own s := by
  simp [inSetup, h]

end Sys2Proof.Machine
end

