-- ==== Sys2Proof/Laws/Wires.lean ====
section
/-! SUPPORT. A character sent on an undisturbed line is received as it was sent, at each of the three receivers. -/

namespace Sys2Proof.Machine

/-! ## Runs of samples -/

/-- None of the samples brings the receiver anything. -/
def Receiver.quiet (size : Nat) : Receiver → Samples → Bool
  | _, [] => true
  | r, b :: x => (r.sample size b).2 == .nothing && (r.sample size b).1.quiet size x

theorem Receiver.after_cons (size : Nat) (r : Receiver) (b : Bool) (x : Samples) :
    r.after size (b :: x) = (r.sample size b).1.after size x := rfl

theorem Receiver.after_append (size : Nat) (r : Receiver) (x y : Samples) :
    r.after size (x ++ y) = (r.after size x).after size y := List.foldl_append

/-- A line that rests at a level brings a hunting receiver that has seen it nothing; in particular a line held at 0
after a framing error (R128). -/
theorem Receiver.rest (size : Nat) (b : Bool) (n : Nat) :
    (Receiver.hunt b).quiet size (List.replicate n b) = true ∧
      (Receiver.hunt b).after size (List.replicate n b) = .hunt b := by
  induction n with
  | zero => exact ⟨rfl, rfl⟩
  | succ n ih =>
    have h : (Receiver.hunt b).sample size b = (.hunt b, .nothing) := by cases b <;> rfl
    simp only [List.replicate_succ, Receiver.quiet, Receiver.after_cons, h]
    exact ⟨by simpa using ih.1, ih.2⟩

theorem Receiver.startBit_accepted {size : Nat} (h : 1 < size) :
    (Receiver.char 8 0 []).sample size false = (.char 9 0 [false], .start) := by
  have : ¬ (1 = size) := by omega
  simp [Receiver.sample, centreSample, Config.samplesPerBit, this]

/-- The last seven samples of a bit. -/
theorem Receiver.bitTail (size : Nat) (bits : List Bool) (b : Bool) :
    (Receiver.char 9 0 bits).quiet size (List.replicate 7 b) = true ∧
      (Receiver.char 9 0 bits).after size (List.replicate 7 b) = .char 16 0 bits := ⟨rfl, rfl⟩

/-- The first eight samples of a bit. -/
theorem Receiver.bitHead (size : Nat) (bits : List Bool) (b : Bool) :
    (Receiver.char 16 0 bits).quiet size (List.replicate 8 b) = true ∧
      (Receiver.char 16 0 bits).after size (List.replicate 8 b) = .char 8 (2 * b.toNat) bits := by
  cases b <;> exact ⟨rfl, rfl⟩

theorem Receiver.bitDecided {size : Nat} {bits : List Bool} (b : Bool) (hb : bits ≠ []) (h : bits.length + 1 ≠ size) :
    (Receiver.char 8 (2 * b.toNat) bits).sample size b = (.char 9 0 (bits ++ [b]), .nothing) := by
  cases b <;> simp [Receiver.sample, centreSample, Config.samplesPerBit, hb, h]

theorem Receiver.stopDecided {size : Nat} {bits : List Bool} (b : Bool) (hb : bits ≠ []) (h : bits.length + 1 = size) :
    (Receiver.char 8 (2 * b.toNat) bits).sample size b = (.hunt b, .character (bits ++ [b])) := by
  cases b <;> simp [Receiver.sample, centreSample, Config.samplesPerBit, hb, h]

/-- One whole bit within a character. -/
theorem Receiver.bit {size : Nat} {bits : List Bool} (b : Bool) (hb : bits ≠ []) (h : bits.length + 1 ≠ size) :
    (Receiver.char 16 0 bits).quiet size (List.replicate 16 b) = true ∧
      (Receiver.char 16 0 bits).after size (List.replicate 16 b) = .char 16 0 (bits ++ [b]) := by
  have e : List.replicate 16 b = List.replicate 8 b ++ b :: List.replicate 7 b := rfl
  refine ⟨?_, ?_⟩
  · cases b <;>
      simp [List.replicate_succ, Receiver.quiet, Receiver.sample, centreSample, Config.samplesPerBit, hb, h]
  · rw [e, Receiver.after_append, (Receiver.bitHead size bits b).2, Receiver.after_cons,
      Receiver.bitDecided b hb h]
    exact (Receiver.bitTail size (bits ++ [b]) b).2

theorem Receiver.quiet_append (size : Nat) (x y : Samples) :
    ∀ r : Receiver, r.quiet size (x ++ y) = (r.quiet size x && (r.after size x).quiet size y) := by
  induction x with
  | nil => intro r; rfl
  | cons b x ih => intro r; simp [Receiver.quiet, Receiver.after_cons, ih, Bool.and_assoc]

/-- The bits of a character between its start bit and its stop bit. -/
theorem Receiver.middle {size : Nat} (m : List Bool) :
    ∀ bits : List Bool, bits ≠ [] → bits.length + m.length < size →
      (Receiver.char 16 0 bits).quiet size ((m.map (List.replicate 16)).flatten) = true ∧
        (Receiver.char 16 0 bits).after size ((m.map (List.replicate 16)).flatten) = .char 16 0 (bits ++ m) := by
  induction m with
  | nil => intro bits _ _; exact ⟨rfl, by simp [Receiver.after]⟩
  | cons b m ih =>
    intro bits hb hl
    simp only [List.length_cons] at hl
    obtain ⟨q, a⟩ := Receiver.bit (size := size) b hb (by omega)
    obtain ⟨q', a'⟩ := ih (bits ++ [b]) (by simp) (by simp; omega)
    simp only [List.map_cons, List.flatten_cons, Receiver.quiet_append, Receiver.after_append, q, a, q', a']
    simp

/-- The samples of a character with these bits between start and stop bit, cut where the receiver hears something. -/
theorem wave_eq (m : List Bool) (stop : Bool) :
    wave ([false] ++ m ++ [stop]) =
      (true :: List.replicate 8 false) ++ false ::
        ((List.replicate 7 false ++ (m.map (List.replicate 16)).flatten ++ List.replicate 8 stop) ++
          stop :: List.replicate 7 stop) := by
  simp only [wave, Config.samplesPerBit, List.map_append, List.map_cons, List.map_nil, List.flatten_append,
    List.flatten_cons, List.flatten_nil, List.append_nil, List.append_assoc, List.cons_append]
  simp [List.replicate_succ]

theorem Receiver.waveHead (size : Nat) (last : Bool) :
    (Receiver.hunt last).quiet size (true :: List.replicate 8 false) = true ∧
      (Receiver.hunt last).after size (true :: List.replicate 8 false) = .char 8 0 [] := by
  cases last <;> exact ⟨rfl, rfl⟩

theorem Receiver.waveBody {size : Nat} {m : List Bool} (h : m.length + 2 = size) (stop : Bool) :
    let x := List.replicate 7 false ++ (m.map (List.replicate 16)).flatten ++ List.replicate 8 stop
    (Receiver.char 9 0 [false]).quiet size x = true ∧
      (Receiver.char 9 0 [false]).after size x = .char 8 (2 * stop.toNat) ([false] ++ m) := by
  obtain ⟨q1, a1⟩ := Receiver.bitTail size [false] false
  obtain ⟨q2, a2⟩ := Receiver.middle (size := size) m [false] (by simp) (by simp; omega)
  obtain ⟨q3, a3⟩ := Receiver.bitHead size ([false] ++ m) stop
  simp only [Receiver.quiet_append, Receiver.after_append, a1, a2, a3, q1, q2, q3, Bool.and_self, and_self]

/-! ## The octet of a character -/

theorem octetOf_bits (o : Byte) (rest : List Bool) : octetOf ([false] ++ octetBits o ++ rest) = o := by
  apply BitVec.eq_of_getLsbD_eq
  intro i hi
  have e : octetOf ([false] ++ octetBits o ++ rest) = octetOf ([false] ++ octetBits o) := rfl
  rw [e]
  clear e
  revert i
  revert o
  decide

theorem octetBits_length (o : Byte) : (octetBits o).length = 8 := rfl

@[simp] theorem lineChar_charBits (o : Byte) (tenth stop : Bool) :
    lineChar (charBits o tenth stop) = { octet := o, tenth := tenth, framing := !stop } := by
  have h := octetOf_bits o [tenth, stop]
  simp only [lineChar, charBits, h]
  rfl

@[simp] theorem portChar_portBits (o : Byte) : portChar (portBits o) = { octet := o, framing := false } := by
  have h := octetOf_bits o [true]
  simp only [portChar, portBits, h]
  rfl

/-! ## The receiver on RX -/

theorem Port.take_append (p : Port) (x y : Samples) : p.take (x ++ y) = (p.take x).take y := List.foldl_append

theorem Port.take_quiet (x : Samples) :
    ∀ p : Port, p.rx.quiet Config.portBits x = true → p.take x = { p with rx := p.rx.after Config.portBits x } := by
  induction x with
  | nil => intro p _; rfl
  | cons b x ih =>
    intro p h
    simp only [Receiver.quiet, Bool.and_eq_true, beq_iff_eq] at h
    have e : p.sample b = { p with rx := (p.rx.sample Config.portBits b).1 } := by simp [Port.sample, h.1, Port.hear]
    show Port.take (p.sample b) x = _
    rw [ih _ (by rw [e]; exact h.2), e]
    rfl

@[simp] theorem Port.octet_rx (p : Port) (c : PortChar) : (p.octet c).rx = p.rx := by
  unfold Port.octet
  repeat' split
  all_goals first | rfl | skip
  unfold Port.frameDone
  repeat' split
  all_goals rfl

theorem Port.take_cons (p : Port) (b : Bool) (x : Samples) : p.take (b :: x) = (p.sample b).take x := rfl

theorem Port.sample_eq {p : Port} {b : Bool} {r r' : Receiver} {h : Heard} (hp : p.rx = r)
    (hs : r.sample Config.portBits b = (r', h)) : p.sample b = { p with rx := r' }.hear h := by
  subst hp
  simp only [Port.sample, hs]

theorem Port.take_quiet' {p : Port} {x : Samples} {r r' : Receiver} (hp : p.rx = r)
    (h : r.quiet Config.portBits x = true ∧ r.after Config.portBits x = r') : p.take x = { p with rx := r' } := by
  subst hp
  rw [Port.take_quiet x p h.1, h.2]

/-- A character of eight bits between start and stop bit, that arrives on RX undisturbed, is taken by the assembler. -/
theorem Port.take_wave {p : Port} {last : Bool} {m : List Bool} (stop : Bool) (h : p.rx = .hunt last)
    (hm : m.length + 2 = Config.portBits) :
    p.take (wave ([false] ++ m ++ [stop])) =
      { p with rx := .hunt stop }.octet (portChar ([false] ++ m ++ [stop])) := by
  rw [wave_eq, Port.take_append, Port.take_quiet' h (Receiver.waveHead _ last), Port.take_cons,
    Port.sample_eq rfl (Receiver.startBit_accepted (by decide)), Port.take_append]
  simp only [Port.hear]
  rw [Port.take_quiet' (p := { p with rx := .char 9 0 [false] }) rfl (Receiver.waveBody hm stop), Port.take_cons,
    Port.sample_eq rfl (Receiver.stopDecided stop (by simp) (by simp; omega))]
  simp only [Port.hear]
  rw [Port.take_quiet' (Port.octet_rx _ _) (Receiver.rest _ stop 7)]
  have : ∀ q : Port, q.rx = .hunt stop → { q with rx := .hunt stop } = q := by
    rintro ⟨⟩ hq
    simp_all
  exact this _ (Port.octet_rx _ _)

/-- An octet that arrives on RX undisturbed is taken by the assembler. -/
theorem Port.take_portWave {p : Port} {last : Bool} (o : Byte) (h : p.rx = .hunt last) :
    p.take (wave (portBits o)) = { p with rx := .hunt true }.octet { octet := o, framing := false } := by
  rw [← portChar_portBits o]
  exact Port.take_wave true h rfl

/-! ## The receiver of a crane line -/

theorem State.modLine_modLine (s : State) (k : Crane) (f g : Line → Line) :
    (s.modLine k f).modLine k g = s.modLine k (fun l => g (f l)) := by
  simp [State.modLine, State.line]

theorem State.modLine_same (s : State) (k : Crane) {f : Line → Line} (h : f (s.line k) = s.line k) :
    s.modLine k f = s := by
  have : s.lines.set k (s.line k) = s.lines := by simp [State.line]
  simp only [State.modLine, h, this]

theorem State.sampleLines_append (s : State) (k : Crane) (x y : Samples) :
    s.sampleLines k (x ++ y) = (s.sampleLines k x).sampleLines k y := List.foldl_append

theorem State.sampleLines_cons (s : State) (k : Crane) (b : Bool) (x : Samples) :
    s.sampleLines k (b :: x) = (State.sampleLine k s b).sampleLines k x := rfl

/-- A receiver that does not listen takes no samples (R126). -/
theorem State.sampleLines_deaf {s : State} {k : Crane} (h : (s.line k).listens = false) (x : Samples) :
    s.sampleLines k x = s := by
  induction x with
  | nil => rfl
  | cons b x ih => rw [State.sampleLines_cons, State.sampleLine, if_neg (by simp [h]), ih]

theorem State.sampleLine_eq {s : State} {k : Crane} {b : Bool} {r r' : Receiver} {h : Heard}
    (hl : (s.line k).listens = true) (hr : (s.line k).rx = r) (hs : r.sample Config.lineBits b = (r', h)) :
    State.sampleLine k s b = (s.modLine k (fun l => { l with rx := r' })).hear k h := by
  subst hr
  simp only [State.sampleLine, hl, if_true, hs]

theorem State.sampleLines_quiet {k : Crane} (x : Samples) :
    ∀ {s : State} {r r' : Receiver}, (s.line k).listens = true → (s.line k).rx = r →
      (r.quiet Config.lineBits x = true ∧ r.after Config.lineBits x = r') →
      s.sampleLines k x = s.modLine k (fun l => { l with rx := r' }) := by
  induction x with
  | nil =>
    rintro s r r' - rfl ⟨-, rfl⟩
    exact (State.modLine_same s k rfl).symm
  | cons b x ih =>
    rintro s r r' hl hr ⟨q, a⟩
    simp only [Receiver.quiet, Bool.and_eq_true, beq_iff_eq] at q
    have hs : r.sample Config.lineBits b = ((r.sample Config.lineBits b).1, .nothing) := Prod.ext rfl q.1
    rw [State.sampleLines_cons, State.sampleLine_eq hl hr hs, State.hear,
      ih (by simpa [Line.listens, Line.de] using hl) (by simp) ⟨q.2, a⟩, State.modLine_modLine]

/-- The line's receiver is as it was, or a frame or a wake pulse now goes out, or the line has no rate. -/
def Line.rxKept (l m : Line) : Prop := m.rx = l.rx ∨ m.listens = false

theorem State.emit_line (s : State) (kind : EventKind) (c z b : Nat) (x y : Int) (j : Crane) :
    (s.emit kind c z b x y).line j = s.line j := by
  unfold State.emit State.append State.line
  split <;> rfl

theorem State.beginExchange_deaf (s : State) (k : Crane) (kind : ExchangeKind) (frame : List Byte) :
    ((s.beginExchange k kind frame).line k).listens = false := by
  simp [State.beginExchange, Line.listens, Line.de]

theorem State.sendWakeCheck_deaf (s : State) (k : Crane) : ((s.sendWakeCheck k).line k).listens = false := by
  simp [State.sendWakeCheck, State.beginExchange, Line.listens, Line.de]

theorem State.enterWaking_deaf (s : State) (k : Crane) (b : Bool) :
    ((s.enterWaking k b).line k).listens = false := by
  simp [State.enterWaking, State.setLink, State.post, State.line, State.modLine, Line.listens, Line.de]

theorem State.setLink_rx (s : State) (k : Crane) (n : LinkState) : ((s.setLink k n).line k).rx = (s.line k).rx := by
  simp [State.setLink, State.post, State.line, State.modLine]

theorem State.enterLost_rx (s : State) (k : Crane) (c : LinkCause) :
    ((s.enterLost k c).line k).rx = (s.line k).rx := by
  simp only [State.enterLost, State.setLink_rx, State.emitCrane, State.emit_line, State.line_modLine_self]
  rfl

theorem State.enterMismatch_rx (s : State) (k : Crane) (c : LinkCause) (b : Int) :
    ((s.enterMismatch k c b).line k).rx = (s.line k).rx := by
  simp only [State.enterMismatch, State.setLink_rx, State.emitCrane, State.emit_line, State.line_modLine_self]
  rfl

theorem State.enterOnline_rx (s : State) (k : Crane) (t : Byte) :
    ((s.enterOnline k t).line k).rx = (s.line k).rx := by
  simp only [State.enterOnline, State.line_modLine_self, State.setLink_rx]
  split <;> simp only [State.emitCrane, State.emit_line, State.line_modLine_self] <;> rfl

theorem State.exchangeFailed_rx (s : State) (k : Crane) (f : Faults) :
    (s.line k).rxKept ((s.exchangeFailed k f).line k) := by
  have d : ((s.dropExchange k).line k).rx = (s.line k).rx := by simp [State.dropExchange]
  have df : (((s.dropExchange k).setFaults k f).line k).rx = (s.line k).rx := by
    simp [State.dropExchange, State.setFaults]
  unfold State.exchangeFailed
  dsimp only
  split
  · unfold State.searchFailed
    dsimp only
    split
    · exact .inr (State.sendWakeCheck_deaf _ _)
    · right; simp [Line.listens]
  · unfold State.checkFailed
    dsimp only
    split
    · exact .inr (State.sendWakeCheck_deaf _ _)
    · exact .inr (State.enterWaking_deaf _ _ _)
  · exact .inl df
  · unfold State.taggingFailed
    dsimp only
    split
    · right; simp [State.tagAttempt, State.beginExchange, Line.listens, Line.de]
    · left; rw [State.enterLost_rx, State.line_modLine_self]; exact df
  · unfold State.countMiss
    dsimp only
    split
    · left; rw [State.enterLost_rx, State.line_modLine_self]; exact df
    · left; rw [State.line_modLine_self]; exact df
  all_goals exact .inl d

theorem State.ownSample_line (s : State) (k : Crane) (v : Nat) (j : Crane) : (s.ownSample k v).line j = s.line j := by
  unfold State.ownSample
  split <;> rfl

theorem State.judge_rx (s : State) (k : Crane) (x : ExchangeKind) (o : List Byte) (p f : Bool) :
    (s.line k).rxKept ((s.judge k x o p f).line k) := by
  have d : ((s.dropExchange k).line k).rx = (s.line k).rx := by simp [State.dropExchange]
  unfold State.judge
  dsimp only
  split
  · exact State.exchangeFailed_rx ..
  · split
    · unfold State.takeEcho
      dsimp only
      split
      · left; rw [State.enterMismatch_rx]; exact d
      · split
        · right; simp [State.enterWaitready, State.sendReadyQ, State.beginExchange, Line.listens, Line.de]
        · exact .inr (State.sendWakeCheck_deaf _ _)
    · unfold State.takeReady
      dsimp only
      split
      · right; simp [State.enterTagging, State.tagAttempt, State.beginExchange, Line.listens, Line.de]
      · exact .inl d
    · unfold State.takeIdent
      dsimp only
      split
      · left; rw [State.enterOnline_rx]
      · left; rw [State.enterMismatch_rx]
    · unfold State.takeReport
      dsimp only
      left
      split
      · rw [State.ownSample_line, State.line_modLine_self]
      · rw [State.line_modLine_self]

theorem State.takeChar_rx (s : State) (k : Crane) (c : LineChar) :
    (s.line k).rxKept ((s.takeChar k c).line k) := by
  unfold State.takeChar
  split
  · exact .inl rfl
  · split
    · unfold State.extendReply
      split
      · exact State.judge_rx ..
      · split
        · exact State.exchangeFailed_rx ..
        · left; simp
    all_goals exact .inl rfl

/-- A character of eight data bits and a tenth bit that arrives undisturbed on a crane line begins the reply, if none has
begun, and is then taken (R128, R132). -/
theorem State.sampleLines_wave {s : State} {k : Crane} {last : Bool} (o : Byte) (tenth stop : Bool)
    (hl : (s.line k).listens = true) (hr : (s.line k).rx = .hunt last) :
    s.sampleLines k (wave (charBits o tenth stop)) =
      ((s.replyBegins k).modLine k (fun l => { l with rx := .hunt stop })).takeChar k
        { octet := o, tenth := tenth, framing := !stop } := by
  have e : charBits o tenth stop = [false] ++ (octetBits o ++ [tenth]) ++ [stop] := by simp [charBits]
  have hm : (octetBits o ++ [tenth]).length + 2 = Config.lineBits := rfl
  have sd := Receiver.stopDecided (size := Config.lineBits) (bits := [false] ++ (octetBits o ++ [tenth])) stop
    (by simp) rfl
  have begins : ((s.modLine k (fun l => { l with rx := .char 9 0 [false] })).replyBegins k) =
      (s.replyBegins k).modLine k (fun l => { l with rx := .char 9 0 [false] }) := by
    unfold State.replyBegins
    simp only [State.line_modLine_self]
    cases (s.line k).exchange with
    | none => rfl
    | some x =>
      dsimp only
      cases x.progress <;> simp only [State.modLine_modLine]
  have hb : ((s.replyBegins k).line k).listens = true := by
    unfold State.replyBegins
    revert hl
    unfold Line.listens Line.de
    cases hx : (s.line k).exchange with
    | none => simp [hx]
    | some x => cases hp : x.progress <;> simp [hx, hp]
  rw [e, wave_eq, State.sampleLines_append, State.sampleLines_quiet _ hl hr (Receiver.waveHead _ last),
    State.sampleLines_cons,
    State.sampleLine_eq (by simpa [Line.listens, Line.de] using hl) (by simp) (Receiver.startBit_accepted (by decide)),
    State.modLine_modLine, State.hear, begins, State.sampleLines_append,
    State.sampleLines_quiet _ (by simpa [Line.listens, Line.de] using hb) (by simp) (Receiver.waveBody hm stop),
    State.sampleLines_cons,
    State.sampleLine_eq (by simpa [Line.listens, Line.de] using hb) (by simp)
      sd, State.hear, ← e, lineChar_charBits]
  simp only [State.modLine_modLine]
  rcases State.takeChar_rx ((s.replyBegins k).modLine k (fun l => { l with rx := .hunt stop })) k
    { octet := o, tenth := tenth, framing := !stop } with h | h
  · by_cases hl' : ((((s.replyBegins k).modLine k (fun l => { l with rx := .hunt stop })).takeChar k
        { octet := o, tenth := tenth, framing := !stop }).line k).listens = true
    · rw [State.sampleLines_quiet _ hl' (by rw [h]; simp) (Receiver.rest _ stop 7)]
      refine State.modLine_same _ _ ?_
      have h' : ∀ l : Line, l.rx = .hunt stop → { l with rx := .hunt stop } = l := by
        rintro ⟨⟩ hq
        simp_all
      exact h' _ (by rw [h]; simp)
    · exact State.sampleLines_deaf (by simpa using hl') _
  · exact State.sampleLines_deaf h _

/-- The receiver after an undisturbed character hunts on, unless a frame or a wake pulse now goes out or the line has no
rate. -/
theorem State.sampleLines_wave_rx {s : State} {k : Crane} {last : Bool} (o : Byte) (tenth stop : Bool)
    (hl : (s.line k).listens = true) (hr : (s.line k).rx = .hunt last) :
    ((s.sampleLines k (wave (charBits o tenth stop))).line k).rx = .hunt stop ∨
      ((s.sampleLines k (wave (charBits o tenth stop))).line k).listens = false := by
  rw [State.sampleLines_wave o tenth stop hl hr]
  refine (State.takeChar_rx _ _ _).imp (fun h => ?_) id
  rw [h, State.line_modLine_self]

/-! ## The mast receiver -/

theorem State.sampleMasts_append (s : State) (x y : Samples) :
    s.sampleMasts (x ++ y) = (s.sampleMasts x).sampleMasts y := List.foldl_append

theorem State.sampleMasts_cons (s : State) (b : Bool) (x : Samples) :
    s.sampleMasts (b :: x) = (s.sampleMast b).sampleMasts x := rfl

theorem State.sampleMast_eq {s : State} {b : Bool} {r r' : Receiver} {h : Heard}
    (hd : s.mastLine.de = false) (hr : s.mastLine.rx = r) (hs : r.sample Config.lineBits b = (r', h)) :
    s.sampleMast b = { s with mastLine := { s.mastLine with rx := r' } }.hearMast h := by
  subst hr
  simp only [State.sampleMast, hd, Bool.false_eq_true, if_false, hs]

theorem State.sampleMasts_quiet (x : Samples) :
    ∀ {s : State} {r r' : Receiver}, s.mastLine.de = false → s.mastLine.rx = r →
      (r.quiet Config.lineBits x = true ∧ r.after Config.lineBits x = r') →
      s.sampleMasts x = { s with mastLine := { s.mastLine with rx := r' } } := by
  induction x with
  | nil =>
    rintro s r r' - rfl ⟨-, rfl⟩
    rfl
  | cons b x ih =>
    rintro s r r' hd hr ⟨q, a⟩
    simp only [Receiver.quiet, Bool.and_eq_true, beq_iff_eq] at q
    have hs : r.sample Config.lineBits b = ((r.sample Config.lineBits b).1, .nothing) := Prod.ext rfl q.1
    rw [State.sampleMasts_cons, State.sampleMast_eq hd hr hs, State.hearMast,
      ih (by simpa [MastLine.de] using hd) rfl ⟨q.2, a⟩]

theorem State.mastEvents_mastLine (s : State) (m : Mast) (before after : MastRt) (result : Option Nat) :
    (s.mastEvents m before after result).mastLine = s.mastLine := by
  unfold State.mastEvents
  repeat' split
  all_goals first | exact State.emit_mastLine .. | rfl

theorem State.takeMastChar_keeps (s : State) (c : LineChar) (hd : s.mastLine.de = false) :
    (s.takeMastChar c).mastLine.rx = s.mastLine.rx ∧ (s.takeMastChar c).mastLine.de = false := by
  unfold State.takeMastChar
  split
  · exact ⟨rfl, hd⟩
  · split
    · exact ⟨rfl, hd⟩
    · dsimp only
      split
      · exact ⟨rfl, hd⟩
      · split
        · unfold State.endMastExchange
          dsimp only
          split
          · exact ⟨rfl, rfl⟩
          · split
            · exact ⟨rfl, rfl⟩
            · simp only [State.post, State.mastEvents_mastLine]
              exact ⟨rfl, rfl⟩
        · exact ⟨rfl, rfl⟩

/-- A character that arrives undisturbed on the mast line while MDE is deasserted is taken (R158, R161). -/
theorem State.sampleMasts_wave {s : State} {last : Bool} (o : Byte) (tenth stop : Bool)
    (hd : s.mastLine.de = false) (hr : s.mastLine.rx = .hunt last) :
    s.sampleMasts (wave (charBits o tenth stop)) =
      ({ s with mastLine := { s.mastLine with rx := .hunt stop } } : State).takeMastChar
        { octet := o, tenth := tenth, framing := !stop } := by
  have e : charBits o tenth stop = [false] ++ (octetBits o ++ [tenth]) ++ [stop] := by simp [charBits]
  have hm : (octetBits o ++ [tenth]).length + 2 = Config.lineBits := rfl
  have sd := Receiver.stopDecided (size := Config.lineBits) (bits := [false] ++ (octetBits o ++ [tenth])) stop
    (by simp) rfl
  have dd : ∀ r : Receiver, ({ s with mastLine := { s.mastLine with rx := r } } : State).mastLine.de = false :=
    fun _ => hd
  rw [e, wave_eq, State.sampleMasts_append, State.sampleMasts_quiet _ hd hr (Receiver.waveHead _ last),
    State.sampleMasts_cons, State.sampleMast_eq (dd _) rfl (Receiver.startBit_accepted (by decide)), State.hearMast,
    State.sampleMasts_append, State.sampleMasts_quiet _ (dd _) rfl (Receiver.waveBody hm stop), State.sampleMasts_cons,
    State.sampleMast_eq (dd _) rfl sd,
    State.hearMast, ← e, lineChar_charBits]
  obtain ⟨h, d⟩ := State.takeMastChar_keeps ({ s with mastLine := { s.mastLine with rx := .hunt stop } } : State)
    { octet := o, tenth := tenth, framing := !stop } (dd _)
  rw [State.sampleMasts_quiet _ d h (Receiver.rest _ stop 7)]
  have : ∀ u : State, u.mastLine.rx = .hunt stop → { u with mastLine := { u.mastLine with rx := .hunt stop } } = u := by
    intro u hu
    rw [← hu]
  exact this _ h

end Sys2Proof.Machine
end

