-- ==== Sys2Proof/Tests/Slice0.lean ====
section
/-! SUPPORT. Tests: what WellFormed refuses, worked examples of the spec, and for each statement with hypotheses a
state and operands that meet them. -/

namespace Sys2Proof.Tests

open Sys2Proof.Machine

/-! ## WellFormed refuses -/

theorem test_unknownType_known : (Instr.unknownType 0x01 0 []).wellFormed = false := by decide
set_option maxRecDepth 20000 in
theorem test_payload_too_long : (Instr.status 0 (List.replicate 249 0)).wellFormed = false := by decide
set_option maxRecDepth 20000 in
theorem test_unknownType_too_long : (Instr.unknownType 0x50 0 (List.replicate 249 0)).wellFormed = false := by decide
theorem test_report_empty : (Instr.report 0 []).wellFormed = false := by decide
theorem test_echo_empty : (Instr.echo 0 []).wellFormed = false := by decide
theorem test_ready_empty : (Instr.ready 0 []).wellFormed = false := by decide
theorem test_ident_empty : (Instr.ident 0 []).wellFormed = false := by decide
theorem test_replyBufferFull_empty : (Instr.replyBufferFull 0 []).wellFormed = false := by decide
theorem test_replyCharacter_empty : (Instr.replyCharacter 0 []).wellFormed = false := by decide
theorem test_mastCharacter_empty : (Instr.mastCharacter []).wellFormed = false := by decide
theorem test_supervisorOctet_empty : (Instr.supervisorOctet []).wellFormed = false := by decide
theorem test_mastReply_empty : (Instr.mastReply []).wellFormed = false := by decide
theorem test_order_twice : (Instr.clockSecond [3, 3]).wellFormed = false := by decide
theorem test_crane_order_twice : (Instr.slotClose [1, 1]).wellFormed = false := by decide
theorem test_clearance_id_zero : (Instr.clearanceNotice 0 0).wellFormed = false := by decide
theorem test_clearance_id_large : (Instr.clearanceNotice 0 65536).wellFormed = false := by decide
theorem test_wellFormed_book : (Instr.book 1 [1, 2, 3]).wellFormed = true := by decide

/-! ## Worked examples of the spec -/

set_option maxRecDepth 20000 in
/-- R177: the CRC of "123456789". -/
theorem test_crc : crc [0x31, 0x32, 0x33, 0x34, 0x35, 0x36, 0x37, 0x38, 0x39] = 0x29B1 := by decide

/-- Worked arcs across north: the face from 3500 to 200. -/
theorem test_arc_width : arcWidth 3500 200 = 300 ∧ arcWidth 900 900 = 3600 := by decide
theorem test_arc_angles : inArc 3500 3500 300 = true ∧ inArc 50 3500 300 = true ∧ inArc 199 3500 300 = true ∧
    inArc 200 3500 300 = false ∧ inArc 3499 3500 300 = false := by decide
theorem test_arc_windows : overlap 3500 300 150 100 = true ∧ overlap 3500 300 250 60 = false ∧
    overlap 3500 300 3400 101 = true ∧ overlap 3500 300 3400 100 = false := by decide

/-- R94: two seconds of 120 and one of 180 give a gust of 140. -/
theorem test_gust : { WindRec.fresh with values := [180, 120, 120] }.gust = some 140 := by decide

/-- Worked grant pass (03): crane 5 has released zone 5, cranes 7 and 2 wait, crane 2 is inside. -/
theorem test_grant_inside_first :
    { ZoneRt.empty with waiting := [6, 1], inside := [1] }.grantPass =
      { ZoneRt.empty with holder := some 1, waiting := [6], inside := [1] } := by decide

/-- The same with a reservation for a CALLING booking of crane 7. -/
theorem test_grant_reserved_first :
    ({ ZoneRt.empty with
        waiting := [6, 1], inside := [1]
        reservation := some { id := 41, crane := 6, phase := .calling } }).grantPass.holder = some 6 := by decide

/-- R127: the character of 0x91, least significant bit first, and what its bits are read as. -/
theorem test_line_bits :
    lineBits 0x91 = [false, true, false, false, false, true, false, false, true, false, true] ∧
      lineChar (lineBits 0x91) = { octet := 0x91, tenth := false, framing := false } := by decide

/-- R128: the first eight samples of a start bit that is not confirmed, then the line back at mark: a start by noise. -/
theorem test_start_noise :
    (Receiver.hunt true).after 11 (List.replicate 6 false ++ List.replicate 3 true) = .hunt true := by decide

/-- R128: one disturbed sample of the three at the centre of a bit does not change the bit. -/
theorem test_centre_noise :
    (Receiver.char 16 0 [false]).after 11 (List.replicate 6 true ++ [true, false, true]) = .char 9 0 [false, true] := by
  decide

/-- R128: a line held at 0 after a character brings nothing until it has been at mark. -/
theorem test_held_at_zero :
    (Receiver.hunt false).after 11 (List.replicate 40 false) = .hunt false ∧
      (Receiver.hunt false).after 11 [true, false] = .char 1 0 [] := by decide

/-- R135: T_x at FAST, MID and SLOW with the default reply window. -/
theorem test_exchange_time : exchangeTime .fast 20 = 30 ∧ exchangeTime .mid 20 = 50 ∧ exchangeTime .slow 20 = 220 := by
  decide

/-! ## A small site -/

/-- A crane record in range. -/
def crane : CraneRec :=
  { identity := 0x00010203, digest := 0xBEEF, jib := 6000, alpha := 10, beta := 20, latency := 500, marginM := 20
    slowMs := 50, marginMr := 100, slowMrs := 200, cycle := 100, window := 20, missLimit := 3, cautionGust := 120
    stopGust := 160, stormGust := 200, stopMean := 130, stormMean := 170, backup := none, absent := false }

/-- Crane 1's line: ONLINE, with a report at 10 degrees. -/
def online : Line :=
  { Line.powerOn with
    enabled := true, link := .online, rate := some .fast, tag := 1, tagCounter := 2, effCycle := some 100
    cycleTimer := some 100, reportSince := true
    lastReport := some { theta := 100, omega := 0, radius := 2000, speed := 0, height := 1000, wind := 50,
                         windValid := true, age := 0 } }

/-- Cranes 1 and 2 Defined, crane 1 ONLINE; zone 1 shared by both, zone 2 restricted for crane 1; mast 1 Defined. -/
def site : State :=
  { State.reset with
    mode := .run, clockValid := true, clock := 36000
    cranes := (State.reset.cranes.set 0 (some crane)).set 1 (some crane)
    zones := (State.reset.zones.set 0 (some
      { kind := .shared, mv := 100
        faces := [{ crane := 0, arcStart := 0, arcEnd := 900, band := none },
                  { crane := 1, arcStart := 1800, arcEnd := 2700, band := none }] })).set 1 (some
      { kind := .restricted, mv := 100, faces := [{ crane := 0, arcStart := 2000, arcEnd := 2100, band := none }] })
    lines := State.reset.lines.set 0 online
    mastLine := { MastLine.powerOn with masts := MastLine.powerOn.masts.set 0 (some .unknown) } }

/-- The site before START. -/
def setupSite : State := { site with mode := .setup }

/-- The site with crane 1's line as given. -/
def withLine (l : Line) : State := { site with lines := site.lines.set 0 l }

/-- The site with an exchange in flight on crane 1's line, in the link state given. -/
def exchanging (link : LinkState) (kind : ExchangeKind) (progress : Progress) : State :=
  withLine { online with
    link := link, cycleTimer := if link = .online ∨ link = .waitready then some 100 else none
    exchange := some { kind := kind, sent := [], window := 20, progress := progress } }

/-- A booking of crane 1 that reserves zone 1 and opens zone 2, in the state given. -/
def booking (state : BookingState) : Booking :=
  { id := 41, crane := 0, start := 36000, finish := 37200, reserved := [0], opened := [1], windLimit := none, label := []
    state := state, cause := .admitted, deadline := 36300, terminal := if state.terminal then some 36100 else none
    termSeq := 0 }

/-- The site with that booking and a notice on its way. -/
def booked (state : BookingState) (n : Notice) : State :=
  { site with bookings := [booking state], notices := [n] }

/-! ## States that meet the hypotheses of the statements -/

theorem test_witness_StepRunsTheFrontCommandOrIdles :
    { site with pending := [.replySent] }.pending = [.replySent] ∧ site.pending = [] := by decide

theorem test_witness_SiteModelChangesOnlyInSetup :
    ∃ t, step { site with pending := [.tag 1 [0, 1]] } = .next t ∧ site.mode ≠ .setup ∧
      [Instr.tag 1 [0, 1]].head? ≠ some .powerOn := ⟨_, rfl, by decide, by decide⟩

theorem test_witness_ModeMovesOnlyAtItsRequests :
    ∃ t, exec (.hold 1 []) site = .next t ∧ t.mode ≠ site.mode := ⟨_, rfl, by decide⟩

theorem test_witness_NoEventIsLostSilently :
    ∃ t, exec (.hold 1 []) { site with events := List.replicate 64 .powerOn } = .next t ∧
      (List.replicate 64 Event.powerOn).length ≤ 64 ∧ t.events.length = 64 ∧ t.overflow = true :=
  ⟨_, rfl, by decide, by decide, by decide⟩

theorem test_witness_QueuesKeepTheirBounds : site.queuesOk ∧ ∃ t, step site = .next t := by
  refine ⟨?_, _, rfl⟩
  unfold State.queuesOk
  decide

theorem test_witness_ZoneRecordsStayWellFormed : site.zonesOk ∧ ∃ t, step site = .next t := by
  have h : ∀ z, site.zone z = .empty := by decide
  refine ⟨⟨fun z => ?_, fun h => by cases h⟩, _, rfl⟩
  simp [h z, ZoneRt.ok, ZoneRt.names, ZoneRt.empty]

/-- Crane 1, inside zone 1, asks for the free zone and is granted it. -/
theorem test_witness_AGuardedZoneGainsNoHolder :
    ∃ t, step { site with pending := [.cycleExpiry 0] } = .next t ∧ (t.zone 0).holder = some 0 ∧
      (site.zone 0).holder ≠ some 0 := ⟨_, rfl, by decide, by decide⟩

theorem test_witness_AMissingOrUnsettledWindKeepsTheCraneAtStop : site.windOk ∧ ∃ t, step site = .next t := by
  refine ⟨⟨?_, ?_, ?_⟩, _, rfl⟩
  · have h : ∀ k : Crane, site.wind[k] = .fresh := by decide
    intro k
    simp [h k, WindRec.ok, WindRec.fresh]
  · intro m v h
    fin_cases m <;> cases h
  · intro m state v h
    cases h

theorem test_witness_BookingsNeverClash :
    { site with bookings := [booking .booked] }.bookingsOk ∧ ∃ t, step site = .next t := by
  refine ⟨?_, _, rfl⟩
  unfold State.bookingsOk
  decide

theorem test_witness_CraneLinesStayConsistent : site.linesOk ∧ ∃ t, step site = .next t := by
  refine ⟨?_, _, rfl⟩
  have h : ∀ k, (site.line k).exchange = none ∧ (site.line k).wait = .nothing := by decide
  have a : ∀ k, ((site.line k).enabled = true ↔ (site.line k).link ≠ .off) ∧
      ((site.line k).cycleTimer ≠ none → (site.line k).link = .online ∨ (site.line k).link = .waitready) ∧
      1 ≤ (site.line k).tagCounter.toNat ∧ (site.line k).tagCounter.toNat ≤ 254 ∧
      ((site.line k).link ≠ .off → site.worked k = true) := by decide
  intro k
  obtain ⟨a1, a2, a3, a4, a5⟩ := a k
  exact ⟨⟨a1, a2, by simp [(h k).1], by simp [(h k).2, LineWait.fits], a3, a4⟩, a5⟩

theorem test_witness_AWholeFrameJoinsTheRequestQueue :
    let p := (portFrame [0x01, 7]).map (fun o => Instr.supervisorOctet (wave (portBits o))) ++ [.replySent]
    let s := { site with pending := p }
    ([] : List Byte).length ≤ 248 ∧ (List.replicate 248 (0 : Byte)).length ≤ 248 ∧ s.port.asm = .hunt ∧
      s.port.rx = .hunt false ∧ s.port.requests.length < 2 ∧ s.pending = p :=
  ⟨by decide, by rw [List.length_replicate], by decide, by decide, by decide, rfl⟩

set_option maxRecDepth 20000 in
/-- A start by noise, the lengths at and beyond their limits, and the last octet of a body and of a CRC. -/
theorem test_witness_TheAssemblerTakesEachOctet :
    let w := List.replicate 6 false ++ List.replicate 3 true
    site.port.rx = .hunt false ∧ w.length = 9 ∧ w.head? = some false ∧ 2 ≤ ((w.drop 6).filter id).length ∧
      site.port.asm = .hunt ∧ Assembler.length ≠ .hunt ∧ [false] ≠ [] ∧ 2 ≤ (2 : Byte).toNat ∧ (250 : Byte).toNat ≤ 250 ∧
      (1 : Byte).toNat < 2 ∧ 250 < (251 : Byte).toNat ∧ ([] : List Byte).length + 1 < (2 : Byte).toNat ∧
      [(1 : Byte)].length + 1 = (2 : Byte).toNat ∧ 0xE1 * 256 + 0x2A = (crc [2, 1, 7]).toNat ∧
      site.port.requests.length < 2 ∧ 2 ≤ [Frame.mk 1 7 [], Frame.mk 1 8 []].length := by decide

theorem test_witness_TheOldestRequestIsTakenOrNothingChanges :
    let f : Frame := { typ := 1, seq := 7, payload := [] }
    let s := { site with port := { site.port with requests := [f] } }
    s.port.requests = [f] ∧ s.port.restartTaken = false ∧ s.port.replies.length < 2 ∧
      requestFrame (.status 7 []) = some f ∧ requestFrame (.status 8 []) = some { f with seq := 8 } ∧
      ¬ s.takes 1 8 [] := by
  unfold State.takes
  decide

theorem test_witness_RequestsThatFailThePortsChecks :
    requestFrame (.tag 1 [0]) = some { typ := 0x08, seq := 1, payload := [0] } ∧
      askedLength (.tag 1 [0]) = some 2 ∧ [(0 : Byte)].length ≠ 2 ∧ site.takes 0x08 1 [0] ∧
      requestTypes.contains 0x50 = false ∧ site.takes 0x50 1 [] ∧ requestTypes.contains 0x80 = false ∧
      site.takes 0x80 1 [] := by
  unfold State.takes
  decide

/-- A reply waiting to be sent. -/
def aReply : Reply := { typ := 0x81, seq := 1, code := .done, mode := .run, attn := 0, tag := 0, payload := [] }

/-- The site with replies in the queue. -/
def replying (replies : List Reply) (sending restartTaken : Bool) : State :=
  { site with port := { site.port with replies := replies, sending := sending, restartTaken := restartTaken } }

theorem test_witness_RepliesAreSentOldestFirst :
    (replying [aReply] false false).port.sending = false ∧ (replying [aReply] false false).port.replies ≠ [] ∧
      (replying [] false false).port.replies = [] ∧ (replying [aReply] true false).port.sending = true ∧
      (replying [aReply, aReply] true true).port.replies.tail ≠ [] ∧
      (replying [aReply, aReply] true false).port.replies = aReply :: [aReply] := by decide

/-- R175: TX carries the SOF octet 0xC5 first, and mark once the frame is out. -/
theorem test_tx :
    (List.range 11).map (replying [aReply] true false).port.tx =
        [false, true, false, true, false, false, false, true, true, true, false] ∧
      (replying [aReply] true false).port.tx 130 = true ∧ (replying [aReply] false false).port.tx 0 = true := by
  decide

theorem test_witness_TheRestartKeepsTheSiteModel :
    let s := { replying [aReply] true true with bookings := [booking .active] }
    s.port.sending = true ∧ s.port.restartTaken = true ∧ s.port.replies.tail = [] ∧
      s.bookings.Pairwise (fun b c => b.id < c.id) := by decide

theorem test_witness_ReadingsAnswerAndChangeNothing :
    site.takes 0x01 1 [] ∧ site.takes 0x18 1 [] ∧ site.takes 0x3B 1 [] ∧ site.takes 0x12 1 [0] ∧ site.takes 0x12 1 [1] ∧
      site.takes 0x12 1 [8] ∧ site.takes 0x12 1 [9] ∧ site.takes 0x15 1 [32] ∧ site.takes 0x15 1 [33] ∧
      site.takes 0x28 1 [1] ∧ site.takes 0x28 1 [2] ∧ site.takes 0x28 1 [33] ∧ site.takes 0x30 1 [2] ∧
      site.takes 0x30 1 [9] ∧ site.takes 0x3A 1 [0, 41] ∧ site.takes 0x3A 1 [0, 0] := by
  unfold State.takes
  decide

theorem test_witness_HoldAndResumeMoveTheMode :
    site.mode = .run ∧ site.takes 0x03 1 [] ∧ { site with mode := .hold }.mode = .hold ∧
      { site with mode := .hold }.takes 0x04 1 [] := by
  unfold State.takes
  decide

theorem test_witness_SetupEmptiesTheRuntimeAndCancelsBookings :
    let s := booked .active .mode
    s.mode ≠ .setup ∧ s.takes 0x05 1 [] ∧ s.bookings.Pairwise (fun b c => b.id < c.id) ∧
      s.events.length + s.bookings.length < 64 := by
  unfold State.takes
  decide

theorem test_witness_StartClearsTheZonesAndGuardsTheSilentCranes :
    setupSite.mode = .setup ∧ setupSite.clockValid = true ∧ (∃ k, setupSite.worked k = true) ∧
      setupSite.takes 0x02 1 [] ∧ setupSite.events.length ≤ 55 := by
  unfold State.takes
  decide

/-- START guards crane 2, whose line is OFF, in the zone it shares. -/
theorem test_start_guards :
    ∃ t, exec (.start 1 []) setupSite = .next t ∧ (t.zone 0).guard = [1] ∧ t.mode = .run := ⟨_, rfl, by decide, by decide⟩

theorem test_witness_ModeRequestsInTheWrongModeAreRefused :
    site.mode ≠ .setup ∧ site.takes 0x02 1 [] ∧ site.mode ≠ .hold ∧ site.takes 0x04 1 [] ∧ setupSite.mode ≠ .run ∧
      setupSite.takes 0x03 1 [] ∧ setupSite.takes 0x05 1 [] ∧ State.reset.mode = .setup ∧
      State.reset.clockValid = false ∧ (∀ k, State.reset.worked k = false) ∧ State.reset.takes 0x02 1 [] := by
  unfold State.takes
  decide

theorem test_witness_RestartTagAndMaskAreTaken :
    site.takes 0x06 1 [] ∧ setupSite.mode = .setup ∧ setupSite.takes 0x08 1 [0x12, 0x34] ∧
      site.takes 0x09 1 [0xFF, 0] := by
  unfold State.takes
  decide

/-- R183, R184: the site has an event waiting and a crane at STOP; bits 0 and 7 are set, and ATTN follows the mask. -/
theorem test_attention_word :
    site.attn = 0x0081 ∧ site.attnPin = true ∧ { site with port := { site.port with mask := 0xFF7E } }.attnPin = false ∧
      { site with port := { site.port with discard := true } }.attn = 0x0085 ∧
      (site.setZone 0 { ZoneRt.empty with holder := some 1, inside := [0] }).attn = 0x00A1 := by decide

/-- A change of 60 seconds is taken in RUN, one of 61 is not. -/
theorem test_witness_ClockIsSetOrRefused :
    let up : BitVec 32 := (0 : Byte) ++ (0 : Byte) ++ (0x8C : Byte) ++ (0xDC : Byte)
    let far : BitVec 32 := (0 : Byte) ++ (0 : Byte) ++ (0x8C : Byte) ++ (0xDD : Byte)
    site.takes 0x07 1 [0, 0, 0x8C, 0xDC] ∧ site.takes 0x07 1 [0, 0, 0x8C, 0xDD] ∧ up.toNat = site.clock + 60 ∧
      site.clock + 60 < far.toNat ∧ site.mode ≠ .setup ∧ setupSite.mode = .setup := by
  unfold State.takes
  decide

theorem test_witness_ConfigurationIsRefusedOutsideSetup :
    configures (.zoneDel 1 [1]) = true ∧ requestFrame (.zoneDel 1 [1]) = some { typ := 0x14, seq := 1, payload := [1] } ∧
      askedLength (.zoneDel 1 [1]) = some [(1 : Byte)].length ∧ site.mode ≠ .setup ∧ site.takes 0x14 1 [1] := by
  unfold State.takes
  decide

/-- The range check of a CRANE_DEF payload, octet by octet. -/
def craneRange (p : List Byte) : Bool :=
  let orDefault := fun (n default : Nat) => if n = 0 then default else n
  let cycle := orDefault (oct2 p 21) 100
  let window := orDefault (oct p 23) 20
  let missLimit := orDefault (oct p 24) 3
  decide (1 ≤ oct p 0 ∧ oct p 0 ≤ 8 ∧ 1000 ≤ oct2 p 7 ∧ oct2 p 7 ≤ 9000 ∧ 1 ≤ oct p 9 ∧ oct p 9 ≤ 100 ∧
    1 ≤ oct p 10 ∧ oct p 10 ≤ 200 ∧ oct2 p 11 ≤ 2000 ∧ oct2 p 13 ≤ 300 ∧ oct2 p 15 ≤ 600 ∧ oct2 p 17 ≤ 500 ∧
    oct2 p 19 ≤ 1000 ∧ 50 ≤ cycle ∧ cycle ≤ 1000 ∧ cycle % 10 = 0 ∧ 5 ≤ window ∧ window ≤ 50 ∧ 1 ≤ missLimit ∧
    missLimit ≤ 8 ∧ oct2 p 25 < oct2 p 27 ∧ oct2 p 27 < oct2 p 29 ∧ oct2 p 29 ≤ 600 ∧ oct2 p 31 < oct2 p 33 ∧
    oct2 p 33 ≤ 600 ∧ oct p 35 ≤ 4 ∧ oct p 36 ≤ 1)

/-- A record in range, one with every default, and one each beyond a limit; a backup mast that is Defined and one that
is not; an absent crane on a running line; a line in MISMATCH. -/
theorem test_witness_CraneDefStoresTheRecord :
    let p := crane.payload 2
    let q := ((p.set 22 0).set 23 0).set 24 0
    setupSite.mode = .setup ∧ p.length = 37 ∧ setupSite.takes 0x10 1 p ∧ craneRange p = true ∧ craneRange q = true ∧
      craneRange (p.set 0 9) = false ∧ craneRange (p.set 36 2) = false ∧ oct p 0 = number (2 : Crane) ∧
      oct p 35 = ((none : Option Mast).map number).getD 0 ∧ craneRange (p.set 35 2) = true ∧
      oct (p.set 35 2) 35 = ((some 1 : Option Mast).map number).getD 0 ∧ setupSite.mastDefined 1 = false ∧
      setupSite.mastDefined 0 = true ∧ craneRange ((crane.payload 0).set 36 1) = true ∧
      (setupSite.crane 0).isSome = true ∧ (setupSite.line 0).link ≠ .off ∧ (setupSite.crane 2).isSome = false ∧
      ((withLine { online with link := .mismatch }).line 0).link = .mismatch := by
  unfold State.takes
  decide

/-- Crane 3 with a HOOK face to 2000 cm in a zone. -/
def hookSite : State :=
  { setupSite with zones := setupSite.zones.set 2 (some
      { kind := .restricted, mv := 0
        faces := [{ crane := 2, arcStart := 0, arcEnd := 0, band := some { rmin := 0, rmax := 2000, ceiling := 0 } }] }) }

theorem test_witness_CraneDefStoresTheRecord_tooShort :
    ∃ z d f b, hookSite.faceIn 2 z = some (d, f) ∧ f.band = some b ∧ { crane with jib := 1000 }.jib < b.rmax :=
  ⟨2, _, _, _, rfl, rfl, by decide⟩

theorem test_witness_CraneClearFreesTheRecord :
    setupSite.mode = .setup ∧ setupSite.takes 0x11 1 [8] ∧ setupSite.takes 0x11 1 [9] ∧ setupSite.takes 0x11 1 [0] ∧
      setupSite.crane 7 = none ∧ setupSite.crane 0 ≠ none ∧ (setupSite.line 0).link ≠ .off ∧
      setupSite.crane 1 ≠ none ∧ (setupSite.line 1).link = .off ∧ (setupSite.faceIn 1 0).isSome = true ∧
      (let s := { setupSite with zones := State.reset.zones }
       s.crane 1 ≠ none ∧ (s.line 1).link = .off ∧ (∀ z, s.faceIn 1 z = none) ∧ s.bookings = []) := by
  unfold State.takes
  decide

/-- A ZONE_DEF of zone 32 with one JIB face of crane 2. -/
def zoneDefPayload : List Byte := [32, 1, 0, 0, 1, 2, 0, 0, 0, 0, 100, 0, 0, 0, 0, 0, 0]

/-- The definition it carries. -/
def zoneDefAsked : ZoneDef :=
  { kind := .restricted, mv := 0, faces := [{ crane := 1, arcStart := 0, arcEnd := 100, band := none }] }

/-- A site whose zones have five faces each. -/
def fullPool : State :=
  { setupSite with zones := Vector.replicate 32 (some
      { kind := .restricted, mv := 0
        faces := List.map (fun k => { crane := k, arcStart := 0, arcEnd := 0, band := none }) [0, 1, 2, 3, 4] }) }

set_option maxRecDepth 20000 in
theorem test_witness_ZoneDefAndZoneDelWriteTheZone :
    let p := zoneDefPayload
    let d := zoneDefAsked
    setupSite.mode = .setup ∧ p.length = 5 + 12 * oct p 4 ∧ setupSite.takes 0x13 1 p ∧
      (∀ z : Zone, oct (p.set 0 33) 0 ≠ number z) ∧
      (oct p 0 = number (31 : Zone) ∧ oct2 p 2 = d.mv ∧ d.mv ≤ 1000 ∧ d.faces.length = oct p 4 ∧ oct p 1 = 1 ∧
        oct p 5 = number (1 : Crane) ∧ oct p 6 = 0 ∧ oct2 p 7 = 0 ∧ oct2 p 9 = 100) ∧
      State.reset.crane 1 = none ∧ setupSite.crane 1 ≠ none ∧ crane.jib < 9000 ∧ setupSite.zoneDef 0 ≠ none ∧
      0 ∈ (booking .booked).reserved ∧ (booking .booked).state.terminal = false ∧ setupSite.bookings = [] ∧
      128 < ((allZones.filter (fun y => y != 31)).map (fun y => match fullPool.zoneDef y with
        | none => 0
        | some e => e.faces.length)).sum + 1 ∧
      setupSite.takes 0x14 1 [0] ∧ setupSite.takes 0x14 1 [33] ∧ setupSite.takes 0x14 1 [32] ∧
      setupSite.zoneDef 31 = none := by
  unfold State.takes
  decide

/-- The range check of a SITE_DEF payload (R17). -/
def siteRange (p : List Byte) : Bool :=
  decide (oct2 p 0 ≤ 10000 ∧ 30 ≤ oct2 p 2 ∧ oct2 p 2 ≤ 1800 ∧ oct p 4 ≤ 50 ∧ 60 ≤ oct2 p 5 ∧ oct2 p 5 ≤ 3600 ∧
    30 ≤ oct2 p 7 ∧ oct2 p 7 ≤ 1800 ∧ 10 ≤ oct2 p 9 ∧ oct2 p 9 ≤ 600 ∧ 10 ≤ oct2 p 11 ∧ oct2 p 11 ≤ 600 ∧
    2 ≤ oct p 13 ∧ oct p 13 ≤ 255 ∧ oct p 14 ≤ 7)

/-- The lowest and the highest value of every site parameter, and the same with one of them one further. -/
theorem test_witness_MastDefAndSiteDefWriteTheirRecords :
    let low : List Byte := [0, 0, 0, 30, 0, 0, 60, 0, 30, 0, 10, 0, 10, 2, 0]
    let high : List Byte := [0x27, 0x10, 0x07, 0x08, 50, 0x0E, 0x10, 0x07, 0x08, 0x02, 0x58, 0x02, 0x58, 255, 7]
    setupSite.mode = .setup ∧ setupSite.takes 0x16 1 [4, 1] ∧ setupSite.takes 0x16 1 [1, 0] ∧
      setupSite.mastDefined 0 = true ∧ setupSite.mastDefined 3 = false ∧ crane.backup ≠ some 0 ∧
      { crane with backup := some 0 }.backup = some 0 ∧ setupSite.takes 0x16 1 [0, 1] ∧ setupSite.takes 0x16 1 [5, 1] ∧
      setupSite.takes 0x16 1 [4, 2] ∧ low.length = 15 ∧ setupSite.takes 0x17 1 low ∧ siteRange low = true ∧
      high.length = 15 ∧ setupSite.takes 0x17 1 high ∧ siteRange high = true ∧
      ([3, 6, 8, 10, 12, 13].all (fun i => !siteRange (low.set i (low.getD i 0 - 1)))) = true ∧
      ([1, 3, 4, 6, 8, 10, 12, 14].all (fun i => !siteRange (high.set i (high.getD i 0 + 1)))) = true := by
  unfold State.takes
  decide

theorem test_witness_LineOnWakesTheLine :
    site.takes 0x20 1 [0] ∧ site.takes 0x20 1 [9] ∧ site.takes 0x20 1 [8] ∧ site.worked 7 = false ∧
      site.worked 0 = true ∧ (site.line 0).link ≠ .off ∧ site.worked 1 = true ∧ (site.line 1).link = .off := by
  unfold State.takes
  decide

theorem test_witness_LineOffGuardsTheCranesZones :
    site.takes 0x21 1 [0] ∧ site.takes 0x21 1 [9] ∧ site.takes 0x21 1 [1] ∧ (site.line 0).link ≠ .off ∧
      (site.line 1).link = .off := by
  unfold State.takes
  decide

/-- LINE_OFF of crane 1 in RUN guards the zone it shares. -/
theorem test_lineOff_guards : ∃ t, exec (.lineOff 1 [1]) site = .next t ∧ (t.zone 0).guard = [0] ∧
    (t.zone 1).guard = [] := ⟨_, rfl, by decide, by decide⟩

theorem test_witness_ServiceTextAndCraneState :
    site.takes 0x22 1 [0, 0] ∧ site.takes 0x22 1 [9, 0] ∧ site.takes 0x22 1 [1, 3] ∧ serviceOf 2 = some .out ∧
      site.takes 0x22 1 [1, 2] ∧ site.crane 0 ≠ none ∧ ServiceState.out ≠ site.service[(0 : Crane)] ∧
      site.service[(0 : Crane)] = .inService ∧ site.crane 7 = none ∧ site.takes 0x24 1 [1, 2, 0x41, 0x42] ∧
      (site.line 0).texts.length < 4 ∧
      4 ≤ (List.replicate 4 ({ serial := 0, chars := [], progress := .first } : CabText)).length ∧
      site.takes 0x23 1 [1, 0] ∧ site.takes 0x23 1 [1, 1] ∧ site.takes 0x23 1 [1, 2] ∧ site.takes 0x24 1 [0, 0] ∧
      site.takes 0x24 1 [9, 0] ∧ site.takes 0x24 1 [8, 0] := by
  unfold State.takes
  decide

theorem test_witness_DeclareTakesTheCraneOutOfTheZones :
    site.takes 0x25 1 [2, 0, 1, 1] ∧ site.mode ≠ .setup ∧ ([0] : List Zone).Nodup ∧ site.crane 1 ≠ none ∧
      site.faceIn 1 0 ≠ none ∧ (site.line 1).link ≠ .online ∧ site.takes 0x25 1 [2, 1, 0] ∧
      allZones.filter (fun z => (site.faceIn 1 z).isSome) = [0] ∧ setupSite.mode = .setup ∧
      setupSite.takes 0x25 1 [2, 0, 1, 1] ∧ site.takes 0x25 1 [2, 0, 0] ∧ site.takes 0x25 1 [2, 0, 2, 1, 1] ∧
      ¬ ([0, 0] : List Zone).Nodup ∧ site.takes 0x25 1 [2, 0, 1, 2] ∧ site.faceIn 1 1 = none ∧
      site.takes 0x25 1 [1, 0, 1, 1] ∧ (site.line 0).link = .online ∧ site.faceIn 0 0 ≠ none := by
  unfold State.takes
  decide

theorem test_witness_ResolveNamesTheMover :
    let s := site.setZone 0 { ZoneRt.empty with inside := [1] }
    s.takes 0x29 1 [0, 2] ∧ s.takes 0x29 1 [33, 2] ∧ s.takes 0x29 1 [1, 2] ∧ s.mode ≠ .setup ∧ s.isShared 0 = true ∧ s.crane 1 ≠ none ∧ (1 : Crane) ∈ (s.zone 0).inside ∧
      s.takes 0x29 1 [1, 0] ∧ s.takes 0x29 1 [1, 9] ∧ s.takes 0x29 1 [1, 8] ∧ s.crane 7 = none ∧
      s.takes 0x29 1 [32, 8] ∧ s.zoneDef 31 = none ∧ s.takes 0x29 1 [2, 0] ∧ s.isShared 1 = false ∧
      s.zoneDef 1 ≠ none ∧ s.takes 0x29 1 [1, 1] ∧ s.crane 0 ≠ none ∧ (0 : Crane) ∉ (s.zone 0).inside ∧
      setupSite.takes 0x29 1 [1, 2] := by
  unfold State.takes
  decide

/-- BOOK of crane 1: zone 1 reserved, zone 2 opened, from 36 000 to 37 200. -/
def bookPayload : List Byte := [1, 0, 0, 0x8C, 0xA0, 0, 0, 0x91, 0x50, 1, 1, 1, 2, 0, 0, 0, 0]

/-- What it asks for. -/
def request : BookRequest :=
  { crane := 0, start := 36000, finish := 37200, reserved := [0], opened := [1], windLimit := none, label := [] }

/-- The payload carries the request. -/
theorem test_book_carried : request.carried bookPayload := ⟨[0], [1], 0, by decide⟩

/-- A payload of the right length that names crane 0 carries no request. -/
theorem test_book_not_carried :
    let p := bookPayload.set 0 0
    p.length = 15 + oct p 9 + oct p (10 + oct p 9) + oct p (14 + oct p 9 + oct p (10 + oct p 9)) ∧
      ∀ q : BookRequest, ¬ q.carried p := by
  refine ⟨by decide, ?_⟩
  rintro ⟨k, _, _, _, _, _, _⟩ ⟨_, _, _, h, _⟩
  have h := congrArg List.head? h
  simp only [bookPayload, List.set_cons_zero, List.cons_append, List.head?_cons, Option.some.injEq] at h
  exact (by decide : ∀ k : Crane, (0 : Byte) ≠ BitVec.ofNat 8 (number k)) k h

theorem test_witness_BookAdmitsWhatDoesNotClash :
    site.takes 0x38 1 (bookPayload.set 0 0) ∧ bookOf bookPayload = some request ∧ site.takes 0x38 1 bookPayload ∧
      site.crane 0 ≠ none ∧ site.zoneDef 0 ≠ none ∧ site.zoneDef 1 ≠ none ∧ site.isShared 0 = true ∧
      site.faceIn 0 0 ≠ none ∧ site.isShared 1 = false ∧ site.faceIn 0 1 ≠ none ∧ site.bookings = [] ∧
      1 ≤ site.nextId ∧ site.nextId ≤ 65535 ∧ State.reset.crane 0 = none ∧
      (booking .booked).state.terminal = false ∧ (booking .booked).crane = request.crane ∧
      (booking .booked).start < request.finish ∧ request.start < (booking .booked).finish := by
  unfold State.takes
  decide

/-- A full table: records 1 to 32, each over a second of its own, in the state given. -/
def fullTable (state : BookingState) : List Booking :=
  (List.range 32).map (fun i =>
    { booking state with id := i + 1, start := 50000 + i, finish := 50001 + i, terminal :=
        if state.terminal then some (40000 + i) else none })

set_option maxRecDepth 20000 in
theorem test_fullTable : ∀ st : BookingState, st = .ended ∨ st = .booked →
    (fullTable st).length = 32 ∧ (fullTable st).Pairwise (fun b c => b.id < c.id ∧ b.finish ≤ c.start) ∧
      (∀ b ∈ fullTable st, 1 ≤ b.id ∧ b.id ≤ 65535) ∧ (∀ b ∈ fullTable st, ¬ b.start < request.finish) ∧
      (∀ b ∈ fullTable st, b.state = st) := by
  rintro st (rfl | rfl) <;> decide

/-- The site with the full table keeps the invariant of the bookings. -/
theorem test_fullTable_ok (st : BookingState) (h : st = .ended ∨ st = .booked) :
    { site with bookings := fullTable st }.bookingsOk := by
  obtain ⟨h1, h2, h3, _, _⟩ := test_fullTable st h
  refine ⟨h1.le, h2.imp (fun h => h.1), h3, (by decide : 1 ≤ site.nextId), (by decide : site.nextId ≤ 65535), ?_⟩
  intro b hb c hc hne _ _ l1 l2
  obtain ⟨i, hi, rfl⟩ := List.getElem_of_mem hb
  obtain ⟨j, hj, rfl⟩ := List.getElem_of_mem hc
  rw [List.pairwise_iff_getElem] at h2
  dsimp only at *
  rcases Nat.lt_trichotomy i j with hij | rfl | hij
  · have := (h2 i j hi hj hij).2
    omega
  · exact absurd rfl hne
  · have := (h2 j i hj hi hij).2
    omega

/-- The hypotheses with a table of terminal records, and with one of records that are not. -/
theorem test_witness_BookEvictsTheOldestTerminalRecord (st : BookingState) (h : st = .ended ∨ st = .booked) :
    let s := { site with bookings := fullTable st }
    (s.takes 0x38 1 bookPayload ∧ s.crane request.crane ≠ none ∧
      (∀ z ∈ request.reserved, s.isShared z = true ∧ s.faceIn request.crane z ≠ none) ∧
      (∀ z ∈ request.opened, s.isShared z = false ∧ s.faceIn request.crane z ≠ none)) ∧
      (∀ b ∈ s.bookings, b.state.terminal = false → b.start < request.finish → request.start < b.finish →
        b.crane ≠ request.crane ∧ ∀ z ∈ b.reserved, z ∉ request.reserved) ∧ s.bookings.length = 32 ∧ s.bookingsOk ∧
      (∀ b ∈ s.bookings, b.state.terminal = st.terminal) := by
  obtain ⟨h1, _, _, h4, h5⟩ := test_fullTable st h
  refine ⟨?_, fun b hb _ h => absurd h (h4 b hb), h1, test_fullTable_ok st h, fun b hb => congrArg BookingState.terminal (h5 b hb)⟩
  unfold State.takes
  rcases h with rfl | rfl <;> decide

theorem test_witness_CancelEndsTheBooking :
    site.takes 0x39 1 [0, 0] ∧ site.takes 0x39 1 [0, 42] ∧ (∀ b ∈ (booked .active .mode).bookings, b.id ≠ 42) ∧
      site.takes 0x39 1 [0, 41] ∧ (booked .active .mode).bookings.find? (fun c => c.id == 41) = some (booking .active) ∧
      (booking .active).state.terminal = false ∧ (booking .ended).state.terminal = true ∧
      (booking .booked).state.terminal = false ∧
      (1 : Zone) ∈ (booking .active).opened ∧
      (booking .active).crane ∈ ((site.setZone 1 { ZoneRt.empty with inside := [0] }).zone 1).inside := by
  unfold State.takes
  decide

theorem test_witness_RemovalAndReadingOfEvents :
    site.takes 0x3C 1 [0, 0] ∧ site.takes 0x3C 1 [0, 42] ∧ (∀ b ∈ (booked .ended .mode).bookings, b.id ≠ 42) ∧
      site.takes 0x3C 1 [0, 41] ∧ (booked .ended .mode).bookings.find? (fun c => c.id == 41) = some (booking .ended) ∧
      (booking .ended).state.terminal = true ∧ (booking .active).state.terminal = false ∧ site.takes 0x40 1 [] := by
  unfold State.takes
  decide

/-- No exchange in flight, one in flight below the miss limit, a report that counts, no report, a calm crane whose link
has just come ONLINE, a zone held, waited for and none of these, and the bookings of each clause. -/
theorem test_witness_CycleExpirySendsThePermit :
    let l := site.line 0
    let x := (exchanging .online (.poll .none) (.receiving [0x94] false false)).line 0
    let held := site.setZone 0 { ZoneRt.empty with holder := some 0 }
    l.link = .online ∧ l.cycleTimer = some 100 ∧ l.exchange = none ∧ l.reportSince = true ∧ l.lastReport ≠ none ∧
      site.worked 0 = true ∧ x.exchange ≠ none ∧ x.missCount + 1 < (site.craneRec 0).missLimit ∧
      { site with mode := .hold }.mode ≠ .run ∧ setupSite.mode = .setup ∧
      { site with service := site.service.set 0 .out }.service[(0 : Crane)] = .out ∧
      (site.wind[(0 : Crane)].level ≠ .storm ∧ site.service[(0 : Crane)] = .inService ∧
        site.vane[(0 : Crane)].state = .none ∧ l.guardEndDue = false) ∧
      { site with service := site.service.set 0 .restricted }.service[(0 : Crane)] = .restricted ∧
      site.isShared 0 = true ∧ site.isShared 1 = false ∧ site.faceIn 0 2 = none ∧ (held.zone 0).holder = some 0 ∧
      (site.zone 0).holder ≠ some 0 ∧ (0 : Crane) ∉ (site.zone 0).waiting ∧
      (booked .active .mode).bookings = [booking .active] ∧ (booking .active).crane = 0 ∧
      (booked .closing .mode).bookings = [booking .closing] ∧ site.bookings = [] := by decide

/-- Crane 1, inside zone 1 at 10 degrees, keeps its holding, and with the face clear it keeps it until the release
time. -/
theorem test_cycleExpiry_zone :
    let held := site.setZone 0 { ZoneRt.empty with holder := some 0 }
    (∃ t, exec (.cycleExpiry 0) held = .next t ∧ (t.zone 0).holder = some 0 ∧ (t.zone 0).inside = [0] ∧
      t.faces[(0 : Crane)].map (fun g => (g.zone, g.inside)) = [(0, true), (1, false)]) := ⟨_, rfl, by decide⟩

/-- R52: crane 1 comes INSIDE zone 1 while crane 2 holds it; when crane 1 alone was inside and has left, the conflict
ends. -/
theorem test_conflict :
    let held := site.setZone 0 { ZoneRt.empty with holder := some 1 }
    let gone := (withLine { online with lastReport := online.lastReport.map (fun r => { r with theta := 1500 }) }).setZone
      0 { ZoneRt.empty with holder := some 1, inside := [0] }
    (∃ t, exec (.cycleExpiry 0) held = .next t ∧ t.events.drop 1 = [held.record .conflictBegin 1 1 0 1 0]) ∧
      ∃ t, exec (.cycleExpiry 0) gone = .next t ∧ t.events.drop 1 = [gone.record .conflictEnd 1 1 0 0 0] :=
  ⟨⟨_, rfl, by decide⟩, ⟨_, rfl, by decide⟩⟩

/-- Crane 1 in STORM and PENDING since the millisecond count began, with no report yet, and crane 2 holding zone 1. -/
def stormy (due : Moment) : State :=
  { (withLine { online with cycleTimer := some due, reportSince := false }).setZone 0 { ZoneRt.empty with holder := some 1, claims := [0] } with
    wind := site.wind.set 0 { WindRec.fresh with level := .storm }
    vane := site.vane.set 0 { state := .pending, pendingSince := some 0, alarm := false, cause := .wind } }

/-- R79: the alarm is raised when the sweep alarm time of 120 s has passed, and not a millisecond before. -/
theorem test_alarm :
    (∃ t, exec (.cycleExpiry 0) (stormy 119999) = .next t ∧ t.vane[(0 : Crane)].alarm = false ∧ t.events.length = 1) ∧
      ∃ t, exec (.cycleExpiry 0) (stormy 120000) = .next t ∧ t.vane[(0 : Crane)].alarm = true ∧
        t.events.drop 1 = [site.record .weathervaneBlocked 1 1 0 1 1] :=
  ⟨⟨_, rfl, by decide⟩, ⟨_, rfl, by decide⟩⟩

/-- The condition holding and not, in SETUP and in RUN, with and without an episode; a zone held by another crane. -/
theorem test_witness_TheBrakeIsReleasedOnlyWhenEveryZoneIsSwept_record :
    (site.line 0).link = .online ∧ (site.line 0).cycleTimer = some 100 ∧ (site.line 0).exchange = none ∧
      site.wind[(0 : Crane)].level ≠ .storm ∧ site.service[(0 : Crane)] ≠ .out ∧ site.vane[(0 : Crane)].state = .none ∧
      (stormy 100).vane[(0 : Crane)].state ≠ .none ∧ (stormy 100).wind[(0 : Crane)].level = .storm ∧
      { stormy 100 with wind := site.wind }.wind[(0 : Crane)].level ≠ .storm ∧ setupSite.mode = .setup ∧
      ∃ t, exec (.cycleExpiry 0) (stormy 100) = .next t ∧ (0 : Crane) ∉ (t.zone 0).sweep ∧
        (0 : Crane) ∈ (t.zone 1).sweep :=
  ⟨by decide, by decide, by decide, by decide, by decide, by decide, by decide, by decide, by decide, by decide, _, rfl,
    by decide⟩

/-- Crane 1, OUT of service, sweeps both its zones at its next composition and may then weathervane. -/
theorem test_witness_TheBrakeIsReleasedOnlyWhenEveryZoneIsSwept :
    let s := { site with service := site.service.set 0 .out }
    ∃ t, exec (.cycleExpiry 0) s = .next t ∧ s.mode ≠ .setup ∧ (s.line 0).cycleTimer ≠ none ∧
      (s.line 0).link = .online ∧ (t.line 0).link = .online ∧ t.sent[(0 : Crane)].weathervane = true ∧
      (s.faceIn 0 0).isSome = true := ⟨_, rfl, by decide⟩

theorem test_witness_TheMissLimitMakesTheLinkLost :
    let x : Exchange := { kind := .poll .none, sent := [], window := 20, progress := .receiving [0x94] false false }
    let s := withLine { online with missCount := 2, exchange := some x }
    (s.line 0).link = .online ∧ (s.line 0).cycleTimer = some 100 ∧ (s.line 0).exchange = some x ∧
      (s.craneRec 0).missLimit ≤ (s.line 0).missCount + 1 := by decide

/-- A receiver that hunts at mark, a start by noise and one confirmed, a character of sixteen samples a bit, and the
octets that break off, fill the buffer, fail the check and carry an angle of 360 degrees. -/
theorem test_witness_AnExchangeRunsAsItsEventsCome :
    let s := exchanging .online (.poll .none)
    let majority := fun (w : List Bool) => decide (2 ≤ (((w.drop 6).take 3).filter id).length)
    let noise := List.replicate 6 false ++ List.replicate 3 true
    let ws := (charBits 0x94 false true).map (fun b => List.replicate 16 b)
    let north := lineFrame 0x94 1 ([0x0E, 0x10] ++ List.replicate 11 0)
    let u := fun (p : Progress) => (withLine { (s p).line 0 with rx := .hunt true }).line 0
    (∀ p ∈ [Progress.waiting 20, .receiving (List.replicate 31 0x94) false false, .receiving north.dropLast false false],
      (u p).rate ≠ none ∧ (u p).exchange = some { kind := .poll .none, sent := [], window := 20, progress := p } ∧
        p ≠ .sending ∧ (u p).wait = .nothing ∧ (u p).rx = .hunt true ∧ (u p).link = .online) ∧
      (site.line 0).rate ≠ none ∧ (site.line 0).exchange = none ∧ (site.line 0).wait = .nothing ∧
      (site.line 0).rx = .hunt false ∧
      { online with rate := none }.rate = none ∧
      (((s .sending).line 0).exchange.map (·.progress)) = some .sending ∧
      (((s (.waiting 20)).line 0).exchange.map (·.progress)) = some (.waiting 20) ∧
      (((s (.receiving [0x94] false false)).line 0).exchange.map (·.progress)) =
        some (.receiving [0x94] false false) ∧
      noise.length = 9 ∧ noise.head? = some false ∧ majority noise = true ∧ majority (List.replicate 9 false) = false ∧
      ws.length = 11 ∧ (∀ w ∈ ws, w.length = 16) ∧ ws.flatten.head? = some false ∧
      ws.map majority = charBits 0x94 false true ∧ [(0x94 : Byte)].length < 32 ∧
      (List.replicate 31 (0x94 : Byte)).length + 1 = 32 ∧ 4 + oct (List.replicate 32 (0x94 : Byte)) 2 ≠ 32 ∧
      north.length = 4 + oct north 2 ∧ north.getLast? = some (north.dropLast.foldl (fun a b => a ^^^ b) 0xA5) ∧
      oct north 2 = 13 ∧ north.getD 0 0 = 0x94 ∧ north.getD 1 0 = (site.line 0).tag ∧ 3600 ≤ oct2 north 3 ∧
      (0x95 : Byte) ≠ 0x94 ∧ ((s .sending).line 0).link = .online ∧
      ((s .sending).line 0).missCount + 1 < ((s .sending).craneRec 0).missLimit ∧
      ((s .sending).craneRec 0).missLimit ≤ { online with missCount := 2 }.missCount + 1 ∧
      (Receiver.char 3 0 [false]).inCharacter = true ∧ (Receiver.hunt true).inCharacter = false := by decide

theorem test_witness_EnrolmentAttemptsThatFail :
    let s := exchanging .rateSearch (.wakeCheck 1) (.waiting 20)
    (s.line 0).exchange.map (·.progress) = some (.waiting 20) ∧ (s.line 0).link = .rateSearch ∧
      (s.line 0).attempts + 1 < 3 ∧ ((exchanging .check (.wakeCheck 2) (.waiting 20)).line 0).link = .check ∧
      ((exchanging .tagging (.tagSet 1) (.waiting 20)).line 0).link = .tagging ∧
      ((exchanging .waitready .readyQ (.waiting 20)).line 0).link = .waitready ∧
      3 ≤ { online with attempts := 2 }.attempts + 1 ∧ 2 ≤ { online with attempts := 1 }.attempts + 1 ∧
      (Receiver.hunt true).inCharacter = false ∧ (s.line 0).rate ≠ none ∧ (s.line 0).wait = .nothing ∧
      (s.line 0).rx = .hunt false ∧ 4 + oct (List.replicate 32 (0x94 : Byte)) 2 ≠ 32 := by decide

/-- An ECHO with another pattern, a READY flag of 2, an IDENT with another tag: whole replies of the length, kind and check
octet asked for, the last octet still to come. -/
theorem test_witness_EnrolmentAttemptsThatFail_invalid :
    let echo := lineFrame 0x91 0 [1, 9]
    let ready := lineFrame 0x92 0 [2]
    let ident := lineFrame 0x93 8 [0, 0, 0, 1, 0, 2]
    let s := fun (link : LinkState) (kind : ExchangeKind) (o : List Byte) =>
      (exchanging link kind (.receiving o.dropLast false false)).line 0
    ((s .rateSearch (.wakeCheck 1) echo).exchange.map (·.progress)) = some (.receiving echo.dropLast false false) ∧
      ((s .waitready .readyQ ready).exchange.map (·.kind)) = some .readyQ ∧
      ((s .tagging (.tagSet 7) ident).exchange.map (·.kind)) = some (.tagSet 7) ∧
      [echo, ready, ident].map (fun o => (o.length, 4 + oct o 2)) = [(6, 6), (5, 5), (10, 10)] ∧
      echo.getLast? = some (echo.dropLast.foldl (fun a b => a ^^^ b) 0xA5) ∧ echo.getD 0 0 = 0x91 ∧
      echo.getD 1 0 = 0 ∧ echo.getD 4 0 ≠ 1 ∧ 1 < oct ready 3 ∧ ident.getD 1 0 ≠ 7 := by decide

set_option maxRecDepth 20000 in
/-- R147, R149, R150, R152: in CHECK an ECHO with another pattern flags RANGE and the second attempt follows; a READY flag
of 2 flags RANGE and the line stays in WAITREADY; an IDENT with another tag flags TAG and the next tag is tried. -/
theorem test_enrolment_invalid :
    let s := fun (link : LinkState) (kind : ExchangeKind) (o : List Byte) =>
      exchanging link kind (.receiving o.dropLast false false)
    let flags := fun (o : Host.Outcome State Fault Refusal) => match o with
      | .next t => some ((t.line 0).link, (t.line 0).attempts, (t.line 0).faults.range, (t.line 0).faults.tag)
      | .fault _ | .refused _ => none
    let echo := lineFrame 0x91 0 [1, 9]
    let ready := lineFrame 0x92 0 [2]
    let ident := lineFrame 0x93 8 [0, 0, 0, 1, 0, 2]
    let last := fun (o : List Byte) => wave (lineBits (o.getLastD 0))
    flags (exec (.echo 0 (last echo)) (s .check (.wakeCheck 1) echo)) = some (.check, 1, true, false) ∧
      flags (exec (.ready 0 (last ready)) (s .waitready .readyQ ready)) = some (.waitready, 0, true, false) ∧
      flags (exec (.ident 0 (last ident)) (s .tagging (.tagSet 7) ident)) = some (.tagging, 1, false, true) := by decide

/-- The REPORT at 359.9 degrees. -/
theorem test_witness_AValidReportIsTaken :
    let s := exchanging .online (.poll .only) (.waiting 20)
    let p : List Byte := [0x0E, 0x0F, 0, 7, 0xD0, 0, 0, 3, 0xE8, 0, 50, 1, 0]
    (s.line 0).exchange =
        some { kind := .poll .only, sent := [], window := 20, progress := .waiting 20 } ∧ (s.line 0).rate ≠ none ∧
      (s.line 0).wait = .nothing ∧ (s.line 0).rx = .hunt false ∧ p.length = 13 ∧ oct2 p 0 < 3600 := by decide

theorem test_witness_EnrolmentRepliesAreTaken :
    let x := fun (kind : ExchangeKind) =>
      ({ kind := kind, sent := [], window := 20, progress := .waiting 20 } : Exchange)
    let l := (exchanging .rateSearch (.wakeCheck 1) (.waiting 20)).line 0
    l.exchange = some (x (.wakeCheck 1)) ∧ l.link = .rateSearch ∧ l.rate ≠ none ∧ l.wait = .nothing ∧
      l.rx = .hunt false ∧
      ((exchanging .check (.wakeCheck 2) (.waiting 20)).line 0).exchange = some (x (.wakeCheck 2)) ∧
      ((exchanging .waitready .readyQ (.waiting 20)).line 0).exchange = some (x .readyQ) ∧
      ((exchanging .tagging (.tagSet 1) (.waiting 20)).line 0).exchange = some (x (.tagSet 1)) ∧ (2 : Byte) ≠ 1 ∧
      crane.identity ≠ 0 ∧ online.rate = some .fast ∧ { online with rate := some .slow }.rate ≠ some .fast := by decide

theorem test_witness_TheWaitsOfEnrolmentEnd :
    ((withLine { Line.powerOn with enabled := true, link := .waking, wait := .pulse 5 }).line 0).wait = .pulse 5 ∧
      ((withLine { Line.powerOn with enabled := true, link := .waking, wait := .idle 15 }).line 0).wait = .idle 15 ∧
      ((withLine { Line.powerOn with enabled := true, link := .rateSearch, wait := .backoff 2000 }).line 0).wait =
        .backoff 2000 ∧
      ((withLine { Line.powerOn with enabled := true, link := .lost, wait := .lost 1000 }).line 0).wait =
        .lost 1000 := by decide

theorem test_witness_WaitreadyAsksUntilItsDeadline :
    let s := withLine { online with link := .waitready, readyDeadline := some 10000 }
    (s.line 0).link = .waitready ∧ (s.line 0).cycleTimer = some 100 ∧ (s.line 0).readyDeadline = some 10000 := by decide

theorem test_witness_ALinkNoticeReachesItsBlocks :
    takeFirst (Notice.isLink 0) [.mode, .link 0 .online .lost, .clock] =
        some (.link 0 .online .lost, [.mode, .clock]) ∧
      takeFirst (Notice.isLink 0) [.link 0 .tagging .online] = some (.link 0 .tagging .online, []) ∧
      takeFirst (Notice.isLink 0) [.link 0 .lost .waking] = some (.link 0 .lost .waking, []) ∧
      site.worked 0 = true ∧ site.mode ≠ .setup ∧ site.isShared 0 = true ∧ (site.faceIn 0 0).isSome = true ∧
      (0 : Zone) ∉ site.declared[(0 : Crane)] := by decide

/-- R55: a link notice out of ONLINE guards zone 1, unless crane 1 was declared clear of it. -/
theorem test_linkNotice_guards :
    let s := { site with notices := [.link 0 .online .lost] }
    (∃ t, exec (.linkNotice 0 []) s = .next t ∧ (t.zone 0).guard = [0] ∧
      t.events.drop 1 = [s.record .guardBegin 1 0 0 1 0]) ∧
      ∃ t, exec (.linkNotice 0 []) (s.setDeclared 0 [0]) = .next t ∧ (t.zone 0).guard = [] ∧ t.events.length = 1 :=
  ⟨⟨_, rfl, by decide⟩, ⟨_, rfl, by decide⟩⟩

/-- Crane 1 in a light wind. -/
def calmSite : State :=
  { site with wind := site.wind.set 0 { WindRec.fresh with
      source := .own, quiet := 0, values := [50, 50, 50], acc := some 12800, level := .calm, unsettled := false } }

/-- Each notice on its way, a link notice into and one out of ONLINE; the conditions of a booking of the crane all met, and
failing for the wind and for the link; and a booking of another crane. -/
theorem test_witness_ANoticeReviewsTheBookings :
    let notices : List Notice := [.level 0 .stop, .service 0 .out, .mode, .clock, .link 0 .online .lost]
    let s := { calmSite with bookings := [booking .suspended, { booking .active with id := 42, crane := 1 }] }
    let lost := withLine { online with link := .lost }
    Notice.isLevel 0 (.level 0 .stop) = true ∧ Notice.isService 0 (.service 0 .out) = true ∧ .mode ∈ notices ∧
      .clock ∈ notices ∧ (takeFirst (Notice.isLink 0) notices).map (·.1) = some (.link 0 .online .lost) ∧
      takeFirst (Notice.isLink 0) [.link 0 .tagging .online] = some (.link 0 .tagging .online, []) ∧
      s.clockValid = true ∧ s.bookings.find? (fun d => d.id == 41) = some (booking .suspended) ∧
      (booking .suspended).crane = 0 ∧ s.obstacle (booking .suspended) = none ∧
      site.obstacle (booking .active) = some .wind ∧ lost.obstacle (booking .active) = some .link ∧
      s.clock < (booking .suspended).finish ∧ State.reset.clockValid = false := by decide

/-- R116, R122, R139: the link notice that brings the crane back to ONLINE resumes its SUSPENDED booking. R115, R171: the
notice of a clock set past its end ends an ACTIVE one. -/
theorem test_notices_review :
    (∃ t, exec (.linkNotice 0 []) { calmSite with
        bookings := [booking .suspended], notices := [.link 0 .tagging .online] } = .next t ∧
      t.bookings.map (fun b => (b.state, b.cause)) = [(.active, .resumed)]) ∧
    ∃ t, exec (.clockNotice []) { calmSite with
        bookings := [booking .active], notices := [.clock], clock := 40000 } = .next t ∧
      t.bookings.map (fun b => (b.state, b.cause)) = [(.ended, .finished)] :=
  ⟨⟨_, rfl, by decide⟩, ⟨_, rfl, by decide⟩⟩

/-- Every clause: the deadline and the end reached and not, the conditions met and failing, the zones clear and not, the
crane in an opened zone and not. -/
theorem test_witness_ClearanceAndLeavingReviewTheBooking :
    let s := fun (st : BookingState) => { calmSite with bookings := [booking st], notices := [.clearance 0 41 true] }
    let u := { site with bookings := [booking .closing], notices := [.insideLeft 0 1] }
    let b := booking .calling
    let inside := site.setZone 1 { ZoneRt.empty with inside := [0] }
    (s .calling).clockValid = true ∧ (s .calling).bookings.find? (fun d => d.id == b.id) = some b ∧
      Notice.isClearance 0 41 (.clearance 0 41 true) = true ∧ (s .calling).clock < b.deadline ∧
      b.deadline ≤ { s .calling with clock := 36300 }.clock ∧ b.finish ≤ { s .calling with clock := 37200 }.clock ∧
      (s .calling).clock < b.finish ∧ calmSite.mode = .run ∧ (calmSite.line 0).link = .online ∧
      calmSite.service[(0 : Crane)] = .inService ∧ calmSite.wind[(0 : Crane)].level = .calm ∧
      calmSite.wind[(0 : Crane)].values ≠ [] ∧ (50 + 50 + 50 + 3 - 1) / 3 ≤ (calmSite.craneRec 0).stopGust ∧
      site.wind[(0 : Crane)].level = .stop ∧
      (∀ y ∈ b.reserved, ((s .calling).zone y).holder = none ∧ ((s .calling).zone y).sweep = []) ∧
      ((s .calling).setZone 0 { ZoneRt.empty with holder := some 1 }).zone 0 = { ZoneRt.empty with holder := some 1 } ∧
      (0 : Crane) ∈ (inside.zone 1).inside ∧ (1 : Zone) ∈ b.opened ∧
      u.bookings.find? (fun d => d.id == (booking .closing).id) = some (booking .closing) ∧
      Notice.isInsideLeft 0 1 (.insideLeft 0 1) = true ∧
      (∀ y ∈ (booking .closing).opened, (booking .closing).crane ∉ (u.zone y).inside) := by decide

/-- The clearance that makes a CALLING booking ACTIVE, and the one that ends it at its deadline. -/
theorem test_clearance_activates :
    let s := { calmSite with bookings := [booking .calling], notices := [.clearance 0 41 true] }
    (∃ t, exec (.clearanceNotice 0 41) s = .next t ∧ t.bookings.map (·.state) = [.active]) ∧
      ∃ t, exec (.clearanceNotice 0 41) { s with clock := 36300 } = .next t ∧ t.bookings.map (·.state) = [.lapsed] :=
  ⟨⟨_, rfl, by decide⟩, ⟨_, rfl, by decide⟩⟩

/-- Each state of a booking, one second before, at and after each of its moments, and the second at which the clock
wraps. -/
theorem test_witness_ASecondAdvancesTheClock :
    let b := { booking .booked with reserved := [] }
    let s := fun (clock : Nat) => { calmSite with bookings := [b], clock := clock }
    (s 0).clockValid = true ∧ (s 0).bookings.find? (fun d => d.id == b.id) = some b ∧ b.state = .booked ∧
      (s 35998).clock + 1 < b.start ∧ b.start ≤ (s 35999).clock + 1 ∧ (s 35999).clock + 1 < b.deadline ∧
      (s 35999).obstacle b = none ∧ b.deadline ≤ (s 36299).clock + 1 ∧ b.finish ≤ (s 37199).clock + 1 ∧
      (s 37198).clock + 1 < b.finish ∧ ((s 4294967295).clock + 1) % 4294967296 = 0 ∧
      site.obstacle b = some .wind ∧ State.reset.clockValid = false ∧
      (booking .active).crane ∈ ((site.setZone 1 { ZoneRt.empty with inside := [0] }).zone 1).inside := by decide

/-- A booking alone with its reserved zone, that zone clear for it and held by another crane. -/
theorem test_witness_ASecondAdvancesTheClock_reserved :
    let b := booking .booked
    let s := { calmSite with bookings := [b], clock := 35999 }
    let u := { s with clock := 36000 }
    let held := u.setZone 0 { ZoneRt.empty with holder := some 1 }
    b.reserved.Nodup ∧ s.bookings = [b] ∧ b.reserved = [0] ∧ s.obstacle b = none ∧
      ((u.courseOf 0).place u 0 b.id b.crane).record.holder = none ∧
      ((u.courseOf 0).place u 0 b.id b.crane).record.sweep = [] ∧
      ((held.courseOf 0).place held 0 b.id b.crane).record.holder = some 1 := by decide

/-- R113, R114: at its start the booking is called and, its zone being clear, ACTIVE at once; with the zone held by crane
2 it waits as CALLING. -/
theorem test_clockSecond_calls :
    let s := { calmSite with bookings := [booking .booked], clock := 35999 }
    (∃ t, exec (.clockSecond []) s = .next t ∧ t.bookings.map (fun b => (b.state, b.cause)) = [(.active, .cleared)] ∧
      (t.zone 0).reservation = some { id := 41, crane := 0, phase := .active } ∧ t.events.length = 3) ∧
      ∃ t, exec (.clockSecond []) (s.setZone 0 { ZoneRt.empty with holder := some 1 }) = .next t ∧
        t.bookings.map (fun b => (b.state, b.cause)) = [(.calling, .called)] ∧
        (t.zone 0).reservation = some { id := 41, crane := 0, phase := .calling } ∧
        t.notices = [.clearance 0 41 false] :=
  ⟨⟨_, rfl, by decide⟩, ⟨_, rfl, by decide⟩⟩

/-- An ACTIVE booking ends at its end. -/
theorem test_clockSecond_ends :
    let s := { calmSite with bookings := [booking .active], clock := 37199 }
    ∃ t, exec (.clockSecond []) s = .next t ∧ t.bookings.map (fun b => (b.state, b.cause, b.terminal)) =
      [(.ended, .finished, some 37200)] := ⟨_, rfl, by decide⟩

/-- Crane 1's wind record as given. -/
def windy (w : WindRec) : State := { site with wind := site.wind.set 0 w }

/-- A record that is settled, in a light wind, at the level given with the eligible seconds given. -/
def settled (level : WindLevel) (eligible : Nat) : WindRec :=
  { WindRec.fresh with
    source := .own, quiet := 0, ownSum := 50, ownCount := 1, values := [50, 50, 50], acc := some 12800, level := level
    eligible := eligible, unsettled := false }

/-- A record with fewer than three second values and one with three; one whose level rises; one that does not ease; one
that eases one second before and at the end of its hold. -/
theorem test_witness_EverySlotClosesOnce :
    let after := fun (w : WindRec) => match exec (.slotClose []) (windy w) with
      | .next t => (t.wind[(0 : Crane)].level, t.wind[(0 : Crane)].eligible, t.wind[(0 : Crane)].unsettled)
      | _ => (.calm, 0, false)
    site.crane 0 = some crane ∧ crane.absent = false ∧ site.worked 7 = false ∧
      after WindRec.fresh = (.stop, 0, true) ∧
      after { settled .stop 0 with values := [50, 50], unsettled := true } = (.calm, 0, false) ∧
      after { settled .calm 0 with ownSum := 200, values := [200, 200, 50] } = (.storm, 0, false) ∧
      after (settled .calm 0) = (.calm, 0, false) ∧ after (settled .caution 58) = (.caution, 59, false) ∧
      after (settled .caution 59) = (.calm, 0, false) := by decide

/-- The site with the mast exchange given. -/
def calling (x : MastExchange) : State := { site with mastLine := { site.mastLine with exchange := some x } }

theorem test_witness_AMastIsCalledAndAnswers :
    let x : MastExchange := { mast := 0, discard := false, progress := .window 50 [] false }
    site.mastLine.exchange = none ∧ site.mastLine.rx = .hunt false ∧ site.mastLine.slot ≠ 3 ∧
      { site.mastLine with slot := 3 }.slot = 3 ∧
      (calling { x with progress := .sending }).mastLine.exchange = some { x with progress := .sending } ∧
      (calling x).mastLine.exchange = some x ∧ x.discard = false ∧
      (calling x).mastLine.masts[x.mast] = some { state := .unknown, misses := 0 } ∧
      (site.setMast 0 (some { state := .unknown, misses := 2 })).mastLine.masts[(0 : Mast)] =
        some { state := .unknown, misses := 2 } ∧
      (site.setMast 0 (some { state := .missing, misses := 3 })).mastLine.masts[(0 : Mast)] =
        some { state := .missing, misses := 3 } ∧
      (Receiver.hunt true) ≠ .hunt false ∧ { x with discard := true }.discard = true ∧
      [(1 : Byte), 2, 0x58].length = 3 ∧ oct [1, 2, 0x58, 0xFE] 0 = number x.mast ∧
      (0xFE : Byte) = 0xA5 ^^^ 1 ^^^ 2 ^^^ 0x58 ∧ oct [2, 2, 0x58, 0xFE] 0 ≠ number x.mast ∧
      takeFirst (Notice.isMast 0) [.mast 0 .present (some 50)] = some (.mast 0 .present (some 50), []) := by decide

set_option maxRecDepth 20000 in
/-- R161, R162, R16: the fourth character completes a valid reply; with another check octet, or another mast's number, or
a framing error, it is a miss; and an exchange marked for discard leaves record and notices alone. -/
theorem test_mast_judged :
    let ends := fun (first : Byte) (framing discard : Bool) (check : Byte) =>
      match exec (.mastCharacter (wave (mastBits check false)))
        (calling { mast := 0, discard := discard, progress := .window 50 [first, 0, 0x9D] framing }) with
      | .next t => some (t.mastLine.masts[(0 : Mast)], t.notices)
      | .fault _ | .refused _ => none
    let miss : Option MastRt := some { state := .unknown, misses := 1 }
    ends 1 false false 0x39 = some (some { state := .present, misses := 0 }, [.mast 0 .present (some 157)]) ∧
      ends 1 false false 0x3A = some (miss, [.mast 0 .unknown none]) ∧
      ends 2 false false 0x3A = some (miss, [.mast 0 .unknown none]) ∧
      ends 1 true false 0x39 = some (miss, [.mast 0 .unknown none]) ∧
      ends 1 false true 0x39 = some (some { state := .unknown, misses := 0 }, []) := by decide

/-- The widest and the narrowest arc, and two arcs that touch at north. -/
theorem test_witness_ArcsOverlapExactlyWhenTheyShareAnAngle :
    overlap 3599 1 0 3600 = true ∧ overlap 3599 1 0 1 = false ∧ (3599 + 1) % 3600 = 0 ∧ 1 + 1 ≤ 3600 := by decide

/-- A record for each step of the grant pass. -/
theorem test_witness_TheGrantPassTakesItsSteps :
    { ZoneRt.empty with holder := some 0 }.holder ≠ none ∧ { ZoneRt.empty with claims := [1] }.claims ≠ [] ∧
      { ZoneRt.empty with guard := [1], waiting := [0] }.guard ≠ [] ∧
      { ZoneRt.empty with waiting := [0, 1], inside := [1] }.waiting = [0] ++ 1 :: [] ∧
      (1 : Crane) ∈ { ZoneRt.empty with waiting := [0, 1], inside := [1] }.inside := by decide

/-- A gust at the storm gust raises a CALM crane straight to STORM. -/
theorem test_witness_TheWindLevelRisesAtOnce :
    let w := { settled .calm 0 with ownSum := 200, values := [200, 200, 50] }
    let q := w.close crane .powerOn none
    w.unsettled = false ∧ crane.stormGust ≤ (q.values.sum + q.values.length - 1) / q.values.length ∧ q.values ≠ [] ∧
      q.acc ≠ none ∧ w.level.code < WindLevel.storm.code := by decide

theorem test_witness_ARequestIsGrantedAtOnceOrWaits :
    ZoneRt.empty.involves 0 = false ∧ { ZoneRt.empty with guard := [1] }.involves 0 = false := by decide

/-- A zone that is swept, held and contested, with the crane inside it and outside; a restricted zone opened and not. -/
theorem test_witness_ThePermitIsTheLowestOfItsContributions :
    Permit.cw ∈ [Permit.cw, Permit.ccw, Permit.outward, Permit.inward, Permit.up, Permit.down] ∧
      let swept := { ZoneRt.empty with sweep := [0] }
      let held := { ZoneRt.empty with holder := some 0 }
      let contested := { ZoneRt.empty with inside := [0, 1], mover := some 0 }
      (site.faceIn 0 0).map (·.1.kind) = some .shared ∧ (site.faceIn 0 1).map (·.1.kind) = some .restricted ∧
        (0 : Crane) ∈ swept.sweep ∧ held.holder = some 0 ∧ held.inside = [] ∧
        (∃ j ∈ contested.inside, contested.holder ≠ some j ∧ j ∉ contested.sweep) ∧ contested.mover = some 0 ∧
        (∃ b ∈ (booked .active .mode).bookings, b.crane = 0 ∧ b.state = .active ∧ (1 : Zone) ∈ b.opened) ∧
        site.bookings = [] ∧ site.mode ≠ .setup ∧ setupSite.mode = .setup :=
  ⟨List.mem_cons_self, by decide⟩

end Sys2Proof.Tests
end

section
/-! SUPPORT. Each command completes, and touches no part of the state but its own. -/

namespace Sys2Proof.Machine

/-! ## Within, from a change written out -/

theorem State.withNotices_within (s : State) (l : List Notice) : Within [.notices] s { s with notices := l } := by
  constructor; intro p hp; cases p <;> first | rfl | simp at hp

theorem State.withMastLine_within (s : State) (l : MastLine) : Within [.mastLine] s { s with mastLine := l } := by
  constructor; intro p hp; cases p <;> first | rfl | simp at hp

/-! ## The events of a crane line -/

variable (s : State)

theorem State.cycleExpires_within (k : Crane) : Within (.msCount :: cycleParts) s (s.cycleExpires k) := by
  unfold State.cycleExpires
  split
  · exact Within.refl ..
  · exact Within.ite (((State.reach_within ..).mono (by decide)).trans ((State.expireCycle_within ..).mono (by decide)))
      (Within.refl ..)

theorem State.frameIsSent_within (k : Crane) : Within [.lines] s (s.frameIsSent k) := by
  unfold State.frameIsSent
  split
  · exact Within.refl ..
  · exact Within.ite (State.modLine_within ..) (Within.refl ..)

theorem State.windowCloses_within (k : Crane) : Within (.msCount :: lineParts) s (s.windowCloses k) := by
  unfold State.windowCloses
  split
  · exact Within.refl ..
  split
  · exact ((State.reach_within ..).mono (by decide)).trans ((State.exchangeFailed_within ..).mono (by decide))
  · exact Within.refl ..
  · exact Within.refl ..

theorem State.silencePasses_within (k : Crane) : Within lineParts s (s.silencePasses k) := by
  unfold State.silencePasses
  split
  · exact Within.refl ..
  split
  · exact Within.ite (Within.refl ..) (State.exchangeFailed_within ..)
  · exact Within.refl ..
  · exact Within.refl ..

theorem State.pulseEnds_within (k : Crane) : Within [.msCount, .lines] s (s.pulseEnds k) := by
  unfold State.pulseEnds
  split
  case h_1 due _ =>
    exact ((s.reach_within due).mono (by decide)).trans ((State.modLine_within ..).mono (by decide))
  all_goals exact Within.refl ..

theorem State.idleEnds_within (k : Crane) : Within [.msCount, .lines, .notices] s (s.idleEnds k) := by
  unfold State.idleEnds
  split
  case h_1 due _ =>
    exact ((s.reach_within due).mono (by decide)).trans ((State.enterRateSearch_within ..).mono (by decide))
  all_goals exact Within.refl ..

/-- The clock comes to the end of a wait, and the line starts again with a wake pulse. -/
theorem State.reachWaking_within (k : Crane) (due : Moment) (keep : Bool) :
    Within [.msCount, .lines, .notices] s ((s.reach due).enterWaking k keep) :=
  ((s.reach_within due).mono (by decide)).trans ((State.wakingOnly_within ..).mono (by decide))

theorem State.backoffEnds_within (k : Crane) : Within [.msCount, .lines, .notices] s (s.backoffEnds k) := by
  unfold State.backoffEnds
  split
  case h_1 => exact State.reachWaking_within ..
  all_goals exact Within.refl ..

theorem State.lostEnds_within (k : Crane) : Within [.msCount, .lines, .notices] s (s.lostEnds k) := by
  unfold State.lostEnds
  split
  case h_1 => exact State.reachWaking_within ..
  all_goals exact Within.refl ..

theorem State.asksAgain_within (k : Crane) : Within (.msCount :: lineParts) s (s.asksAgain k) := by
  unfold State.asksAgain
  split
  case h_1 => exact Within.refl ..
  case h_2 due _ =>
    refine Within.ite ?_ (Within.refl ..)
    have ended : Within (.msCount :: lineParts) s ((s.reach due).endIncomplete k) :=
      ((s.reach_within due).mono (by decide)).trans ((State.endIncomplete_within ..).mono (by decide))
    exact (ended.trans ((State.startCycle_within ..).mono (by decide))).trans
      ((State.beginExchange_within ..).mono (by decide))

theorem State.deadlinePasses_within (k : Crane) : Within (.msCount :: lineParts) s (s.deadlinePasses k) := by
  unfold State.deadlinePasses
  split
  case h_1 => exact Within.refl ..
  case h_2 due _ =>
    refine Within.ite ?_ (Within.refl ..)
    have dropped : Within (.msCount :: lineParts) s ((s.reach due).dropExchange k) :=
      ((s.reach_within due).mono (by decide)).trans ((State.dropExchange_within ..).mono (by decide))
    exact dropped.trans ((State.enterLost_within ..).mono (by decide))

/-- The samples of a reply, taken under some condition. -/
theorem State.sampleLinesIf_within (k : Crane) (x : Samples) (c : Prop) [Decidable c] :
    Within charParts s (if c then s.sampleLines k x else s) :=
  Within.ite (State.sampleLines_within ..) (Within.refl ..)

/-! ## The events of the mast line -/

theorem State.slotStarts_within : Within [.msCount, .mastLine] s s.slotStarts := by
  unfold State.slotStarts
  exact Within.ite (Within.refl ..)
    (((State.reach_within ..).mono (by decide)).trans ((State.beginSlot_within ..).mono (by decide)))

theorem State.mastWindowOpens_within : Within [.mastLine] s s.mastWindowOpens := by
  unfold State.mastWindowOpens
  split
  · exact Within.refl ..
  · exact Within.ite (State.withMastLine_within ..) (Within.refl ..)

theorem State.mastWindowCloses_within : Within (.msCount :: mastParts) s s.mastWindowCloses := by
  unfold State.mastWindowCloses
  split
  · exact Within.refl ..
  split
  · exact ((State.reach_within ..).mono (by decide)).trans ((State.endMastExchange_within ..).mono (by decide))
  · exact Within.refl ..

/-! ## RESTART as a request -/

theorem State.restartRequest_within : Within [.port] s s.restartRequest.state := by
  rw [State.restartRequest, State.done_state]
  exact State.modPort_within ..

/-! ## Every command -/

/-- A request completes, and touches no more than its owner and the port do. -/
theorem State.serve_completes {ps : List Part} (f : Frame) (own : State → Answer) (hp : Part.port ∈ ps)
    (h : ∀ s, Within ps s (own s).state) :
    ∃ t, (.next (s.serve f own) : Result) = .next t ∧ Within ps s t :=
  ⟨_, rfl, State.serve_within s f own hp h⟩

/-- A delivered notice. -/
theorem State.deliver_completes {ps : List Part} (p : Notice → Bool) (act : Notice → State → State)
    (hn : Part.notices ∈ ps) (h : ∀ n s, Within ps s (act n s)) :
    ∃ t, (.next (s.deliver p act) : Result) = .next t ∧ Within ps s t :=
  ⟨_, rfl, State.deliver_within s p act hn h⟩

theorem exec_completes_within (c : Instr) (s : State) : ∃ t, exec c s = .next t ∧ Within (touches c) s t := by
  cases c <;> dsimp only [touches]
  case powerOn => exact ⟨_, rfl, by constructor; intro p hp; cases p <;> first | rfl | simp at hp⟩
  case supervisorOctet x => exact ⟨_, rfl, State.modPort_within ..⟩
  case frameGapTimeout => exact ⟨_, rfl, State.modPort_within ..⟩
  case unknownType typ seq p =>
    exact ⟨_, rfl, Within.ite (Within.refl ..)
      (State.serve_within _ _ _ (by decide) (fun s => Within.refl ..))⟩
  case replySend r => exact ⟨_, rfl, State.modPort_within ..⟩
  case replySent => exact ⟨_, rfl, State.replySent_within s⟩
  case status seq p =>
    exact s.serve_completes _ _ (by decide) (withLength_within _ _ _ fun s => Within.refl ..)
  case start seq p =>
    exact s.serve_completes _ _ (by decide)
      (withLength_within _ _ _ fun s => (s.startRequest_within).mono (by decide))
  case hold seq p =>
    exact s.serve_completes _ _ (by decide)
      (withLength_within _ _ _ fun s => (s.holdRequest_within).mono (by decide))
  case resume seq p =>
    exact s.serve_completes _ _ (by decide)
      (withLength_within _ _ _ fun s => (s.resumeRequest_within).mono (by decide))
  case setup seq p =>
    exact s.serve_completes _ _ (by decide)
      (withLength_within _ _ _ fun s => (s.setupRequest_within).mono (by decide))
  case restart seq p =>
    exact s.serve_completes _ _ (by decide) (withLength_within _ _ _ fun s => s.restartRequest_within)
  case clock seq p =>
    exact s.serve_completes _ _ (by decide)
      (withLength_within _ _ _ fun s => (s.clockRequest_within _).mono (by decide))
  case tag seq p =>
    exact s.serve_completes _ _ (by decide)
      (withLength_within _ _ _ fun s => (s.tagRequest_within _).mono (by decide))
  case attnMask seq p =>
    exact s.serve_completes _ _ (by decide) (withLength_within _ _ _ fun s => s.maskRequest_within _)
  case craneDef seq p =>
    refine s.serve_completes _ _ (by decide) (withLength_within _ _ _ (inSetup_within _ fun s => ?_))
    split
    · exact Within.refl ..
    · exact (s.craneDefRequest_within ..).mono (by decide)
  case craneClear seq p =>
    exact s.serve_completes _ _ (by decide) (withLength_within _ _ _ (inSetup_within _
      (withCrane_within _ _ fun k s => (s.craneClearRequest_within k).mono (by decide))))
  case craneRead seq p =>
    refine s.serve_completes _ _ (by decide) (withLength_within _ _ _ (withCrane_within _ _ fun k s => ?_))
    unfold State.craneReadRequest
    split <;> exact Within.refl ..
  case zoneDef seq p =>
    refine s.serve_completes _ _ (by decide) (withLength_within _ _ _ (inSetup_within _ fun s => ?_))
    split
    · exact Within.refl ..
    · exact (s.zoneDefRequest_within ..).mono (by decide)
  case zoneDel seq p =>
    exact s.serve_completes _ _ (by decide) (withLength_within _ _ _ (inSetup_within _
      (withZone_within _ _ fun z s => (s.zoneDelRequest_within z).mono (by decide))))
  case zoneRead seq p =>
    refine s.serve_completes _ _ (by decide) (withLength_within _ _ _ (withZone_within _ _ fun z s => ?_))
    unfold State.zoneReadRequest
    split <;> exact Within.refl ..
  case mastDef seq p =>
    refine s.serve_completes _ _ (by decide) (withLength_within _ _ _ (inSetup_within _ fun s => ?_))
    split
    · exact Within.refl ..
    · exact Answer.ite_within ((s.mastDefRequest_within ..).mono (by decide)) (Within.refl ..)
  case siteDef seq p =>
    exact s.serve_completes _ _ (by decide) (withLength_within _ _ _ (inSetup_within _
      fun s => (s.siteDefRequest_within _).mono (by decide)))
  case siteRead seq p =>
    exact s.serve_completes _ _ (by decide) (withLength_within _ _ _ fun s => Within.refl ..)
  case lineOn seq p =>
    exact s.serve_completes _ _ (by decide) (withLength_within _ _ _
      (withCrane_within _ _ fun k s => (s.lineOnRequest_within k).mono (by decide)))
  case lineOff seq p =>
    exact s.serve_completes _ _ (by decide) (withLength_within _ _ _
      (withCrane_within _ _ fun k s => (s.lineOffRequest_within k).mono (by decide)))
  case service seq p =>
    refine s.serve_completes _ _ (by decide) (withLength_within _ _ _ (withCrane_within _ _ fun k s => ?_))
    split
    · exact Within.refl ..
    · exact (s.serviceRequest_within ..).mono (by decide)
  case craneState seq p =>
    exact s.serve_completes _ _ (by decide) (withLength_within _ _ _ (withCrane_within _ _ fun k s =>
      Answer.ite_within ((s.craneStateRequest_within ..).mono (by decide)) (Within.refl ..)))
  case text seq p =>
    exact s.serve_completes _ _ (by decide) (withLength_within _ _ _
      (withCrane_within _ _ fun k s => (s.textRequest_within ..).mono (by decide)))
  case declare seq p =>
    refine s.serve_completes _ _ (by decide) (withLength_within _ _ _ fun s =>
      Answer.ite_within (Within.refl ..) (withCrane_within _ _ (fun k s => ?_) s))
    split
    · exact Within.refl ..
    · exact (s.declareRequest_within ..).mono (by decide)
  case zoneState seq p =>
    exact s.serve_completes _ _ (by decide) (withLength_within _ _ _
      (withZone_within _ _ fun z s => (s.zoneStateRequest_within z).mono (by decide)))
  case resolve seq p =>
    refine s.serve_completes _ _ (by decide) (withLength_within _ _ _ fun s =>
      Answer.ite_within (Within.refl ..) (withZone_within _ _ (fun z s => ?_) s))
    split
    · exact Within.refl ..
    · exact (s.resolveRequest_within ..).mono (by decide)
  case windRead seq p =>
    exact s.serve_completes _ _ (by decide) (withLength_within _ _ _ (withCrane_within _ _ fun k s =>
      Answer.ite_within (Within.refl ..) (Within.refl ..)))
  case book seq p =>
    refine s.serve_completes _ _ (by decide) (withLength_within _ _ _ fun s => ?_)
    split
    · exact Within.refl ..
    · exact (s.bookRequest_within ..).mono (by decide)
  case cancel seq p =>
    exact s.serve_completes _ _ (by decide) (withLength_within _ _ _
      (withBooking_within _ _ fun b s => (s.cancelRequest_within b).mono (by decide)))
  case bookingRead seq p =>
    exact s.serve_completes _ _ (by decide) (withLength_within _ _ _
      (withBooking_within _ _ fun b s => Within.refl ..))
  case bookingList seq p =>
    exact s.serve_completes _ _ (by decide) (withLength_within _ _ _ fun s => Within.refl ..)
  case bookingRemove seq p =>
    exact s.serve_completes _ _ (by decide) (withLength_within _ _ _
      (withBooking_within _ _ fun b s => (s.bookingRemoveRequest_within b).mono (by decide)))
  case events seq p =>
    exact s.serve_completes _ _ (by decide)
      (withLength_within _ _ _ fun s => (s.eventsRequest_within).mono (by decide))
  case cycleExpiry k => exact ⟨_, rfl, (s.cycleExpires_within k).mono (by decide)⟩
  case frameSent k => exact ⟨_, rfl, s.frameIsSent_within k⟩
  case replyWindowClose k => exact ⟨_, rfl, (s.windowCloses_within k).mono (by decide)⟩
  case silenceLimit k => exact ⟨_, rfl, s.silencePasses_within k⟩
  case replyBufferFull k x => exact ⟨_, rfl, s.sampleLinesIf_within k x _⟩
  case report k x => exact ⟨_, rfl, s.sampleLinesIf_within k x _⟩
  case echo k x => exact ⟨_, rfl, s.sampleLinesIf_within k x _⟩
  case ready k x => exact ⟨_, rfl, s.sampleLinesIf_within k x _⟩
  case ident k x => exact ⟨_, rfl, s.sampleLinesIf_within k x _⟩
  case wakePulseEnd k => exact ⟨_, rfl, s.pulseEnds_within k⟩
  case wakeIdleEnd k => exact ⟨_, rfl, s.idleEnds_within k⟩
  case backoffExpiry k => exact ⟨_, rfl, s.backoffEnds_within k⟩
  case waitreadyExpiry k => exact ⟨_, rfl, s.asksAgain_within k⟩
  case readyDeadline k => exact ⟨_, rfl, s.deadlinePasses_within k⟩
  case lostExpiry k => exact ⟨_, rfl, s.lostEnds_within k⟩
  case linkNotice k order =>
    refine s.deliver_completes _ _ (by decide) fun n s => ?_
    split
    · exact (s.linkChanged_within ..)
    all_goals exact Within.refl ..
  case slotClose order => exact ⟨_, rfl, s.slotsClose_within order⟩
  case levelNotice k order =>
    exact s.deliver_completes _ _ (by decide) fun n s => s.reviewAll_within ..
  case serviceNotice k order =>
    exact s.deliver_completes _ _ (by decide) fun n s => s.reviewAll_within ..
  case modeNotice order =>
    exact s.deliver_completes _ _ (by decide) fun n s => s.reviewAll_within ..
  case clockNotice order =>
    exact s.deliver_completes _ _ (by decide) fun n s => s.reviewAll_within ..
  case clearanceNotice z id =>
    exact s.deliver_completes _ _ (by decide) fun n s => s.review_within ..
  case insideLeftNotice k z order =>
    exact s.deliver_completes _ _ (by decide) fun n s => s.reviewAll_within ..
  case clockSecond order => exact ⟨_, rfl, s.secondPasses_within order⟩
  case mastSlotStart => exact ⟨_, rfl, s.slotStarts_within⟩
  case mastRequestSent => exact ⟨_, rfl, s.mastWindowOpens_within⟩
  case mastReply x => exact ⟨_, rfl, s.sampleMasts_within x⟩
  case mastWindowClose => exact ⟨_, rfl, s.mastWindowCloses_within⟩
  case mastNotice m =>
    refine s.deliver_completes _ _ (by decide) fun n s => ?_
    split
    · exact (s.takeMastNotice_within ..).mono (by decide)
    all_goals exact Within.refl ..
  case replyCharacter k x => exact ⟨_, rfl, s.sampleLines_within k x⟩
  case mastCharacter x => exact ⟨_, rfl, s.sampleMasts_within x⟩

end Sys2Proof.Machine
end

section
/-! SUPPORT. The Site Model outside SETUP (R3): which steps keep it, and what a configuration request comes to. -/

namespace Sys2Proof.Machine

/-! ## Keeping the Site Model -/

/-- Going from `s` to `t` the Site Model is kept: crane records, zone definitions, parameters, tag, and which masts are
Defined (01). -/
structure State.KeepsSiteModel (s t : State) : Prop where
  cranes : t.cranes = s.cranes
  zones : t.zones = s.zones
  params : t.params = s.params
  tag : t.tag = s.tag
  masts : ∀ m, t.mastDefined m = s.mastDefined m

/-- The parts of the state that hold the Site Model alone. -/
def siteModelParts : List Part := [.cranes, .zones, .params, .tag]

/-- A step that touches no Site Model part keeps the Site Model, as long as it defines and undefines no mast. -/
theorem Within.keepsSiteModel_of_masts {ps : List Part} {s t : State} (h : Within ps s t)
    (hp : ∀ p ∈ siteModelParts, p ∉ ps) (hm : ∀ m, t.mastDefined m = s.mastDefined m) : s.KeepsSiteModel t :=
  ⟨h.same .cranes (hp _ (by decide)), h.same .zones (hp _ (by decide)), h.same .params (hp _ (by decide)),
    h.same .tag (hp _ (by decide)), hm⟩

theorem State.mastDefined_congr {s t : State} (h : t.mastLine.masts = s.mastLine.masts) (m : Mast) :
    t.mastDefined m = s.mastDefined m := by
  simp only [State.mastDefined, h]

theorem Within.keepsSiteModel {ps : List Part} {s t : State} (h : Within ps s t)
    (hp : ∀ p ∈ .mastLine :: siteModelParts, p ∉ ps) : s.KeepsSiteModel t :=
  h.keepsSiteModel_of_masts (fun p hm => hp p (List.mem_cons_of_mem _ hm))
    (State.mastDefined_congr (congrArg MastLine.masts (h.same .mastLine (hp _ List.mem_cons_self))))

/-! ## The mast line defines and undefines no mast -/

/-- A new runtime record for a mast that is Defined, or none for one that is not, defines and undefines nothing. -/
theorem State.mastDefined_setMast {s : State} {m : Mast} {r : Option MastRt} (h : r.isSome = s.mastDefined m)
    (n : Mast) :
    (s.setMast m r).mastDefined n = s.mastDefined n := by
  simp only [State.mastDefined, State.masts_setMast] at h ⊢
  split
  · rename_i e; rw [h, e]
  · rfl

theorem State.endMastExchange_mastDefined (s : State) (x : MastExchange) (result : Option Nat) (m : Mast) :
    (s.endMastExchange x result).mastDefined m = s.mastDefined m := by
  unfold State.endMastExchange
  dsimp only
  split
  · rfl
  · split
    · rfl
    · rename_i before hb
      have defined : (some (before.after result)).isSome = s.dropMastExchange.mastDefined x.mast := by
        simp only [State.mastDefined, hb, Option.isSome_some]
      refine Eq.trans (State.mastDefined_congr ?_ m) (State.mastDefined_setMast defined m)
      simp only [State.post_mastLine, State.mastEvents_mastLine]

theorem State.takeMastChar_mastDefined (s : State) (c : LineChar) (m : Mast) :
    (s.takeMastChar c).mastDefined m = s.mastDefined m := by
  unfold State.takeMastChar
  split
  · rfl
  split
  · rfl
  split
  · rfl
  dsimp only
  split
  · exact State.endMastExchange_mastDefined ..
  · rfl

theorem State.sampleMast_mastDefined (s : State) (b : Bool) (m : Mast) :
    (s.sampleMast b).mastDefined m = s.mastDefined m := by
  unfold State.sampleMast
  split
  · rfl
  · unfold State.hearMast
    dsimp only
    split
    · rfl
    · rfl
    · exact State.takeMastChar_mastDefined ..

theorem State.sampleMasts_mastDefined (x : Samples) (m : Mast) :
    ∀ s : State, (s.sampleMasts x).mastDefined m = s.mastDefined m := by
  induction x with
  | nil => intro s; rfl
  | cons b x ih => intro s; rw [State.sampleMasts_cons, ih, State.sampleMast_mastDefined]

theorem State.slotStarts_mastDefined (s : State) (m : Mast) : s.slotStarts.mastDefined m = s.mastDefined m := by
  unfold State.slotStarts
  split
  · rfl
  · exact State.mastDefined_congr (congrArg MastLine.masts (State.reach_mastLine ..)) m

theorem State.mastWindowOpens_mastDefined (s : State) (m : Mast) :
    s.mastWindowOpens.mastDefined m = s.mastDefined m := by
  unfold State.mastWindowOpens
  split
  · rfl
  · split <;> rfl

theorem State.mastWindowCloses_mastDefined (s : State) (m : Mast) :
    s.mastWindowCloses.mastDefined m = s.mastDefined m := by
  unfold State.mastWindowCloses
  split
  · rfl
  · split
    · rw [State.endMastExchange_mastDefined]
      exact State.mastDefined_congr (congrArg MastLine.masts (State.reach_mastLine ..)) m
    · rfl

/-! ## A restart keeps the Defined masts (R164) -/

theorem State.restartMasts_mastDefined (s : State) (m : Mast) : s.restartMasts.mastDefined m = s.mastDefined m := by
  have fold : ∀ (l : List Mast) (s : State), (l.foldl (fun s m =>
      s.setMast m ((s.mastLine.masts[m]).map (fun _ => MastRt.unknown))) s).mastDefined m = s.mastDefined m := by
    intro l
    induction l with
    | nil => intro s; rfl
    | cons n l ih =>
      intro s
      rw [List.foldl_cons, ih]
      exact State.mastDefined_setMast (by simp [State.mastDefined]) m
  exact fold allMasts s

theorem State.beginSlot_mastDefined (s : State) (m : Mast) (due : Moment) (n : Mast) :
    (s.beginSlot m due).mastDefined n = s.mastDefined n := rfl

theorem State.restartLines_mastDefined (s : State) (m : Mast) : s.restartLines.mastDefined m = s.mastDefined m :=
  State.mastDefined_congr (congrArg MastLine.masts (s.restartLines_within.same .mastLine (by decide))) m

theorem State.cancelAll_mastDefined (s : State) (cause : BookingCause) (events : Bool) (m : Mast) :
    (s.cancelAll cause events).mastDefined m = s.mastDefined m :=
  State.mastDefined_congr (congrArg MastLine.masts ((s.cancelAll_within cause events).same .mastLine (by decide))) m

theorem State.restart_mastDefined (s : State) (m : Mast) : s.restart.mastDefined m = s.mastDefined m := by
  unfold State.restart
  dsimp only
  rw [State.mastDefined_congr (congrArg MastLine.masts (State.emit_mastLine ..)),
    State.mastDefined_congr (congrArg MastLine.masts (State.modPort_mastLine ..)), State.beginSlot_mastDefined,
    State.restartMasts_mastDefined, State.restartLines_mastDefined]
  exact s.cancelAll_mastDefined .restart false m

theorem State.replySent_mastDefined (s : State) (m : Mast) : s.replySent.mastDefined m = s.mastDefined m := by
  unfold State.replySent
  split
  · dsimp only
    split
    · exact State.restart_mastDefined _ m
    · rfl
  · rfl

/-! ## Configuration requests (R3) -/

theorem inSetup_of_not_setup {s : State} (h : s.mode ≠ .setup) (own : State → Answer) :
    inSetup own s = s.refuse .refusedMode := if_pos h

theorem State.tagRequest_of_not_setup {s : State} (h : s.mode ≠ .setup) (t : BitVec 16) :
    s.tagRequest t = s.refuse .refusedMode := if_pos h

/-- A configuration request is served by an owner that checks the length it asks for and then, outside SETUP, refuses
it (R3, R179). -/
theorem exec_of_configures {c : Instr} {f : Frame} (hc : configures c = true) (hf : requestFrame c = some f) :
    ∃ n own, askedLength c = some n ∧ (∀ s, exec c s = .next (s.serve f (withLength n f.payload own))) ∧
      ∀ s, s.mode ≠ .setup → own s = s.refuse .refusedMode := by
  cases c
  case tag =>
    cases hf
    exact ⟨_, _, rfl, fun s => rfl, fun s hs => State.tagRequest_of_not_setup hs _⟩
  case craneDef | craneClear | zoneDef | zoneDel | mastDef | siteDef =>
    cases hf
    exact ⟨_, _, rfl, fun s => rfl, fun s hs => inSetup_of_not_setup hs _⟩
  all_goals cases hc

/-- Settles O27: the frame is taken and has the length asked for, so the check of the mode is the one that answers. -/
theorem configurationIsRefusedOutsideSetup : Obligations.ConfigurationIsRefusedOutsideSetup := by
  intro c f s hc hf hn hs ht
  obtain ⟨n, own, ha, he, ho⟩ := exec_of_configures hc hf
  have len : f.payload.length = n := Option.some.inj (hn.symm.trans ha)
  have refused : withLength n f.payload own s.taken = s.taken.refuse .refusedMode :=
    (withLength_of_eq len own s.taken).trans (ho s.taken hs)
  rw [he s, State.serve_of_canTake _ ht, refused]
  rfl

/-- Outside SETUP a configuration request changes the port alone, whatever its length. -/
theorem exec_configures_within {c : Instr} {s t : State} (hc : configures c = true) (hs : s.mode ≠ .setup)
    (h : exec c s = .next t) : Within [.port] s t := by
  obtain ⟨f, hf⟩ : ∃ f, requestFrame c = some f := by
    cases c <;> first | exact ⟨_, rfl⟩ | cases hc
  obtain ⟨n, own, -, he, ho⟩ := exec_of_configures hc hf
  obtain rfl : s.serve f (withLength n f.payload own) = t := Host.Outcome.next.inj ((he s).symm.trans h)
  have kept : (withLength n f.payload own s.taken).state = s.taken := by
    unfold withLength
    split
    · rw [ho s.taken hs]; rfl
    · rfl
  unfold State.serve
  refine Within.ite (Within.trans s.taken_within ?_) (Within.refl ..)
  change Within [.port] s.taken
    ((withLength n f.payload own s.taken).state.answered f.typ f.seq _ _)
  rw [kept]
  exact State.answered_within ..

/-! ## Every step but a power-on -/

/-- Outside SETUP every command but POWER_ON keeps the Site Model. Most touch none of its parts (`touches`); the
configuration requests are refused; the mast line and the restart write runtime records of masts already Defined. -/
theorem exec_keepsSiteModel {c : Instr} {s t : State} (hc : c ≠ .powerOn) (hs : s.mode ≠ .setup)
    (h : exec c s = .next t) : s.KeepsSiteModel t := by
  obtain ⟨u, hu, hw⟩ := exec_completes_within c s
  obtain rfl : t = u := Host.Outcome.next.inj (h.symm.trans hu)
  by_cases apart : ∀ p ∈ .mastLine :: siteModelParts, p ∉ touches c
  · exact hw.keepsSiteModel apart
  by_cases conf : configures c = true
  · exact (exec_configures_within conf hs h).keepsSiteModel (by decide)
  cases c <;> dsimp only [touches] at hw apart
  case powerOn => exact absurd rfl hc
  case replySent =>
    cases h; exact hw.keepsSiteModel_of_masts (by decide) s.replySent_mastDefined
  case mastSlotStart =>
    cases h; exact hw.keepsSiteModel_of_masts (by decide) s.slotStarts_mastDefined
  case mastRequestSent =>
    cases h; exact hw.keepsSiteModel_of_masts (by decide) s.mastWindowOpens_mastDefined
  case mastReply x | mastCharacter x =>
    cases h; exact hw.keepsSiteModel_of_masts (by decide) fun m => State.sampleMasts_mastDefined x m s
  case mastWindowClose =>
    cases h; exact hw.keepsSiteModel_of_masts (by decide) s.mastWindowCloses_mastDefined
  case tag | craneDef | craneClear | zoneDef | zoneDel | mastDef | siteDef => exact absurd rfl conf
  all_goals exact absurd (by decide) apart

/-- Settles O5: an idle step moves the millisecond count alone, and any other runs a command that keeps the Site
Model. -/
theorem siteModelChangesOnlyInSetup : Obligations.SiteModelChangesOnlyInSetup := by
  intro s t h hs hp
  have kept : s.KeepsSiteModel t := by
    unfold step at h
    split at h
    · cases h
      exact s.tick_within.keepsSiteModel (by decide)
    · rename_i c rest e
      have front : c ≠ .powerOn := by
        rintro rfl
        exact hp (by rw [e]; rfl)
      obtain ⟨h1, h2, h3, h4, h5⟩ := exec_keepsSiteModel (s := { s with pending := rest }) front hs h
      exact ⟨h1, h2, h3, h4, h5⟩
  exact ⟨kept.cranes, kept.zones, kept.params, kept.tag, kept.masts⟩

end Sys2Proof.Machine
end

section
/-! SUPPORT. The arcs of the Site Model (R1, R2). -/

namespace Sys2Proof.Machine

/-- The angle lies within a width of a start exactly when its distance from the start, taken round the circle, is
less (R1). -/
theorem turn_lt_iff (a : Int) (w : Nat) : turn a < w ↔ a % 3600 < w := by
  unfold turn
  omega

theorem inArc_iff (a s w : Nat) : inArc a s w = true ↔ ((a : Int) - s) % 3600 < w := by
  rw [inArc, decide_eq_true_iff, turn_lt_iff]

/-- Two arcs overlap when the start of one lies in the other (R2). -/
theorem overlap_iff (x wx y wy : Nat) :
    overlap x wx y wy = true ↔ ((y : Int) - x) % 3600 < wx ∨ ((x : Int) - y) % 3600 < wy := by
  rw [overlap, Bool.or_eq_true, decide_eq_true_iff, decide_eq_true_iff, turn_lt_iff, turn_lt_iff]

/-- Of two starts that an angle lies beyond, the one it is nearer to lies in the arc of the other (R2). -/
theorem overlap_of_shared {a x wx y wy : Nat} (hx : inArc a x wx = true) (hy : inArc a y wy = true) :
    overlap x wx y wy = true := by
  rw [inArc_iff] at hx hy
  rw [overlap_iff]
  omega

/-- The start that lies in the other arc is an angle of both (R2). -/
theorem shared_of_overlap {x wx y wy : Nat} (hwx : 1 ≤ wx) (hwy : 1 ≤ wy) (h : overlap x wx y wy = true) :
    (inArc y x wx = true ∧ inArc y y wy = true) ∨ (inArc x x wx = true ∧ inArc x y wy = true) := by
  have own : ∀ s w : Nat, 1 ≤ w → inArc s s w = true := by
    intro s w hw
    rw [inArc_iff]
    omega
  rw [overlap_iff, ← inArc_iff, ← inArc_iff] at h
  exact h.imp (fun h => ⟨h, own y wy hwy⟩) (fun h => ⟨own x wx hwx, h⟩)

theorem overlap_comm (x wx y wy : Nat) : overlap x wx y wy = overlap y wy x wx := Bool.or_comm ..

/-- Settles O56. -/
theorem arcsOverlapExactlyWhenTheyShareAnAngle : Obligations.ArcsOverlapExactlyWhenTheyShareAnAngle := by
  intro x wx y wy hx hy hwx _ hwy _
  refine ⟨overlap_iff .., (inArc_iff ..).symm, (inArc_iff ..).symm, ⟨fun h => ?_, ?_⟩, overlap_comm .., ?_, ?_⟩
  · exact (shared_of_overlap hwx hwy h).elim (fun h => ⟨y, hy, h⟩) (fun h => ⟨x, hx, h⟩)
  · rintro ⟨a, -, h, h'⟩
    exact overlap_of_shared h h'
  · exact (overlap_iff ..).mpr (.inl (by omega))
  · intro hw ht
    rw [Bool.eq_false_iff, ne_eq, overlap_iff]
    omega

end Sys2Proof.Machine
end

section
/-! SUPPORT. The state after a power-on. -/

namespace Sys2Proof.Machine

/-- Settles O2: every default that the model names is the value the rules give. -/
theorem powerOnStartsEveryBlockAfresh : Obligations.PowerOnStartsEveryBlockAfresh := fun _ => rfl

/-! ## The blocks of the reset state -/

theorem vector_get_replicate {α : Type} {n : Nat} (x : α) (i : Fin n) : (Vector.replicate n x)[i] = x := by simp

@[simp] theorem State.reset_line (k : Crane) : State.reset.line k = .powerOn := vector_get_replicate ..
@[simp] theorem State.reset_zone (z : Zone) : State.reset.zone z = .empty := vector_get_replicate ..
@[simp] theorem State.reset_wind (k : Crane) : State.reset.wind[k] = .fresh := vector_get_replicate ..
@[simp] theorem State.reset_declared (k : Crane) : State.reset.declared[k] = [] := vector_get_replicate ..
@[simp] theorem State.reset_windMasts (m : Mast) : State.reset.windMasts[m] = .unknown := vector_get_replicate ..

theorem ZoneRt.not_names_empty (k : Crane) : ¬ ZoneRt.empty.names k := by simp [ZoneRt.names, ZoneRt.empty]

theorem WindRec.ok_fresh : WindRec.fresh.ok := by simp [WindRec.ok, WindRec.fresh]

theorem Line.ok_powerOn : Line.powerOn.ok := by simp [Line.ok, Line.powerOn, LineWait.fits]

theorem State.reset_queuesOk : State.reset.queuesOk := by
  refine ⟨by decide, by decide, by decide, by decide, fun k => ?_, by decide, by decide⟩
  rw [State.reset_line]
  exact ⟨by decide, by decide⟩

theorem State.reset_zonesOk : State.reset.zonesOk := by
  refine ⟨fun z => ?_, fun _ => ⟨State.reset_zone, State.reset_declared⟩⟩
  rw [State.reset_zone]
  exact ⟨ZoneRt.ok_empty, fun k h => absurd h (ZoneRt.not_names_empty k), fun _ => ⟨rfl, rfl, rfl, rfl, rfl⟩⟩

theorem State.reset_windOk : State.reset.windOk := by
  refine ⟨fun k => ?_, fun m v h => ?_, fun m st v h => absurd h List.not_mem_nil⟩
  · rw [State.reset_wind]
    exact ⟨WindRec.ok_fresh, fun _ => rfl⟩
  · rw [State.reset_windMasts] at h
    cases h

theorem State.reset_bookingsOk : State.reset.bookingsOk :=
  ⟨by decide, .nil, by decide, by decide, by decide, fun b h => absurd h List.not_mem_nil⟩

theorem State.reset_linesOk : State.reset.linesOk := by
  intro k
  rw [State.reset_line]
  exact ⟨Line.ok_powerOn, fun h => absurd rfl h⟩

/-- Settles O3. -/
theorem resetMeetsEveryInvariant : Obligations.ResetMeetsEveryInvariant :=
  ⟨State.reset_queuesOk, State.reset_zonesOk, State.reset_windOk, State.reset_bookingsOk, State.reset_linesOk⟩

end Sys2Proof.Machine
end

section
/-! SUPPORT. Taking a request changes the port alone, and what an answered request comes to. -/

namespace Sys2Proof.Machine

variable (s : State)

@[simp] theorem State.taken_notices : s.taken.notices = s.notices := rfl
@[simp] theorem State.taken_cranes : s.taken.cranes = s.cranes := rfl
@[simp] theorem State.taken_zones : s.taken.zones = s.zones := rfl
@[simp] theorem State.taken_params : s.taken.params = s.params := rfl
@[simp] theorem State.taken_faces : s.taken.faces = s.faces := rfl
@[simp] theorem State.taken_vane : s.taken.vane = s.vane := rfl
@[simp] theorem State.taken_service : s.taken.service = s.service := rfl
@[simp] theorem State.taken_lines : s.taken.lines = s.lines := rfl
@[simp] theorem State.taken_wind : s.taken.wind = s.wind := rfl
@[simp] theorem State.taken_windMasts : s.taken.windMasts = s.windMasts := rfl
@[simp] theorem State.taken_bookings : s.taken.bookings = s.bookings := rfl
@[simp] theorem State.taken_mastLine : s.taken.mastLine = s.mastLine := rfl
@[simp] theorem State.taken_mode : s.taken.mode = s.mode := rfl
@[simp] theorem State.taken_clock : s.taken.clock = s.clock := rfl
@[simp] theorem State.taken_clockValid : s.taken.clockValid = s.clockValid := rfl
@[simp] theorem State.taken_events : s.taken.events = s.events := rfl
@[simp] theorem State.taken_overflow : s.taken.overflow = s.overflow := rfl
@[simp] theorem State.taken_mask : s.taken.port.mask = s.port.mask := rfl
@[simp] theorem State.taken_crane (k : Crane) : s.taken.crane k = s.crane k := rfl
@[simp] theorem State.taken_line (k : Crane) : s.taken.line k = s.line k := rfl
@[simp] theorem State.taken_zone (z : Zone) : s.taken.zone z = s.zone z := rfl
@[simp] theorem State.taken_zoneDef (z : Zone) : s.taken.zoneDef z = s.zoneDef z := rfl
@[simp] theorem State.taken_faceIn (k : Crane) (z : Zone) : s.taken.faceIn k z = s.faceIn k z := rfl
@[simp] theorem State.taken_worked (k : Crane) : s.taken.worked k = s.worked k := rfl
@[simp] theorem State.taken_mastDefined (m : Mast) : s.taken.mastDefined m = s.mastDefined m := rfl
@[simp] theorem State.taken_booking (id : Nat) : s.taken.booking id = s.booking id := rfl

/-- What an answer leaves, once its reply is formed. -/
def Answer.sent (a : Answer) (typ seq : Byte) : State := a.state.answered typ seq a.code a.payload

@[simp] theorem State.sent_refuse (code : ReplyCode) (typ seq : Byte) :
    (s.refuse code).sent typ seq = s.answered typ seq code [] := rfl

@[simp] theorem State.sent_done (payload : List Byte) (typ seq : Byte) :
    (s.done payload).sent typ seq = s.answered typ seq .done payload := rfl

/-- A request of the right length that the port takes: its owner's answer is sent (R178, R179). -/
theorem State.serve_withLength {s : State} {typ seq : Byte} {p : List Byte} {n : Nat} (own : State → Answer)
    (h : s.takes typ seq p) (hn : p.length = n) :
    s.serve { typ := typ, seq := seq, payload := p } (withLength n p own) = (own s.taken).sent typ seq := by
  rw [State.serve_of_takes _ h, withLength_of_eq hn]
  rfl

/-- The same for a configuration request in SETUP (R3). -/
theorem State.serve_inSetup {s : State} {typ seq : Byte} {p : List Byte} {n : Nat} (own : State → Answer)
    (h : s.takes typ seq p) (hn : p.length = n) (hs : s.mode = .setup) :
    s.serve { typ := typ, seq := seq, payload := p } (withLength n p (inSetup own)) =
      (own s.taken).sent typ seq := by
  rw [State.serve_withLength _ h hn, inSetup_of_setup (s := s.taken) hs]

/-! ## All cranes, zones and masts -/

@[simp] theorem mem_allCranes (k : Crane) : k ∈ allCranes := by revert k; decide
@[simp] theorem mem_allMasts (m : Mast) : m ∈ allMasts := by revert m; decide
@[simp] theorem mem_allZones (z : Zone) : z ∈ allZones := by revert z; decide

theorem State.worked_iff {s : State} {k : Crane} : s.worked k = true ↔ ∃ c, s.crane k = some c ∧ c.absent = false := by
  unfold State.worked
  cases s.crane k <;> simp

end Sys2Proof.Machine
end

section
/-! SUPPORT. RESTART, TAG and ATTN_MASK; the attention word and the ATTN pin (R183, R184). -/

namespace Sys2Proof.Machine

/-! ## The word bit by bit -/

theorem testBit_bitsToNat (l : List Bool) : ∀ i, (bitsToNat l).testBit i = l.getD i false := by
  induction l with
  | nil => intro i; simp [bitsToNat]
  | cons b l ih =>
    have split : bitsToNat (b :: l) = 2 * bitsToNat l + b.toNat := by simp [bitsToNat, Nat.add_comm]
    intro i
    rw [split]
    cases i with
    | zero => cases b <;> simp
    | succ i => rw [Nat.testBit_succ, List.getD_cons_succ, ← ih]; congr 1; cases b <;> (simp; try omega)

/-- A bit of the attention word is the item that R183 lists for it; the bits above the last item are clear. -/
theorem State.getLsbD_attn (s : State) (i : Nat) : s.attn.getLsbD i = s.attnBits.getD i false := by
  rw [State.attn, BitVec.getLsbD_ofNat, testBit_bitsToNat]
  by_cases h : i < 16
  · simp [h]
  · have long : s.attnBits.length ≤ i := by simp only [State.attnBits, List.length_cons, List.length_nil]; omega
    rw [List.getD_eq_default _ _ long]; simp [h]

theorem Faults.any_iff (f : Faults) : f.any = true ↔ f.timeout = true ∨ f.parity = true ∨ f.framing = true ∨
    f.check = true ∨ f.size = true ∨ f.tag = true ∨ f.range = true := by
  simp [Faults.any, or_assoc]

theorem ZoneRt.contested_iff (r : ZoneRt) :
    r.contested = true ↔ ∃ k ∈ r.inside, r.holder ≠ some k ∧ k ∉ r.sweep := by
  rw [ZoneRt.contested, ← ZoneRt.trespassers_eq]
  simp [ZoneRt.trespassers]

section
variable (s : State)

theorem State.attnLineFault_iff : s.attnLineFault = true ↔ ∃ k, (s.line k).faults.any = true := by
  simp [State.attnLineFault]

theorem State.attnLinkDown_iff : s.attnLinkDown = true ↔
    ∃ k c, s.crane k = some c ∧ c.absent = false ∧ (s.line k).enabled = true ∧ (s.line k).link ≠ .online := by
  simp only [State.attnLinkDown, List.any_eq_true, mem_allCranes, true_and, Bool.and_eq_true, State.worked_iff,
    bne_iff_ne, ← exists_and_right, and_assoc]

theorem State.attnContested_iff : s.attnContested = true ↔ ∃ z k, s.isShared z = true ∧ k ∈ (s.zone z).inside ∧
    (s.zone z).holder ≠ some k ∧ k ∉ (s.zone z).sweep := by
  simp [State.attnContested, ZoneRt.contested_iff]

theorem State.attnGuarded_iff : s.attnGuarded = true ↔ ∃ z, (s.zone z).guard ≠ [] := by
  simp [State.attnGuarded]

theorem State.attnWindStop_iff : s.attnWindStop = true ↔
    ∃ k c, s.crane k = some c ∧ c.absent = false ∧ (s.wind[k].level = .stop ∨ s.wind[k].level = .storm) := by
  simp only [State.attnWindStop, List.any_eq_true, mem_allCranes, true_and, Bool.and_eq_true, State.worked_iff,
    Bool.or_eq_true, beq_iff_eq, ← exists_and_right, and_assoc]

theorem State.attnWeathervane_iff :
    s.attnWeathervane = true ↔ ∃ k : Crane, s.vane[k].state = .pending ∨ s.vane[k].state = .active := by
  have some_state : ∀ v : VaneState, v ≠ .none ↔ v = .pending ∨ v = .active := by
    intro v; cases v <;> decide
  simp [State.attnWeathervane, some_state]

theorem State.attnBooking_iff : s.attnBooking = true ↔
    ∃ b ∈ s.bookings, b.state = .calling ∨ b.state = .suspended ∨ b.state = .closing := by
  simp [State.attnBooking, or_assoc]

theorem State.attnMastMissing_iff : s.attnMastMissing = true ↔
    ∃ (m : Mast) (r : MastRt), s.mastLine.masts[m] = some r ∧ r.state = .missing := by
  simp only [State.attnMastMissing, List.any_eq_true, mem_allMasts, true_and]
  refine exists_congr fun m => ?_
  cases s.mastLine.masts[m] <;> simp

/-- A word is not 0 exactly when one of its bits is set. -/
theorem bitVec_ne_zero_iff {w : Nat} (x : BitVec w) : x ≠ 0 ↔ ∃ i, x.getLsbD i = true := by
  constructor
  · intro h
    by_contra none
    push Not at none
    exact h (BitVec.eq_of_getLsbD_eq fun i _ => by simpa using none i)
  · rintro ⟨i, hi⟩ rfl
    simp at hi

theorem State.attnPin_iff : s.attnPin = true ↔ ∃ i, s.attn.getLsbD i = true ∧ s.port.mask.getLsbD i = true := by
  simp only [State.attnPin, bne_iff_ne, bitVec_ne_zero_iff, BitVec.getLsbD_and, Bool.and_eq_true]

/-- Forming a reply clears DISCARD and so bit 2 of the attention word, and no other bit (R180, R183). -/
theorem State.answered_attn (typ seq : Byte) (code : ReplyCode) (payload : List Byte) :
    (s.answered typ seq code payload).attn = s.attn &&& 0xFFFB := by
  have bits : (s.answered typ seq code payload).attnBits = s.attnBits.set 2 false := rfl
  apply BitVec.eq_of_getLsbD_eq
  intro i hi
  rw [BitVec.getLsbD_and, State.getLsbD_attn, State.getLsbD_attn, bits]
  rcases Nat.lt_trichotomy i 2 with h | rfl | h
  · interval_cases i <;> simp [State.attnBits]
  · simp [State.attnBits]
  · have high : (0xFFFB : BitVec 16).getLsbD i = true := by interval_cases i <;> decide
    rw [high, Bool.and_true]
    simp [List.getD_eq_getElem?_getD, List.getElem?_set_ne (by omega : (2 : Nat) ≠ i)]

end

/-! ## The words of TAG and ATTN_MASK -/

/-- The two octets of a word, high octet first, are the word. -/
theorem ofNat_oct2_pair (hi lo : Byte) : BitVec.ofNat 16 (oct2 [hi, lo] 0) = hi ++ lo := by
  rw [oct2_pair]
  exact BitVec.ofNat_toNat ..

theorem word_eq_append (x : BitVec 16) : x = x.extractLsb' 8 8 ++ x.extractLsb' 0 8 := by
  apply BitVec.eq_of_toNat_eq
  rw [append_toNat]
  simp [Nat.shiftRight_eq_div_pow]
  omega

/-- Settles O25. -/
theorem restartTagAndMaskAreTaken : Obligations.RestartTagAndMaskAreTaken := by
  refine ⟨fun s seq hi lo => ⟨fun h => ?_, fun hs h => ?_, fun h => ?_⟩, fun s => ?_, fun t typ seq code payload => ?_⟩
  · exact congrArg _ (State.serve_withLength _ h rfl)
  · have stored : s.taken.tagRequest (BitVec.ofNat 16 (oct2 [hi, lo] 0)) =
        ({ s.taken with tag := hi ++ lo } : State).done [] := by
      rw [ofNat_oct2_pair]
      exact if_neg (not_not_intro hs)
    refine congrArg _ ((State.serve_withLength _ h rfl).trans ?_)
    rw [stored]
    rfl
  · refine ⟨_, _, word_eq_append s.port.mask, congrArg _ ((State.serve_withLength _ h rfl).trans ?_)⟩
    rw [ofNat_oct2_pair, State.maskRequest, State.sent_done, State.taken_mask, put2_toNat]
    rfl
  · simp only [State.getLsbD_attn]
    refine ⟨?_, Iff.rfl, Iff.rfl, ?_, s.attnLinkDown_iff, s.attnContested_iff, s.attnGuarded_iff, s.attnWindStop_iff,
      s.attnWeathervane_iff, s.attnBooking_iff, s.attnMastMissing_iff, ?_, ?_, ?_⟩
    · simp [State.attnBits, State.attnEvents]
    · simp only [← Faults.any_iff]
      exact s.attnLineFault_iff
    · simp [State.attnBits]
    · intro i hi
      rw [List.getD_eq_default _ _ (by simpa [State.attnBits] using hi)]
      simp
    · simp only [← State.getLsbD_attn]
      exact s.attnPin_iff
  · exact ⟨_, rfl, rfl, rfl, rfl, rfl, rfl, rfl, rfl, State.answered_attn ..⟩

end Sys2Proof.Machine
end

section
/-! SUPPORT. MAST_DEF and SITE_DEF (R16, R17). -/

namespace Sys2Proof.Machine

/-! ## Numbers that name a crane, a zone or a mast -/

theorem pick_eq_some_iff {m n : Nat} {i : Fin m} : pick n = some i ↔ n = number i := by
  unfold pick number
  split
  · simp only [Option.some.injEq, Fin.ext_iff]
    omega
  · have := i.isLt
    simp only [reduceCtorEq, false_iff]
    omega

/-- An octet outside 1 to `m` names nothing. -/
theorem pick_octet_eq_none {m : Nat} {n : Byte} (h : n = 0 ∨ m < n.toNat) : (pick n.toNat : Option (Fin m)) = none := by
  refine pick_eq_none (h.imp_left ?_)
  rintro rfl
  rfl

/-! ## Masts -/

section
variable (s : State)

theorem State.defineMast_of_defined {m : Mast} (h : s.mastDefined m = true) : s.defineMast m = s := if_pos h

theorem State.defineMast_of_not_defined {m : Mast} (h : s.mastDefined m = false) :
    s.defineMast m = (s.setMast m (some .unknown)).setMastCopy m .unknown := if_neg (by simp [h])

theorem State.masts_defineMast_ne {m n : Mast} (h : n ≠ m) :
    (s.defineMast m).mastLine.masts[n] = s.mastLine.masts[n] ∧ (s.defineMast m).windMasts[n] = s.windMasts[n] := by
  cases hd : s.mastDefined m
  · rw [s.defineMast_of_not_defined hd]
    exact ⟨(State.masts_setMast ..).trans (if_neg h), (State.windMasts_setMastCopy ..).trans (if_neg h)⟩
  · rw [s.defineMast_of_defined hd]
    exact ⟨rfl, rfl⟩

theorem State.masts_defineMast_self {m : Mast} (h : s.mastDefined m = false) :
    (s.defineMast m).mastLine.masts[m] = some .unknown ∧ (s.defineMast m).windMasts[m] = .unknown := by
  rw [s.defineMast_of_not_defined h]
  exact ⟨(State.masts_setMast ..).trans (if_pos rfl), (State.windMasts_setMastCopy ..).trans (if_pos rfl)⟩

theorem State.masts_undefineMast_ne {m n : Mast} (h : n ≠ m) :
    (s.undefineMast m).mastLine.masts[n] = s.mastLine.masts[n] ∧
      (s.undefineMast m).windMasts[n] = s.windMasts[n] := by
  unfold State.undefineMast
  split
  · exact ⟨(State.masts_setMast ..).trans (if_neg h), (State.windMasts_setMastCopy ..).trans (if_neg h)⟩
  · exact ⟨rfl, rfl⟩

theorem State.masts_undefineMast_self (m : Mast) : (s.undefineMast m).mastLine.masts[m] = none := by
  unfold State.undefineMast
  split
  · exact (State.masts_setMast ..).trans (if_pos rfl)
  · rename_i h
    simpa [State.mastDefined] using h

/-- The exchange with a mast that is undefined runs on, to be discarded (R16). -/
theorem State.exchange_undefineMast {m : Mast} {x : MastExchange} (hx : s.mastLine.exchange = some x)
    (hd : s.mastDefined m = true) (hm : x.mast = m) :
    (s.undefineMast m).mastLine.exchange = some { x with discard := true } := by
  have kept : (s.setMast m none).mastLine.exchange = some x := hx
  simp [State.undefineMast, hd, kept, hm]

end

/-! ## The requests -/

theorem exec_mastDef_outOfRange {s : State} {seq n o : Byte} (hs : s.mode = .setup)
    (h : n = 0 ∨ 4 < n.toNat ∨ 1 < o.toNat) (ht : s.takes 0x16 seq [n, o]) :
    exec (.mastDef seq [n, o]) s = .next (s.refused 0x16 seq .refusedRange) := by
  refine congrArg _ ((State.serve_inSetup _ ht rfl hs).trans ?_)
  split
  · rfl
  · rename_i m hm
    have named : n.toNat = number m := pick_eq_some_iff.mp hm
    have high : ¬ oct [n, o] 1 ≤ 1 := by
      have := m.isLt
      rcases h with rfl | h | h
      · exact absurd named (by simp [number])
      · rw [number] at named; omega
      · exact Nat.not_le.mpr h
    rw [if_neg high]
    rfl

theorem exec_mastDef {s : State} {seq o : Byte} {m : Mast} (hs : s.mode = .setup) (ho : o.toNat ≤ 1)
    (ht : s.takes 0x16 seq [BitVec.ofNat 8 (number m), o]) :
    exec (.mastDef seq [BitVec.ofNat 8 (number m), o]) s =
      .next ((s.taken.mastDefRequest m (o.toNat == 1)).sent 0x16 seq) := by
  refine congrArg _ ((State.serve_inSetup _ ht rfl hs).trans ?_)
  have named : pick (oct [BitVec.ofNat 8 (number m), o] 0) = some m := by
    rw [oct_cons_zero, toNat_mastNumber, pick_number]
  have chosen : oct [BitVec.ofNat 8 (number m), o] 1 ≤ 1 := ho
  simp only [named, if_pos chosen]
  rfl

theorem State.backsUp_iff (s : State) (m : Mast) :
    allCranes.any (fun k => (s.crane k).map (·.backup) == some (some m)) = true ↔
      ∃ k c, s.crane k = some c ∧ c.backup = some m := by
  simp [List.any_eq_true]

/-- The record is in its ranges exactly when each parameter is (R17). -/
theorem SiteParams.inRange_iff (q : SiteParams) : q.inRange = true ↔
    q.release ≤ 10000 ∧ 30 ≤ q.callTimeout ∧ q.callTimeout ≤ 1800 ∧ q.hysteresis ≤ 50 ∧ 60 ≤ q.holdStorm ∧
      q.holdStorm ≤ 3600 ∧ 30 ≤ q.holdStop ∧ q.holdStop ≤ 1800 ∧ 10 ≤ q.holdCaution ∧ q.holdCaution ≤ 600 ∧
      10 ≤ q.sweepAlarm ∧ q.sweepAlarm ≤ 600 ∧ 2 ≤ q.divN ∧ q.divN ≤ 255 ∧ q.divF ≤ 7 := by
  simp [SiteParams.inRange, within, and_assoc]

/-- Settles O31. -/
theorem mastDefAndSiteDefWriteTheirRecords : Obligations.MastDefAndSiteDefWriteTheirRecords := by
  intro s seq m hs
  refine ⟨fun n o h ht => exec_mastDef_outOfRange hs h ht, fun ht => ?_, fun ht => ⟨fun used => ?_, fun unused => ?_⟩,
    fun p hp ht => ⟨fun ok => ?_, fun bad => ?_⟩⟩
  · refine ⟨s.taken.defineMast m, exec_mastDef hs (by decide) ht, s.taken.defineMast_within m,
      fun n hn => s.taken.masts_defineMast_ne hn, fun hd => ?_, fun hd => s.taken.masts_defineMast_self hd⟩
    rw [s.taken.defineMast_of_defined hd]
    exact ⟨rfl, rfl⟩
  · have backing := (s.taken.backsUp_iff m).mpr used
    rw [exec_mastDef hs (by decide) ht, State.mastDefRequest, if_neg (by decide), if_pos backing]
    rfl
  · have backing : ¬ _ := fun h => absurd ((s.taken.backsUp_iff m).mp h) (by simpa using unused)
    refine ⟨s.taken.undefineMast m, ?_, s.taken.undefineMast_within m, s.taken.masts_undefineMast_self m,
      fun n hn => s.taken.masts_undefineMast_ne hn, fun x hx hd hm => s.taken.exchange_undefineMast hx hd hm⟩
    rw [exec_mastDef hs (by decide) ht, State.mastDefRequest, if_neg (by decide), if_neg backing]
    rfl
  · refine congrArg _ ((State.serve_inSetup _ ht hp hs).trans ?_)
    rw [State.siteDefRequest, if_pos ((SiteParams.inRange_iff _).mpr ok)]
    rfl
  · refine congrArg _ ((State.serve_inSetup _ ht hp hs).trans ?_)
    rw [State.siteDefRequest, if_neg (fun h => bad ((SiteParams.inRange_iff _).mp h))]
    rfl

end Sys2Proof.Machine
end

section
/-! SUPPORT. CRANE_DEF and CRANE_CLEAR (R4 to R9). -/

namespace Sys2Proof.Machine

/-! ## Events appended after a change that leaves the event queue alone -/

theorem State.logged_from {s u t : State} {l : List Event} (he : u.events = s.events) (ho : u.overflow = s.overflow)
    (h : u.logged t l) : s.logged t l := by
  unfold State.logged at h ⊢
  rwa [he, ho] at h

section
variable (s : State) (k : Crane)

/-! ## The end of a weathervane record outside a composition (R83) -/

@[simp] theorem State.vaneClear_cranes : (s.vaneClear k).cranes = s.cranes :=
  (s.vaneClear_within k).same .cranes (by decide)
@[simp] theorem State.vaneClear_wind : (s.vaneClear k).wind = s.wind :=
  (s.vaneClear_within k).same .wind (by decide)
@[simp] theorem State.vaneClear_lines : (s.vaneClear k).lines = s.lines :=
  (s.vaneClear_within k).same .lines (by decide)
@[simp] theorem State.vaneClear_service : (s.vaneClear k).service = s.service :=
  (s.vaneClear_within k).same .service (by decide)
@[simp] theorem State.vaneClear_notices : (s.vaneClear k).notices = s.notices :=
  (s.vaneClear_within k).same .notices (by decide)
@[simp] theorem State.vaneClear_msCount : (s.vaneClear k).msCount = s.msCount :=
  (s.vaneClear_within k).same .msCount (by decide)

/-- The record of *k* becomes NONE, without a pending since and without an alarm; the others stay (R83). -/
theorem State.vane_vaneClear (j : Crane) : (s.vaneClear k).vane[j] =
    if j = k then { s.vane[k] with state := .none, pendingSince := none, alarm := false } else s.vane[j] := by
  unfold State.vaneClear
  dsimp only
  split
  · exact State.vane_setVane ..
  · simp only [State.emitCrane_vane]
    exact State.vane_setVane ..

/-- The event of an episode that ends so (R83). -/
def State.vaneOff : List Event :=
  if s.vane[k].state = .none then []
  else [s.record .weathervaneOff (number k) 0 0 1 (if s.vane[k].state = .active then 1 else 0)]

theorem State.vaneClear_logged : s.logged (s.vaneClear k) (s.vaneOff k) := by
  unfold State.vaneClear State.vaneOff
  dsimp only
  split
  · exact State.logged_of_same rfl rfl
  · exact State.logged_from (u := s.setVane k _) rfl rfl (State.logged_emit _ _ _ _ _ _ _)

end

/-! ## A crane that is cleared (R9) -/

/-- The crane has a face, or a booking that is not terminal (R9). -/
theorem State.craneUsed_iff (s : State) (k : Crane) :
    (!(s.zonesOf k).isEmpty || s.bookings.any (fun b => b.crane == k && !b.state.terminal)) = true ↔
      (∃ z, (s.faceIn k z).isSome = true) ∨ ∃ b ∈ s.bookings, b.crane = k ∧ b.state.terminal = false := by
  simp [State.zonesOf, Option.isSome_iff_ne_none]

/-- CRANE_CLEAR before the weathervane record is ended. -/
def State.craneCleared (s : State) (k : Crane) : State :=
  ({ s.setCrane k none with service := s.service.set k .inService }.clearTexts k).setWind k .fresh

theorem State.applyClear_eq (s : State) (k : Crane) : s.applyClear k = (s.craneCleared k).vaneClear k := rfl

section
variable (s : State) (k j : Crane)

theorem State.crane_craneCleared : (s.craneCleared k).crane j = if j = k then none else s.crane j :=
  vector_get_set ..

theorem State.service_craneCleared :
    (s.craneCleared k).service[j] = if j = k then .inService else s.service[j] := vector_get_set ..

theorem State.wind_craneCleared : (s.craneCleared k).wind[j] = if j = k then .fresh else s.wind[j] :=
  vector_get_set ..

theorem State.line_craneCleared :
    (s.craneCleared k).line j = if j = k then { s.line k with texts := [] } else s.line j := vector_get_set ..

theorem State.crane_applyClear : (s.applyClear k).crane j = if j = k then none else s.crane j := by
  rw [State.applyClear_eq, State.crane, State.vaneClear_cranes]
  exact s.crane_craneCleared k j

theorem State.service_applyClear :
    (s.applyClear k).service[j] = if j = k then .inService else s.service[j] := by
  simp only [State.applyClear_eq, State.vaneClear_service]
  exact s.service_craneCleared k j

theorem State.wind_applyClear : (s.applyClear k).wind[j] = if j = k then .fresh else s.wind[j] := by
  simp only [State.applyClear_eq, State.vaneClear_wind]
  exact s.wind_craneCleared k j

theorem State.line_applyClear :
    (s.applyClear k).line j = if j = k then { s.line k with texts := [] } else s.line j := by
  rw [State.applyClear_eq, State.line, State.vaneClear_lines]
  exact s.line_craneCleared k j

theorem State.vane_applyClear : (s.applyClear k).vane[j] =
    if j = k then { s.vane[k] with state := .none, pendingSince := none, alarm := false } else s.vane[j] :=
  (s.craneCleared k).vane_vaneClear k j

theorem State.applyClear_logged : s.logged (s.applyClear k) (s.vaneOff k) :=
  State.logged_from (u := s.craneCleared k) rfl rfl ((s.craneCleared k).vaneClear_logged k)

end

theorem exec_craneClear {s : State} {seq : Byte} {k : Crane} (hs : s.mode = .setup)
    (ht : s.takes 0x11 seq [BitVec.ofNat 8 (number k)]) :
    exec (.craneClear seq [BitVec.ofNat 8 (number k)]) s = .next ((s.taken.craneClearRequest k).sent 0x11 seq) := by
  refine congrArg _ ((State.serve_inSetup _ ht rfl hs).trans ?_)
  rw [oct_cons_zero, toNat_craneNumber, withCrane_number]

/-- Settles O29: the checks in their order, then the record freed. -/
theorem craneClearFreesTheRecord : Obligations.CraneClearFreesTheRecord := by
  refine ⟨fun s seq n hs hn ht => ?_, fun s seq k hs ht => ?_⟩
  · refine congrArg _ ((State.serve_inSetup _ ht rfl hs).trans ?_)
    rw [oct_cons_zero, withCrane, pick_octet_eq_none hn]
    rfl
  have defined : s.crane k ≠ none → ¬ (s.taken.crane k).isNone = true := fun h h' => h (Option.isNone_iff_eq_none.mp h')
  dsimp only
  rw [exec_craneClear hs ht, State.craneClearRequest]
  refine ⟨fun free => ?_, fun h on => ?_, fun h off used => ?_, fun h off unused => ?_⟩
  · rw [if_pos (show (s.taken.crane k).isNone = true from Option.isNone_iff_eq_none.mpr free)]
    rfl
  · rw [if_neg (defined h), if_pos (show (s.taken.line k).link ≠ .off from on)]
    rfl
  · rw [if_neg (defined h), if_neg (not_not_intro (show (s.taken.line k).link = .off from off)),
      if_pos ((s.taken.craneUsed_iff k).mpr used)]
    rfl
  · rw [if_neg (defined h), if_neg (not_not_intro (show (s.taken.line k).link = .off from off)),
      if_neg (fun h => unused ((s.taken.craneUsed_iff k).mp h))]
    refine ⟨s.taken.applyClear k, rfl, s.taken.applyClear_within k, (s.taken.crane_applyClear k k).trans (if_pos rfl),
      (s.taken.service_applyClear k k).trans (if_pos rfl), (s.taken.wind_applyClear k k).trans (if_pos rfl), ?_,
      (s.taken.line_applyClear k k).trans (if_pos rfl), s.taken.applyClear_logged k, fun j hj =>
        ⟨(s.taken.crane_applyClear k j).trans (if_neg hj), (s.taken.service_applyClear k j).trans (if_neg hj),
          (s.taken.wind_applyClear k j).trans (if_neg hj), (s.taken.vane_applyClear k j).trans (if_neg hj),
          (s.taken.line_applyClear k j).trans (if_neg hj)⟩⟩
    rw [State.vane_applyClear, if_pos rfl]

end Sys2Proof.Machine
end

section
/-! SUPPORT. CRANE_DEF (R4 to R7): the record it carries, its checks, and what storing it changes. -/

namespace Sys2Proof.Machine

/-! ## The record a payload carries (R4, R5) -/

theorem backupOf_eq_some_iff {n : Nat} {b : Option Mast} : backupOf n = some b ↔ n = (b.map number).getD 0 := by
  cases n with
  | zero => cases b <;> simp [backupOf, number, eq_comm]
  | succ n =>
    cases b with
    | none => simp [backupOf]
    | some m => simp [backupOf, pick_eq_some_iff]

theorem backupOf_eq_none {n : Nat} (h : backupOf n = none) : 4 < n := by
  by_contra small
  have cases : n = 0 ∨ n = 1 ∨ n = 2 ∨ n = 3 ∨ n = 4 := by omega
  rcases cases with rfl | rfl | rfl | rfl | rfl <;> exact absurd h (by decide)

/-- The record that a CRANE_DEF payload carries with a backup mast, the defaults filled in. -/
def craneRecOf (p : List Byte) (backup : Option Mast) : CraneRec :=
  { identity := BitVec.ofNat 32 (oct4 p 1), digest := BitVec.ofNat 16 (oct2 p 5), jib := oct2 p 7
    alpha := oct p 9, beta := oct p 10, latency := oct2 p 11, marginM := oct2 p 13, slowMs := oct2 p 15
    marginMr := oct2 p 17, slowMrs := oct2 p 19, cycle := orDefault 100 (oct2 p 21)
    window := orDefault 20 (oct p 23), missLimit := orDefault 3 (oct p 24), cautionGust := oct2 p 25
    stopGust := oct2 p 27, stormGust := oct2 p 29, stopMean := oct2 p 31, stormMean := oct2 p 33
    backup := backup, absent := oct p 36 == 1 }

theorem craneDefOf_of_named {p : List Byte} {k : Crane} {backup : Option Mast} (hk : oct p 0 = number k)
    (hb : oct p 35 = (backup.map number).getD 0) :
    craneDefOf p =
      if (craneRecOf p backup).inRange && oct p 36 ≤ 1 then some (k, craneRecOf p backup) else none := by
  have named : pick (oct p 0) = some k := pick_eq_some_iff.mpr hk
  have backed : backupOf (oct p 35) = some backup := backupOf_eq_some_iff.mpr hb
  simp only [craneDefOf, named, backed]
  rfl

/-- Every number of the record is in its range, and the thresholds rise (R4, R5). -/
theorem CraneRec.inRange_iff (c : CraneRec) : c.inRange = true ↔
    1000 ≤ c.jib ∧ c.jib ≤ 9000 ∧ 1 ≤ c.alpha ∧ c.alpha ≤ 100 ∧ 1 ≤ c.beta ∧ c.beta ≤ 200 ∧ c.latency ≤ 2000 ∧
      c.marginM ≤ 300 ∧ c.slowMs ≤ 600 ∧ c.marginMr ≤ 500 ∧ c.slowMrs ≤ 1000 ∧ 50 ≤ c.cycle ∧ c.cycle ≤ 1000 ∧
      c.cycle % 10 = 0 ∧ 5 ≤ c.window ∧ c.window ≤ 50 ∧ 1 ≤ c.missLimit ∧ c.missLimit ≤ 8 ∧
      c.cautionGust < c.stopGust ∧ c.stopGust < c.stormGust ∧ c.stormGust ≤ 600 ∧ c.stopMean < c.stormMean ∧
      c.stormMean ≤ 600 := by
  simp only [CraneRec.inRange, within, Bool.and_eq_true, decide_eq_true_iff, beq_iff_eq]
  omega

/-- The payload is in range: a crane, a mast or none, a choice, and a record in its ranges. -/
def craneDefFits (p : List Byte) : Prop :=
  1 ≤ oct p 0 ∧ oct p 0 ≤ 8 ∧ (craneRecOf p none).inRange = true ∧ oct p 35 ≤ 4 ∧ oct p 36 ≤ 1

theorem craneDefFits_iff (p : List Byte) : craneDefFits p ↔
    1 ≤ oct p 0 ∧ oct p 0 ≤ 8 ∧ 1000 ≤ oct2 p 7 ∧ oct2 p 7 ≤ 9000 ∧ 1 ≤ oct p 9 ∧ oct p 9 ≤ 100 ∧ 1 ≤ oct p 10 ∧
      oct p 10 ≤ 200 ∧ oct2 p 11 ≤ 2000 ∧ oct2 p 13 ≤ 300 ∧ oct2 p 15 ≤ 600 ∧ oct2 p 17 ≤ 500 ∧ oct2 p 19 ≤ 1000 ∧
      50 ≤ orDefault 100 (oct2 p 21) ∧ orDefault 100 (oct2 p 21) ≤ 1000 ∧ orDefault 100 (oct2 p 21) % 10 = 0 ∧
      5 ≤ orDefault 20 (oct p 23) ∧ orDefault 20 (oct p 23) ≤ 50 ∧ 1 ≤ orDefault 3 (oct p 24) ∧
      orDefault 3 (oct p 24) ≤ 8 ∧ oct2 p 25 < oct2 p 27 ∧ oct2 p 27 < oct2 p 29 ∧ oct2 p 29 ≤ 600 ∧
      oct2 p 31 < oct2 p 33 ∧ oct2 p 33 ≤ 600 ∧ oct p 35 ≤ 4 ∧ oct p 36 ≤ 1 := by
  simp only [craneDefFits, CraneRec.inRange_iff, craneRecOf, and_assoc]

/-- The range of a record does not look at its backup mast. -/
theorem inRange_craneRecOf (p : List Byte) (a b : Option Mast) :
    (craneRecOf p a).inRange = (craneRecOf p b).inRange := rfl

theorem craneDefOf_of_fits {p : List Byte} (h : craneDefFits p) {k : Crane} {backup : Option Mast}
    (hk : oct p 0 = number k) (hb : oct p 35 = (backup.map number).getD 0) :
    craneDefOf p = some (k, craneRecOf p backup) := by
  obtain ⟨-, -, ranges, -, choice⟩ := h
  rw [craneDefOf_of_named hk hb, inRange_craneRecOf p backup none, ranges, Bool.true_and,
    if_pos (decide_eq_true choice)]

theorem craneDefOf_of_not_fits {p : List Byte} (h : ¬ craneDefFits p) : craneDefOf p = none := by
  cases hk : (pick (oct p 0) : Option Crane) with
  | none => simp only [craneDefOf, hk]
  | some k =>
    cases hb : backupOf (oct p 35) with
    | none => simp only [craneDefOf, hk, hb]
    | some backup =>
      rw [pick_eq_some_iff] at hk
      rw [backupOf_eq_some_iff] at hb
      rw [craneDefOf_of_named hk hb]
      refine if_neg fun ok => h ?_
      rw [Bool.and_eq_true, decide_eq_true_iff] at ok
      have low : oct p 35 ≤ 4 := by
        cases backup with
        | none => simp only [Option.map_none, Option.getD_none] at hb; omega
        | some m => simp only [Option.map_some, Option.getD_some, number] at hb; omega
      have := k.isLt
      exact ⟨by rw [hk, number]; omega, by rw [hk, number]; omega, ok.1, low, ok.2⟩

/-! ## The checks (R6) -/

theorem State.backupMissing_iff (s : State) (backup : Option Mast) :
    (match backup with | none => false | some m => !s.mastDefined m) = true ↔
      ∃ m, backup = some m ∧ s.mastDefined m = false := by
  cases backup <;> simp

theorem State.faceBeyond_iff (s : State) (k : Crane) (jib : Nat) : s.faceBeyond k jib = true ↔
    ∃ z d f b, s.faceIn k z = some (d, f) ∧ f.band = some b ∧ jib < b.rmax := by
  simp only [State.faceBeyond, List.any_eq_true, mem_allZones, true_and]
  refine exists_congr fun z => ?_
  cases s.faceIn k z with
  | none => simp
  | some q =>
    obtain ⟨d, f⟩ := q
    cases hb : f.band <;> simp [hb]

/-! ## What storing the record changes (R7, R83, R87) -/

/-- A CRANE_DEF before the line is looked at: the record, the wind record, and the end of the weathervane record. -/
def State.craneStored (s : State) (k : Crane) (c : CraneRec) : State :=
  let t := (s.setCrane k (some c)).freshenWind k (s.worked k)
  if (s.crane k).isSome && c.absent then t.vaneClear k else t

theorem State.applyCrane_eq (s : State) (k : Crane) (c : CraneRec) :
    s.applyCrane k c =
      if ((s.craneStored k c).line k).link = .mismatch then (s.craneStored k c).enterWaking k false
      else s.craneStored k c := rfl

section
variable (s : State) (k j : Crane) (c : CraneRec)

theorem State.freshenWind_within (b : Bool) : Within [.wind] s (s.freshenWind k b) := by
  unfold State.freshenWind
  exact Within.ite (Within.refl ..) (State.setWind_within ..)

/-- All but the weathervane record and its event are left to what follows. -/
theorem State.craneStored_within : Within [.cranes, .wind, .vane, .events, .overflow] s (s.craneStored k c) := by
  unfold State.craneStored
  dsimp only
  have h : Within [.cranes, .wind, .vane, .events, .overflow] s
      ((s.setCrane k (some c)).freshenWind k (s.worked k)) :=
    ((State.setCrane_within ..).mono (by decide)).trans ((State.freshenWind_within ..).mono (by decide))
  exact Within.ite (h.trans ((State.vaneClear_within ..).mono (by decide))) h

theorem State.crane_craneStored : (s.craneStored k c).crane j = if j = k then some c else s.crane j := by
  have stored : ((s.setCrane k (some c)).freshenWind k (s.worked k)).crane j = if j = k then some c else s.crane j := by
    rw [State.crane, ((s.setCrane k (some c)).freshenWind_within k _).same .cranes (by decide)]
    exact State.crane_setCrane ..
  unfold State.craneStored
  dsimp only
  split
  · rw [State.crane, State.vaneClear_cranes]
    exact stored
  · exact stored

theorem State.worked_setCrane : (s.setCrane k (some c)).worked k = !c.absent := by
  simp [State.worked, State.crane_setCrane]

theorem State.wind_craneStored : (s.craneStored k c).wind[j] =
    if j = k ∧ s.worked k ≠ !c.absent then .fresh else s.wind[j] := by
  have freshened : ((s.setCrane k (some c)).freshenWind k (s.worked k)).wind[j] =
      if j = k ∧ s.worked k ≠ !c.absent then .fresh else s.wind[j] := by
    rw [State.freshenWind, State.worked_setCrane]
    by_cases hw : s.worked k = !c.absent
    · rw [if_pos hw, if_neg (fun h => h.2 hw)]
      rfl
    · rw [if_neg hw]
      by_cases hj : j = k
      · rw [if_pos ⟨hj, hw⟩]
        exact (State.wind_setWind ..).trans (if_pos hj)
      · rw [if_neg (fun h => hj h.1)]
        exact (State.wind_setWind ..).trans (if_neg hj)
  unfold State.craneStored
  dsimp only
  split
  · simp only [State.vaneClear_wind]
    exact freshened
  · exact freshened

theorem State.vane_freshened (b : Bool) : ((s.setCrane k (some c)).freshenWind k b).vane = s.vane :=
  ((s.setCrane k (some c)).freshenWind_within k b).same .vane (by decide)

theorem State.vane_craneStored : (s.craneStored k c).vane[j] =
    if j = k ∧ (s.crane k).isSome = true ∧ c.absent = true then
      { s.vane[k] with state := .none, pendingSince := none, alarm := false }
    else s.vane[j] := by
  unfold State.craneStored
  dsimp only
  by_cases hd : (s.crane k).isSome = true ∧ c.absent = true
  · rw [if_pos (Bool.and_eq_true_iff.mpr hd), State.vane_vaneClear]
    simp only [State.vane_freshened, hd, and_true]
  · rw [if_neg (fun h => hd (Bool.and_eq_true_iff.mp h)), if_neg (fun h => hd h.2)]
    simp only [State.vane_freshened]

theorem State.craneStored_logged : s.logged (s.craneStored k c)
    (if (s.crane k).isSome = true ∧ c.absent = true then s.vaneOff k else []) := by
  have kept := (s.setCrane k (some c)).freshenWind_within k (s.worked k)
  have he : ((s.setCrane k (some c)).freshenWind k (s.worked k)).events = s.events := kept.same .events (by decide)
  have ho : ((s.setCrane k (some c)).freshenWind k (s.worked k)).overflow = s.overflow :=
    kept.same .overflow (by decide)
  have off : ((s.setCrane k (some c)).freshenWind k (s.worked k)).vaneOff k = s.vaneOff k := by
    have hc : ((s.setCrane k (some c)).freshenWind k (s.worked k)).clock = s.clock := kept.same .clock (by decide)
    simp only [State.vaneOff, State.vane_freshened, State.record, hc]
  unfold State.craneStored
  dsimp only
  by_cases hd : (s.crane k).isSome = true ∧ c.absent = true
  · rw [if_pos (Bool.and_eq_true_iff.mpr hd), if_pos hd, ← off]
    exact State.logged_from he ho (State.vaneClear_logged _ k)
  · rw [if_neg (fun h => hd (Bool.and_eq_true_iff.mp h)), if_neg hd]
    exact State.logged_of_same he ho

/-! ## A line that leaves MISMATCH (R144, R145, R157) -/

theorem State.line_enterWaking (b : Bool) (h : (s.line k).link ≠ .online) :
    (s.enterWaking k b).line j = if j = k then { s.line k with
      link := .waking, rate := none, tag := 0, effCycle := none, exchange := none, cycleTimer := none
      readyDeadline := none, lastReport := if b then (s.line k).lastReport else none, rx := .hunt false
      wait := .pulse (s.later 5) } else s.line j := by
  unfold State.enterWaking State.setLink
  dsimp only
  rw [State.line, State.post_lines, ← State.line, State.modLine_modLine, State.line_modLine]
  by_cases hj : j = k
  · rw [if_pos hj, if_pos hj]
    simp [h]
    exact ⟨rfl, rfl⟩
  · rw [if_neg hj, if_neg hj]

theorem State.notices_enterWaking (b : Bool) :
    (s.enterWaking k b).notices = s.notices ++ [.link k (s.line k).link .waking] := by
  simp [State.enterWaking, State.setLink]

/-! ## The whole of an accepted CRANE_DEF -/

/-- The event of an episode that ends under a condition. -/
theorem State.vaneOff_if (p q : Prop) [Decidable p] [Decidable q] :
    (if p ∧ q then s.vaneOff k else []) = if p ∧ q ∧ s.vane[k].state ≠ .none then
      [s.record .weathervaneOff (number k) 0 0 1 (if s.vane[k].state = .active then 1 else 0)] else [] := by
  unfold State.vaneOff
  split_ifs <;> tauto

theorem State.applyCrane_from_craneStored :
    Within [.lines, .notices] (s.craneStored k c) (s.applyCrane k c) := by
  rw [State.applyCrane_eq]
  exact Within.ite (State.wakingOnly_within ..) (Within.refl ..)

theorem State.line_craneStored : (s.craneStored k c).line j = s.line j := by
  rw [State.line, (s.craneStored_within k c).same .lines (by decide), State.line]

theorem State.crane_applyCrane : (s.applyCrane k c).crane j = if j = k then some c else s.crane j := by
  rw [State.crane, (s.applyCrane_from_craneStored k c).same .cranes (by decide)]
  exact s.crane_craneStored k j c

theorem State.wind_applyCrane : (s.applyCrane k c).wind[j] =
    if j = k ∧ s.worked k ≠ !c.absent then .fresh else s.wind[j] := by
  have same : (s.applyCrane k c).wind = (s.craneStored k c).wind :=
    (s.applyCrane_from_craneStored k c).same .wind (by decide)
  simp only [same]
  exact s.wind_craneStored k j c

theorem State.vane_applyCrane : (s.applyCrane k c).vane[j] =
    if j = k ∧ (s.crane k).isSome = true ∧ c.absent = true then
      { s.vane[k] with state := .none, pendingSince := none, alarm := false }
    else s.vane[j] := by
  have same : (s.applyCrane k c).vane = (s.craneStored k c).vane :=
    (s.applyCrane_from_craneStored k c).same .vane (by decide)
  simp only [same]
  exact s.vane_craneStored k j c

theorem State.applyCrane_logged : s.logged (s.applyCrane k c)
    (if (s.crane k).isSome = true ∧ c.absent = true then s.vaneOff k else []) := by
  have same := s.applyCrane_from_craneStored k c
  intro h
  obtain ⟨he, ho⟩ := s.craneStored_logged k c h
  exact ⟨(same.same .events (by decide)).trans he, (same.same .overflow (by decide)).trans ho⟩

/-- A line that is not in MISMATCH is left as it was. -/
theorem State.applyCrane_of_not_mismatch (h : (s.line k).link ≠ .mismatch) :
    (∀ j, (s.applyCrane k c).line j = s.line j) ∧ (s.applyCrane k c).notices = s.notices := by
  rw [State.applyCrane_eq, if_neg (by rwa [State.line_craneStored])]
  exact ⟨fun j => s.line_craneStored k j c, (s.craneStored_within k c).same .notices (by decide)⟩

/-- A line in MISMATCH goes to WAKING and sends its link notice (R157). -/
theorem State.applyCrane_of_mismatch (h : (s.line k).link = .mismatch) :
    (∀ j, (s.applyCrane k c).line j = if j = k then { s.line k with
      link := .waking, rate := none, tag := 0, effCycle := none, exchange := none, cycleTimer := none
      readyDeadline := none, lastReport := none, rx := .hunt false, wait := .pulse (s.later 5) } else s.line j) ∧
      (s.applyCrane k c).notices = s.notices ++ [.link k .mismatch .waking] := by
  have later : (s.craneStored k c).later 5 = s.later 5 := by
    rw [State.later, (s.craneStored_within k c).same .msCount (by decide), State.later]
  have posted : (s.craneStored k c).notices = s.notices := (s.craneStored_within k c).same .notices (by decide)
  rw [State.applyCrane_eq, if_pos (by rwa [State.line_craneStored])]
  constructor
  · intro j
    rw [State.line_enterWaking _ _ _ _ (by rw [State.line_craneStored, h]; decide)]
    simp only [State.line_craneStored, later]
    rfl
  · rw [State.notices_enterWaking, State.line_craneStored, posted, h]

end

/-! ## The request -/

theorem exec_craneDef_of_fits {s : State} {seq : Byte} {p : List Byte} {k : Crane} {backup : Option Mast}
    (hs : s.mode = .setup) (hp : p.length = 37) (ht : s.takes 0x10 seq p) (h : craneDefFits p)
    (hk : oct p 0 = number k) (hb : oct p 35 = (backup.map number).getD 0) :
    exec (.craneDef seq p) s = .next ((s.taken.craneDefRequest k (craneRecOf p backup)).sent 0x10 seq) := by
  refine congrArg _ ((State.serve_inSetup _ ht hp hs).trans ?_)
  rw [craneDefOf_of_fits h hk hb]

theorem exec_craneDef_of_not_fits {s : State} {seq : Byte} {p : List Byte}
    (hs : s.mode = .setup) (hp : p.length = 37) (ht : s.takes 0x10 seq p) (h : ¬ craneDefFits p) :
    exec (.craneDef seq p) s = .next (s.refused 0x10 seq .refusedRange) := by
  refine congrArg _ ((State.serve_inSetup _ ht hp hs).trans ?_)
  rw [craneDefOf_of_not_fits h]
  rfl

section
variable (s : State) (k : Crane) (c : CraneRec)

/-- The backup mast is not Defined (R6). -/
def State.lacksBackup : Prop := ∃ m, c.backup = some m ∧ s.mastDefined m = false

/-- The record is absent, on a line that is not OFF (R6). -/
def State.lineStaysOn : Prop := (s.crane k).isSome = true ∧ (s.line k).link ≠ .off ∧ c.absent = true

/-- A HOOK face of the crane reaches beyond the jib (R6). -/
def State.reachesBeyond : Prop := ∃ z d f b, s.faceIn k z = some (d, f) ∧ f.band = some b ∧ c.jib < b.rmax

theorem State.craneDefRequest_of_lacksBackup (h : s.lacksBackup c) :
    s.craneDefRequest k c = s.refuse .refusedRef := if_pos ((s.backupMissing_iff c.backup).mpr h)

theorem State.craneDefRequest_of_lineStaysOn (h : ¬ s.lacksBackup c) (on : s.lineStaysOn k c) :
    s.craneDefRequest k c = s.refuse .refusedState := by
  obtain ⟨defined, link, absent⟩ := on
  refine (if_neg (mt (s.backupMissing_iff c.backup).mp h)).trans (if_pos ?_)
  simp [defined, link, absent]

theorem State.craneDefRequest_past_line (h : ¬ s.lacksBackup c) (off : ¬ s.lineStaysOn k c) :
    s.craneDefRequest k c = if s.faceBeyond k c.jib then s.refuse .refusedInUse else (s.applyCrane k c).done [] := by
  refine (if_neg (mt (s.backupMissing_iff c.backup).mp h)).trans (if_neg ?_)
  simp only [Bool.and_eq_true, bne_iff_ne, and_assoc]
  exact off

theorem State.craneDefRequest_of_reachesBeyond (h : ¬ s.lacksBackup c) (off : ¬ s.lineStaysOn k c)
    (far : s.reachesBeyond k c) : s.craneDefRequest k c = s.refuse .refusedInUse :=
  (s.craneDefRequest_past_line k c h off).trans (if_pos ((s.faceBeyond_iff k c.jib).mpr far))

theorem State.craneDefRequest_of_good (h : ¬ s.lacksBackup c) (off : ¬ s.lineStaysOn k c)
    (near : ¬ s.reachesBeyond k c) : s.craneDefRequest k c = (s.applyCrane k c).done [] :=
  (s.craneDefRequest_past_line k c h off).trans (if_neg (mt (s.faceBeyond_iff k c.jib).mp near))

end

/-- Settles O28: the range of the payload, the checks in their order, then the record stored. -/
theorem craneDefStoresTheRecord : Obligations.CraneDefStoresTheRecord := by
  intro s seq p hs hp ht
  refine ⟨fun bad => exec_craneDef_of_not_fits hs hp ht (mt (craneDefFits_iff p).mp bad), fun ok k backup hk hb => ?_⟩
  have fits : craneDefFits p := (craneDefFits_iff p).mpr ok
  have request := exec_craneDef_of_fits hs hp ht fits hk hb
  refine ⟨fun h => ?_, fun h on => ?_, fun h off far => ?_, fun h off near => ?_⟩
  · rw [request, State.craneDefRequest_of_lacksBackup s.taken k (craneRecOf p backup) h]
    rfl
  · rw [request, State.craneDefRequest_of_lineStaysOn s.taken k (craneRecOf p backup) h on]
    rfl
  · rw [request, State.craneDefRequest_of_reachesBeyond s.taken k (craneRecOf p backup) h off far]
    rfl
  rw [State.craneDefRequest_of_good s.taken k (craneRecOf p backup) h off near, State.sent_done] at request
  refine ⟨_, request, s.taken.applyCrane_within k _, (s.taken.crane_applyCrane k k _).trans (if_pos rfl),
    fun j hj => ?_,
    ?_, fun defined absent => ?_, fun kept => ?_, ?_, fun h => ?_, fun h => ?_⟩
  · refine ⟨(s.taken.crane_applyCrane k j _).trans (if_neg hj),
      (s.taken.wind_applyCrane k j _).trans (if_neg fun h => hj h.1),
      (s.taken.vane_applyCrane k j _).trans (if_neg fun h => hj h.1), ?_⟩
    by_cases h : (s.line k).link = .mismatch
    · exact ((s.taken.applyCrane_of_mismatch k _ h).1 j).trans (if_neg hj)
    · exact (s.taken.applyCrane_of_not_mismatch k _ h).1 j
  · refine (s.taken.wind_applyCrane k k _).trans ?_
    simp only [true_and, ne_eq, ite_not]
    rfl
  · rw [State.vane_applyCrane, if_pos ⟨rfl, defined, absent⟩]
  · refine (s.taken.vane_applyCrane k k _).trans (if_neg ?_)
    rintro ⟨-, defined, absent⟩
    rcases kept with kept | kept
    · exact absurd (defined.symm.trans kept) (by decide)
    · exact absurd (absent.symm.trans kept) (by decide)
  · have logged := s.taken.applyCrane_logged k (craneRecOf p backup)
    rw [State.vaneOff_if] at logged
    exact State.logged_from (u := s.taken) rfl rfl logged
  · exact ⟨((s.taken.applyCrane_of_mismatch k _ h).1 k).trans (if_pos rfl), (s.taken.applyCrane_of_mismatch k _ h).2⟩
  · exact ⟨(s.taken.applyCrane_of_not_mismatch k _ h).1 k, (s.taken.applyCrane_of_not_mismatch k _ h).2⟩

end Sys2Proof.Machine
end

section
/-! SUPPORT. ZONE_DEF and ZONE_DEL (R10 to R15): the definition a payload carries, its checks, what writing it
changes. -/

namespace Sys2Proof.Machine

/-! ## A face in its twelve octets (R10, R12) -/

/-- The octets of a face, each number in its range. -/
def carriesFace (q : List Byte) (f : Face) : Prop :=
  oct q 0 = number f.crane ∧ oct2 q 2 = f.arcStart ∧ oct2 q 4 = f.arcEnd ∧ f.arcStart ≤ 3599 ∧ f.arcEnd ≤ 3599 ∧
    match f.band with
    | none => oct q 1 = 0
    | some b => oct q 1 = 1 ∧ oct2 q 6 = b.rmin ∧ oct2 q 8 = b.rmax ∧ (BitVec.ofNat 16 (oct2 q 10)).toInt = b.ceiling ∧
      b.rmin ≤ b.rmax ∧ b.rmax ≤ 9000 ∧ -5000 ≤ b.ceiling ∧ b.ceiling ≤ 30000

theorem oct_window (p : List Byte) (i n : Nat) {j : Nat} (hj : j < n) : oct ((p.drop i).take n) j = oct p (i + j) := by
  simp [oct, List.getD_eq_getElem?_getD, hj]

theorem oct2_window (p : List Byte) (i n : Nat) {j : Nat} (hj : j + 1 < n) :
    oct2 ((p.drop i).take n) j = oct2 p (i + j) := by
  rw [oct2, oct_window p i n (by omega), oct_window p i n hj, oct2, Nat.add_assoc]

/-- The face read at octet `i` is the one that the twelve octets from there carry. -/
theorem faceOf_eq_some_iff (p : List Byte) (i : Nat) (f : Face) :
    faceOf p i = some f ↔ carriesFace ((p.drop i).take 12) f := by
  obtain ⟨crane, arcStart, arcEnd, band⟩ := f
  simp only [carriesFace, oct_window p i 12 (j := 0) (by decide), oct_window p i 12 (j := 1) (by decide),
    oct2_window p i 12 (j := 2) (by decide), oct2_window p i 12 (j := 4) (by decide),
    oct2_window p i 12 (j := 6) (by decide), oct2_window p i 12 (j := 8) (by decide),
    oct2_window p i 12 (j := 10) (by decide), Nat.add_zero]
  unfold faceOf
  cases hk : (pick (oct p i) : Option Crane) with
  | none =>
    have other : oct p i ≠ number crane := fun h => by rw [h, pick_number] at hk; cases hk
    simp [other]
  | some k =>
    rw [pick_eq_some_iff] at hk
    have same : number k = number crane ↔ k = crane := by simp [number, Fin.ext_iff]
    have top : (BitVec.ofNat 16 (oct2 p (i + 10))).toInt = int2 p (i + 10) := rfl
    rw [hk, same, top]
    by_cases jib : oct p (i + 1) = 0
    · cases band with
      | none => simp [jib]; grind
      | some b => simp [jib]
    by_cases hook : oct p (i + 1) = 1
    · obtain _ | ⟨rmin, rmax, ceiling⟩ := band
      · simp [hook]
      · simp [hook]; grind
    · cases band <;> simp [jib, hook]

/-! ## The faces of a payload, in ascending crane number (R10) -/

theorem allSome_eq_some_iff {α : Type} (l : List (Option α)) (r : List α) :
    allSome l = some r ↔ l = r.map some := by
  induction l generalizing r with
  | nil => cases r <;> simp [allSome]
  | cons a l ih =>
    cases a with
    | none => cases r <;> simp [allSome]
    | some a => cases r <;> simp [allSome, ih, and_comm]

/-- The faces that a payload of `n` faces lists, in its own order. -/
theorem facesOf_eq_some_iff (p : List Byte) (n : Nat) (l : List Face) :
    allSome ((List.range n).map (fun i => faceOf p (5 + 12 * i))) = some l ↔
      l.length = n ∧ ∀ i f, l[i]? = some f → carriesFace ((p.drop (5 + 12 * i)).take 12) f := by
  simp only [allSome_eq_some_iff, ← faceOf_eq_some_iff]
  constructor
  · intro h
    have len : l.length = n := by simpa using (congrArg List.length h).symm
    refine ⟨len, fun i f hf => ?_⟩
    have hi : i < n := len ▸ (List.getElem?_eq_some_iff.mp hf).1
    have at_i := congrArg (fun m => m[i]?) h
    simpa [hi, hf] using at_i
  · rintro ⟨rfl, h⟩
    apply List.ext_getElem (by simp)
    intro i hi hi'
    simp only [List.getElem_map, List.getElem_range]
    exact h i _ (List.getElem?_eq_getElem _)

theorem sortFaces_perm (l : List Face) : (sortFaces l).Perm l := 
  List.perm_insertionSort (fun x y : Face => x.crane ≤ y.crane) l

theorem sortFaces_ascending {l : List Face} (h : (l.map Face.crane).Nodup) :
    (sortFaces l).Pairwise (fun f g => f.crane < g.crane) := by
  have : Std.Total (fun x y : Face => x.crane ≤ y.crane) := ⟨fun x y => le_total x.crane y.crane⟩
  have : IsTrans Face (fun x y : Face => x.crane ≤ y.crane) := ⟨fun x y z => le_trans⟩
  have sorted : (sortFaces l).Pairwise (fun f g => f.crane ≤ g.crane) :=
    List.pairwise_insertionSort (fun x y : Face => x.crane ≤ y.crane) l
  have apart : (sortFaces l).Pairwise (fun f g => f.crane ≠ g.crane) :=
    List.pairwise_map.mp (((sortFaces_perm l).map Face.crane).nodup_iff.mpr h)
  exact (sorted.and apart).imp (fun h => lt_of_le_of_ne h.1 h.2)

/-- Faces in ascending crane number are what any listing of them sorts to. -/
theorem sortFaces_of_perm {l m : List Face} (h : l.Perm m) (hm : m.Pairwise (fun f g => f.crane < g.crane)) :
    (l.map Face.crane).Nodup ∧ sortFaces l = m := by
  have distinct : (l.map Face.crane).Nodup :=
    (h.map Face.crane).nodup_iff.mpr (List.pairwise_map.mpr (hm.imp fun h => ne_of_lt h))
  refine ⟨distinct, List.Perm.eq_of_pairwise ?_ (sortFaces_ascending distinct) hm ((sortFaces_perm l).trans h)⟩
  intro f g _ _ h h'
  exact absurd (h.trans h') (lt_irrefl _)

/-! ## The definition of a payload -/

/-- The payload carries zone `z` with the definition `d`, every number in its range (R10, R12). -/
def asksZone (p : List Byte) (z : Zone) (d : ZoneDef) : Prop :=
  oct p 0 = number z ∧ oct2 p 2 = d.mv ∧ d.mv ≤ 1000 ∧ d.faces.length = oct p 4 ∧
    (match d.kind with
      | .shared => oct p 1 = 0 ∧ 2 ≤ oct p 4 ∧ oct p 4 ≤ 4
      | .restricted => oct p 1 = 1 ∧ 1 ≤ oct p 4 ∧ oct p 4 ≤ 8) ∧
    d.faces.Pairwise (fun f g => f.crane < g.crane) ∧
    ∃ l : List Face, l.Perm d.faces ∧ ∀ i f, l[i]? = some f → carriesFace ((p.drop (5 + 12 * i)).take 12) f

theorem kindOf_faceCountOk_iff (n m : Nat) (kind : ZoneKind) :
    (kindOf n = some kind ∧ faceCountOk kind m = true) ↔ match kind with
      | .shared => n = 0 ∧ 2 ≤ m ∧ m ≤ 4
      | .restricted => n = 1 ∧ 1 ≤ m ∧ m ≤ 8 := by
  match n with
  | 0 => cases kind <;> simp [kindOf, faceCountOk, within]
  | 1 => cases kind <;> simp [kindOf, faceCountOk, within]
  | n + 2 => cases kind <;> simp [kindOf]

theorem zoneDefOf_eq_some_iff (p : List Byte) (z : Zone) (d : ZoneDef) :
    zoneDefOf p = some (z, d) ↔ asksZone p z d := by
  obtain ⟨kind, mv, faces⟩ := d
  have counted := kindOf_faceCountOk_iff (oct p 1) (oct p 4) kind
  constructor
  · intro h
    unfold zoneDefOf at h
    split at h
    case h_2 => cases h
    case h_1 z' kind' l hz hk hl =>
      obtain ⟨len, carried⟩ := (facesOf_eq_some_iff p _ l).mp hl
      split at h
      case isFalse => cases h
      case isTrue ok =>
        simp only [Bool.and_eq_true, decide_eq_true_iff] at ok
        obtain ⟨⟨low, count⟩, distinct⟩ := ok
        simp only [Option.some.injEq, Prod.mk.injEq, ZoneDef.mk.injEq] at h
        obtain ⟨rfl, rfl, rfl, rfl⟩ := h
        refine ⟨pick_eq_some_iff.mp hz, rfl, low, ?_, counted.mp ⟨hk, len ▸ count⟩, sortFaces_ascending distinct,
          l, (sortFaces_perm l).symm, carried⟩
        exact (sortFaces_perm l).length_eq.trans len
  · rintro ⟨hz, rfl, low, len, kinds, ascending, l, perm, carried⟩
    obtain ⟨hk, count⟩ := counted.mpr kinds
    obtain ⟨distinct, sorted⟩ := sortFaces_of_perm perm ascending
    have listed := (facesOf_eq_some_iff p (oct p 4) l).mpr ⟨perm.length_eq.trans len, carried⟩
    have hl : l.length = oct p 4 := perm.length_eq.trans len
    simp only [zoneDefOf, pick_eq_some_iff.mpr hz, hk, listed, hl, count, sorted]
    exact if_pos (by simpa [distinct] using low)

/-! ## The checks (R12 to R14) -/

section
variable (s : State) (z : Zone) (d : ZoneDef)

/-- A face names a crane that is not Defined (R12). -/
def State.zoneLacksCrane : Prop := ∃ f ∈ d.faces, s.crane f.crane = none

/-- A HOOK face reaches beyond its crane's jib (R12). -/
def State.zoneTooLong : Prop :=
  ∃ f ∈ d.faces, ∃ b c, f.band = some b ∧ s.crane f.crane = some c ∧ c.jib < b.rmax

/-- The new definition breaks what a booking relies on (R13). -/
def State.zoneBroken : Prop := s.zoneDef z ≠ none ∧ ∃ b ∈ s.bookings, b.state.terminal = false ∧
  ((z ∈ b.reserved ∧ d.kind = .restricted) ∨ (z ∈ b.opened ∧ d.kind = .shared) ∨
    ((z ∈ b.reserved ∨ z ∈ b.opened) ∧ ∀ f ∈ d.faces, f.crane ≠ b.crane))

theorem State.zoneLacksCrane_iff :
    d.faces.any (fun f => (s.crane f.crane).isNone) = true ↔ s.zoneLacksCrane d := by
  simp [State.zoneLacksCrane]

theorem State.bandTooLong_iff : s.bandTooLong d = true ↔ s.zoneTooLong d := by
  simp only [State.bandTooLong, State.zoneTooLong, List.any_eq_true]
  refine exists_congr fun f => and_congr_right fun _ => ?_
  cases f.band <;> cases s.crane f.crane <;> simp

theorem ZoneDef.breaks_iff (b : Booking) : d.breaks z b = true ↔ b.state.terminal = false ∧
    ((z ∈ b.reserved ∧ d.kind = .restricted) ∨ (z ∈ b.opened ∧ d.kind = .shared) ∨
      ((z ∈ b.reserved ∨ z ∈ b.opened) ∧ ∀ f ∈ d.faces, f.crane ≠ b.crane)) := by
  simp [ZoneDef.breaks, or_assoc]

theorem State.zoneBroken_iff :
    ((s.zoneDef z).isSome && s.bookings.any (d.breaks z)) = true ↔ s.zoneBroken z d := by
  simp [State.zoneBroken, ZoneDef.breaks_iff, Option.isSome_iff_ne_none]

/-- The faces of the other zones (R14). -/
def State.facesElsewhere : Nat :=
  ((allZones.filter (fun y => y != z)).map s.facesOf).sum

theorem State.facesInUse_eq : s.facesInUse = s.facesOf z + s.facesElsewhere z := by
  have erased : allZones.erase z = allZones.filter (fun y => y != z) :=
    List.Nodup.erase_eq_filter (by decide) z
  rw [State.facesElsewhere, ← erased, List.sum_map_erase s.facesOf (mem_allZones z)]
  rfl

theorem State.poolFull_iff : Config.facePool < s.facesInUse - s.facesOf z + d.faces.length ↔
    128 < s.facesElsewhere z + d.faces.length := by
  rw [s.facesInUse_eq z, Nat.add_sub_cancel_left, Config.facePool]

theorem State.zoneDefRequest_of_lacksCrane (h : s.zoneLacksCrane d) :
    s.zoneDefRequest z d = s.refuse .refusedRef := if_pos ((s.zoneLacksCrane_iff d).mpr h)

theorem State.zoneDefRequest_of_unfit (named : ¬ s.zoneLacksCrane d) (bad : s.zoneTooLong d ∨ s.zoneBroken z d) :
    s.zoneDefRequest z d = s.refuse .refusedInUse := by
  refine (if_neg (mt (s.zoneLacksCrane_iff d).mp named)).trans ?_
  by_cases long : s.zoneTooLong d
  · exact if_pos ((s.bandTooLong_iff d).mpr long)
  · exact (if_neg (mt (s.bandTooLong_iff d).mp long)).trans
      (if_pos ((s.zoneBroken_iff z d).mpr (bad.resolve_left long)))

theorem State.zoneDefRequest_of_fit (named : ¬ s.zoneLacksCrane d) (short : ¬ s.zoneTooLong d)
    (sound : ¬ s.zoneBroken z d) : s.zoneDefRequest z d =
      if 128 < s.facesElsewhere z + d.faces.length then s.refuse .refusedFull
      else (s.writeZone z (some d)).done [] := by
  refine (if_neg (mt (s.zoneLacksCrane_iff d).mp named)).trans ((if_neg (mt (s.bandTooLong_iff d).mp short)).trans
    ((if_neg (mt (s.zoneBroken_iff z d).mp sound)).trans ?_))
  simp only [s.poolFull_iff z d]

/-- A booking that is not terminal names the zone (R15). -/
def State.zoneNamed : Prop := ∃ b ∈ s.bookings, b.state.terminal = false ∧ (z ∈ b.reserved ∨ z ∈ b.opened)

theorem State.zoneNamed_iff :
    s.bookings.any (fun b => !b.state.terminal && (b.reserved.contains z || b.opened.contains z)) = true ↔
      s.zoneNamed z := by
  simp [State.zoneNamed]

end

/-! ## What writing a definition changes (R13, R15) -/

section
variable (s : State) (z y : Zone) (k : Crane) (d : Option ZoneDef)

theorem State.dropFaceStates_within : Within [.faces] s (s.dropFaceStates z) :=
  Within.foldl (fun s k => s.setFaces_within k _) _ s

theorem State.faces_dropFaceStates :
    (s.dropFaceStates z).faces[k] = s.faces[k].filter (fun f => f.zone != z) := by
  have fold : ∀ (l : List Crane) (s : State),
      (l.foldl (fun s k => s.setFaces k (s.faces[k].filter (fun f => f.zone != z))) s).faces[k] =
        if k ∈ l then s.faces[k].filter (fun f => f.zone != z) else s.faces[k] := by
    intro l
    induction l with
    | nil => intro s; rfl
    | cons j l ih =>
      intro s
      rw [List.foldl_cons, ih, State.faces_setFaces]
      by_cases hj : k = j
      · subst hj
        simp
      · simp [hj]
  exact (fold allCranes s).trans (if_pos (mem_allCranes k))

theorem State.zoneDef_writeZone : (s.writeZone z d).zoneDef y = if y = z then d else s.zoneDef y := by
  rw [State.zoneDef, State.writeZone, (State.dropFaceStates_within _ z).same .zones (by decide)]
  exact vector_get_set ..

theorem State.zone_writeZone : (s.writeZone z d).zone y = if y = z then .empty else s.zone y := by
  rw [State.zone, State.writeZone, (State.dropFaceStates_within _ z).same .arb (by decide)]
  exact vector_get_set ..

theorem State.faces_writeZone : (s.writeZone z d).faces[k] = s.faces[k].filter (fun f => f.zone != z) :=
  State.faces_dropFaceStates _ z k

/-- A zone's definition has been written: its record and face states are empty, and no other zone is touched. -/
theorem State.writeZone_writes :
    Within [.zones, .arb, .faces] s (s.writeZone z d) ∧ (s.writeZone z d).zoneDef z = d ∧
      (s.writeZone z d).zone z = .empty ∧
      (∀ y, y ≠ z → (s.writeZone z d).zoneDef y = s.zoneDef y ∧ (s.writeZone z d).zone y = s.zone y) ∧
      ∀ k : Crane, (s.writeZone z d).faces[k] = s.faces[k].filter (fun f => f.zone != z) :=
  ⟨s.writeZone_within z d, (s.zoneDef_writeZone z z d).trans (if_pos rfl), (s.zone_writeZone z z d).trans (if_pos rfl),
    fun y hy => ⟨(s.zoneDef_writeZone z y d).trans (if_neg hy), (s.zone_writeZone z y d).trans (if_neg hy)⟩,
    fun k => s.faces_writeZone z k d⟩

end

/-! ## The requests -/

theorem exec_zoneDef_of_asks {s : State} {seq : Byte} {p : List Byte} {z : Zone} {d : ZoneDef}
    (hs : s.mode = .setup) (hp : p.length = 5 + 12 * oct p 4) (ht : s.takes 0x13 seq p) (h : asksZone p z d) :
    exec (.zoneDef seq p) s = .next ((s.taken.zoneDefRequest z d).sent 0x13 seq) := by
  refine congrArg _ ((State.serve_inSetup _ ht hp hs).trans ?_)
  rw [(zoneDefOf_eq_some_iff p z d).mpr h]

theorem exec_zoneDef_of_asks_nothing {s : State} {seq : Byte} {p : List Byte}
    (hs : s.mode = .setup) (hp : p.length = 5 + 12 * oct p 4) (ht : s.takes 0x13 seq p)
    (h : ∀ z d, ¬ asksZone p z d) : exec (.zoneDef seq p) s = .next (s.refused 0x13 seq .refusedRange) := by
  have nothing : zoneDefOf p = none :=
    Option.eq_none_iff_forall_ne_some.mpr fun q hq => h q.1 q.2 ((zoneDefOf_eq_some_iff p q.1 q.2).mp hq)
  refine congrArg _ ((State.serve_inSetup _ ht hp hs).trans ?_)
  rw [nothing]
  rfl

theorem exec_zoneDel {s : State} {seq : Byte} {z : Zone} (hs : s.mode = .setup)
    (ht : s.takes 0x14 seq [BitVec.ofNat 8 (number z)]) :
    exec (.zoneDel seq [BitVec.ofNat 8 (number z)]) s = .next ((s.taken.zoneDelRequest z).sent 0x14 seq) := by
  refine congrArg _ ((State.serve_inSetup _ ht rfl hs).trans ?_)
  rw [oct_cons_zero, toNat_zoneNumber, withZone_number]

/-- Settles O30: what a payload asks for, the checks in their order, then the definition written or deleted. -/
theorem zoneDefAndZoneDelWriteTheZone : Obligations.ZoneDefAndZoneDelWriteTheZone := by
  intro s seq hs
  refine ⟨fun p hp ht => ⟨fun none => exec_zoneDef_of_asks_nothing hs hp ht none, fun z d asks => ?_⟩,
    fun n ht hn => ?_, fun z ht => ?_⟩
  · have request := exec_zoneDef_of_asks hs hp ht asks
    refine ⟨fun missing => ?_, fun named bad => ?_, fun named short sound full => ?_, fun named short sound room => ?_⟩
    · rw [request, s.taken.zoneDefRequest_of_lacksCrane z d missing]
      rfl
    · rw [request, s.taken.zoneDefRequest_of_unfit z d named bad]
      rfl
    · rw [request, s.taken.zoneDefRequest_of_fit z d named short sound,
        if_pos (show 128 < s.taken.facesElsewhere z + d.faces.length from full)]
      rfl
    · rw [s.taken.zoneDefRequest_of_fit z d named short sound,
        if_neg (show ¬ 128 < s.taken.facesElsewhere z + d.faces.length from room)] at request
      exact ⟨_, request, s.taken.writeZone_writes z (some d)⟩
  · refine congrArg _ ((State.serve_inSetup _ ht rfl hs).trans ?_)
    rw [oct_cons_zero, withZone, pick_octet_eq_none hn]
    rfl
  · have defined : s.zoneDef z ≠ none → ¬ (s.taken.zoneDef z).isNone = true :=
      fun h h' => h (Option.isNone_iff_eq_none.mp h')
    have request := exec_zoneDel hs ht
    rw [State.zoneDelRequest] at request
    refine ⟨fun free => ?_, fun h used => ?_, fun h unused => ?_⟩
    · rw [request, if_pos (show (s.taken.zoneDef z).isNone = true from Option.isNone_iff_eq_none.mpr free)]
      rfl
    · rw [request, if_neg (defined h), if_pos ((s.taken.zoneNamed_iff z).mpr used)]
      rfl
    · rw [if_neg (defined h), if_neg (mt (s.taken.zoneNamed_iff z).mp unused)] at request
      exact ⟨_, request, s.taken.writeZone_writes z none⟩

end Sys2Proof.Machine
end

section
/-! SUPPORT. The readings (R69, R104, R123, R185, R186): each payload octet by octet. -/

namespace Sys2Proof.Machine

/-! ## Items of a payload (R188) -/

/-- A flag as an octet. -/
def flagOctet (b : Bool) : Byte := if b then 1 else 0

/-- A count and the numbers it counts. -/
def countedOctets (l : List Nat) : List Byte := BitVec.ofNat 8 l.length :: l.map (BitVec.ofNat 8)

theorem putFlag_eq (b : Bool) : putFlag b = [flagOctet b] := by cases b <;> rfl

theorem putList_eq {n : Nat} (l : List (Fin n)) : putList l = countedOctets (l.map number) := by
  simp [putList, put1, countedOctets, Function.comp_def]

theorem numberOr0_eq {n : Nat} (o : Option (Fin n)) : numberOr0 o = (o.map number).getD 0 := by cases o <;> rfl

/-- An octet that names something is that thing's number. -/
theorem put1_number_of_pick {m : Nat} {n : Byte} {i : Fin m} (h : pick n.toNat = some i) : put1 (number i) = [n] := by
  rw [put1, ← pick_eq_some_iff.mp h, BitVec.ofNat_toNat, BitVec.setWidth_eq]

/-- Two octets are put back as they were read. -/
theorem put2_oct2 (hi lo : Byte) : put2 (hi.toNat * 256 + lo.toNat) = [hi, lo] := by
  have h := lo.isLt
  have high : BitVec.ofNat 8 ((hi.toNat * 256 + lo.toNat) / 256) = hi := by
    apply BitVec.eq_of_toNat_eq
    simp
    omega
  have low : BitVec.ofNat 8 (hi.toNat * 256 + lo.toNat) = lo := by
    apply BitVec.eq_of_toNat_eq
    simp
    omega
  rw [put2, high, low]

/-! ## Sets in ascending number -/

theorem addTo_ascends {n : Nat} {a : Fin n} {l : List (Fin n)} (h : l.Pairwise (· < ·)) :
    (addTo a l).Pairwise (· < ·) := by
  unfold addTo
  split
  · exact h
  · rename_i new
    have sorted : (l.orderedInsert (· ≤ ·) a).Pairwise (· ≤ ·) := (h.imp le_of_lt).orderedInsert a l
    have distinct : (l.orderedInsert (· ≤ ·) a).Pairwise (· ≠ ·) :=
      (List.perm_orderedInsert (· ≤ ·) a l).nodup_iff.mpr
        (List.nodup_cons.mpr ⟨new, h.imp ne_of_lt⟩)
    exact (sorted.and distinct).imp fun h => lt_of_le_of_ne h.1 h.2

theorem ascending_ascends {n : Nat} (l : List (Fin n)) : (ascending l).Pairwise (· < ·) := by
  have fold : ∀ (l acc : List (Fin n)), acc.Pairwise (· < ·) →
      (l.foldl (fun acc a => addTo a acc) acc).Pairwise (· < ·) := by
    intro l
    induction l with
    | nil => intro acc h; exact h
    | cons a l ih => intro acc h; exact ih _ (addTo_ascends h)
  exact fold l [] .nil

/-- A set of cranes in ascending number: all cranes that are members, in their order. -/
theorem ascending_eq_filter (l : List Crane) : ascending l = allCranes.filter (fun k => l.contains k) := by
  have ordered : allCranes.Pairwise (· < ·) := by decide
  refine List.Perm.eq_of_pairwise (fun a b _ _ h h' => absurd (h.trans h') (lt_irrefl a)) (ascending_ascends l)
    (ordered.filter _) ((List.perm_ext_iff_of_nodup ((ascending_ascends l).imp ne_of_lt)
      ((ordered.filter _).imp ne_of_lt)).mpr fun k => ?_)
  simp

/-- The members of a set as a reading lists them. -/
def craneSet (l : List Crane) : List Byte := countedOctets ((allCranes.filter (fun k => l.contains k)).map number)

theorem putList_ascending (l : List Crane) : putList (ascending l) = craneSet l := by
  rw [putList_eq, ascending_eq_filter, craneSet]

/-! ## Bookings in order of start (R123) -/

/-- Earlier start, or equal start and no greater id. -/
def Booking.startsBefore (b c : Booking) : Prop := b.start < c.start ∨ (b.start = c.start ∧ b.id ≤ c.id)

theorem byStart_perm (l : List Booking) : (byStart l).Perm l :=
  List.perm_insertionSort (fun b c : Booking => b.start < c.start ∨ (b.start = c.start ∧ b.id ≤ c.id)) l

theorem byStart_ordered (l : List Booking) : (byStart l).Pairwise Booking.startsBefore := by
  have : Std.Total (fun b c : Booking => b.start < c.start ∨ (b.start = c.start ∧ b.id ≤ c.id)) :=
    ⟨fun b c => by omega⟩
  have : IsTrans Booking (fun b c : Booking => b.start < c.start ∨ (b.start = c.start ∧ b.id ≤ c.id)) :=
    ⟨fun b c d h h' => by omega⟩
  exact List.pairwise_insertionSort (fun b c : Booking => b.start < c.start ∨ (b.start = c.start ∧ b.id ≤ c.id)) l

/-! ## The payloads -/

section
variable (s : State)

theorem State.statusPayload_eq : s.statusPayload =
    put4 s.clock ++ [flagOctet s.clockValid] ++ put2 s.port.mask.toNat ++
      [BitVec.ofNat 8 s.events.length, flagOctet s.overflow, BitVec.ofNat 8 s.bookings.length] ++
      (allCranes.map (fun k => [flagOctet (s.crane k).isSome, flagOctet ((s.crane k).any (fun c => c.absent)),
        flagOctet (s.line k).enabled, BitVec.ofNat 8 (s.line k).link.code, BitVec.ofNat 8 s.service[k].code,
        BitVec.ofNat 8 s.wind[k].level.code, BitVec.ofNat 8 s.vane[k].state.code])).flatten ++
      (allMasts.map (fun m => match s.mastLine.masts[m] with
        | none => [0, 0, 0]
        | some r => [1, BitVec.ofNat 8 r.state.code, BitVec.ofNat 8 r.misses])).flatten := by
  have cranes : s.statusCrane = fun k => [flagOctet (s.crane k).isSome,
      flagOctet ((s.crane k).any (fun c => c.absent)), flagOctet (s.line k).enabled,
      BitVec.ofNat 8 (s.line k).link.code, BitVec.ofNat 8 s.service[k].code, BitVec.ofNat 8 s.wind[k].level.code,
      BitVec.ofNat 8 s.vane[k].state.code] := by
    funext k
    have absent : ((s.crane k).map (·.absent) == some true) = (s.crane k).any (fun c => c.absent) := by
      cases s.crane k <;> simp
    simp only [State.statusCrane, absent, putFlag_eq, put1, List.cons_append, List.nil_append]
  have masts : s.statusMast = fun m => match s.mastLine.masts[m] with
      | none => [0, 0, 0]
      | some r => [1, BitVec.ofNat 8 r.state.code, BitVec.ofNat 8 r.misses] := by
    funext m
    unfold State.statusMast
    cases s.mastLine.masts[m] <;> rfl
  simp only [State.statusPayload, cranes, masts, putFlag_eq, put1, List.append_assoc, List.cons_append,
    List.nil_append]

theorem SiteParams.payload_eq (p : SiteParams) : p.payload =
    put2 p.release ++ put2 p.callTimeout ++ [BitVec.ofNat 8 p.hysteresis] ++ put2 p.holdStorm ++ put2 p.holdStop ++
      put2 p.holdCaution ++ put2 p.sweepAlarm ++ [BitVec.ofNat 8 p.divN, BitVec.ofNat 8 p.divF] := by
  simp only [SiteParams.payload, put1, List.append_assoc, List.cons_append, List.nil_append]

theorem CraneRec.payload_eq (c : CraneRec) {k : Crane} {n : Byte} (h : pick n.toNat = some k) : c.payload k =
    [n] ++ put4 c.identity.toNat ++ put2 c.digest.toNat ++ put2 c.jib ++
      [BitVec.ofNat 8 c.alpha, BitVec.ofNat 8 c.beta] ++ put2 c.latency ++ put2 c.marginM ++ put2 c.slowMs ++
      put2 c.marginMr ++ put2 c.slowMrs ++ put2 c.cycle ++ [BitVec.ofNat 8 c.window, BitVec.ofNat 8 c.missLimit] ++
      put2 c.cautionGust ++ put2 c.stopGust ++ put2 c.stormGust ++ put2 c.stopMean ++ put2 c.stormMean ++
      [BitVec.ofNat 8 ((c.backup.map number).getD 0), flagOctet c.absent] := by
  unfold CraneRec.payload
  rw [put1_number_of_pick h]
  simp only [putFlag_eq, numberOr0_eq, put1, List.append_assoc, List.cons_append, List.nil_append]

theorem Face.payload_eq (f : Face) : f.payload =
    [BitVec.ofNat 8 (number f.crane), flagOctet f.band.isSome] ++ put2 f.arcStart ++ put2 f.arcEnd ++
      (match f.band with
        | none => [0, 0, 0, 0, 0, 0]
        | some b => put2 b.rmin ++ put2 b.rmax ++ put2 (BitVec.ofInt 16 b.ceiling).toNat) := by
  unfold Face.payload
  cases f.band <;> simp only [putFlag_eq, putInt2, put1, List.append_assoc, List.cons_append, List.nil_append]
  all_goals rfl

theorem ZoneDef.payload_eq (d : ZoneDef) {z : Zone} {n : Byte} (h : pick n.toNat = some z) : d.payload z =
    [n, BitVec.ofNat 8 d.kind.code] ++ put2 d.mv ++ [BitVec.ofNat 8 d.faces.length] ++
      (d.faces.map Face.payload).flatten := by
  rw [ZoneDef.payload, put1_number_of_pick h]
  simp only [put1, List.append_assoc, List.cons_append, List.nil_append]

theorem ZoneRt.payload_eq (r : ZoneRt) (kind : ZoneKind) : r.payload kind =
    [BitVec.ofNat 8 kind.code, BitVec.ofNat 8 ((r.holder.map number).getD 0)] ++ craneSet r.sweep ++
      craneSet r.claims ++ countedOctets (r.waiting.map number) ++
      (match r.reservation with
        | none => [0, 0, 0, 0]
        | some v => put2 v.id ++ [BitVec.ofNat 8 (number v.crane), BitVec.ofNat 8 v.phase.code]) ++
      craneSet r.guard ++ craneSet r.inside ++
      [flagOctet (kind == .shared && r.inside.any (fun k => r.holder != some k && !r.sweep.contains k)),
        BitVec.ofNat 8 ((r.mover.map number).getD 0)] := by
  have contested : r.contested = r.inside.any (fun k => r.holder != some k && !r.sweep.contains k) := by
    rw [Bool.eq_iff_iff]
    simp [ZoneRt.contested, ZoneRt.intruders]
  have reserved : reservationOctets r.reservation = match r.reservation with
      | none => [0, 0, 0, 0]
      | some v => put2 v.id ++ [BitVec.ofNat 8 (number v.crane), BitVec.ofNat 8 v.phase.code] := by
    cases r.reservation <;> rfl
  simp only [ZoneRt.payload, putList_ascending, putList_eq r.waiting, putFlag_eq, numberOr0_eq, reserved, contested,
    put1,
    List.append_assoc, List.cons_append, List.nil_append]

theorem State.windPayload_eq (k : Crane) : s.windPayload k =
    let w := s.wind[k]
    put2 (w.values.getD 0 0) ++ put2 (w.values.getD 1 0) ++ put2 (w.values.getD 2 0) ++
      [BitVec.ofNat 8 w.values.length] ++
      put2 (if w.values = [] then 0 else (w.values.sum + w.values.length - 1) / w.values.length) ++
      put2 (match w.acc with
        | none => 0
        | some a => a / 256) ++
      [BitVec.ofNat 8 w.level.code, BitVec.ofNat 8 w.source.code, BitVec.ofNat 8 w.quiet] ++
      put2 (if w.unsettled then 0 else (match w.level with
        | .storm => s.params.holdStorm
        | .stop => s.params.holdStop
        | .caution => s.params.holdCaution
        | .calm => 0) - w.eligible) ++ [flagOctet w.unsettled] := by
  unfold State.windPayload
  dsimp only
  generalize s.wind[k] = w
  have gust : w.gust.getD 0 =
      if w.values = [] then 0 else (w.values.sum + w.values.length - 1) / w.values.length := by
    unfold WindRec.gust
    cases w.values <;> rfl
  have mean : w.mean.getD 0 = match w.acc with
      | none => 0
      | some a => a / 256 := by
    unfold WindRec.mean
    cases w.acc <;> rfl
  have hold : w.holdRemaining s.params = if w.unsettled then 0 else (match w.level with
      | .storm => s.params.holdStorm
      | .stop => s.params.holdStop
      | .caution => s.params.holdCaution
      | .calm => 0) - w.eligible := by
    unfold WindRec.holdRemaining
    cases w.level <;> rfl
  simp only [gust, mean, hold, putFlag_eq, put1, List.append_assoc, List.cons_append, List.nil_append]

theorem Booking.payload_eq (b : Booking) : b.payload =
    put2 b.id ++ [BitVec.ofNat 8 (number b.crane)] ++ put4 b.start ++ put4 b.finish ++
      countedOctets (b.reserved.map number) ++ countedOctets (b.opened.map number) ++ [flagOctet b.windLimit.isSome] ++
      put2 (b.windLimit.getD 0) ++ [BitVec.ofNat 8 b.label.length] ++ b.label ++
      [BitVec.ofNat 8 b.state.code, BitVec.ofNat 8 b.cause.code] ++ put4 b.deadline ++
      [flagOctet b.terminal.isSome] ++ put4 (b.terminal.getD 0) := by
  simp only [Booking.payload, putList_eq, putFlag_eq, put1, List.append_assoc, List.cons_append, List.nil_append]

end

/-! ## The requests -/

section
variable {s : State} {seq n : Byte}

/-- A reading that names a crane in one octet. -/
theorem State.serve_withCrane {typ : Byte} (own : Crane → State → Answer) (ht : s.takes typ seq [n]) :
    s.serve { typ := typ, seq := seq, payload := [n] } (withLength 1 [n] (withCrane (oct [n] 0) own)) =
      match (pick n.toNat : Option Crane) with
      | none => s.refused typ seq .refusedRange
      | some k => (own k s.taken).sent typ seq := by
  rw [State.serve_withLength (n := 1) _ ht rfl, oct_cons_zero, withCrane]
  cases (pick n.toNat : Option Crane) <;> rfl

/-- A reading that names a zone in one octet. -/
theorem State.serve_withZone {typ : Byte} (own : Zone → State → Answer) (ht : s.takes typ seq [n]) :
    s.serve { typ := typ, seq := seq, payload := [n] } (withLength 1 [n] (withZone (oct [n] 0) own)) =
      match (pick n.toNat : Option Zone) with
      | none => s.refused typ seq .refusedRange
      | some z => (own z s.taken).sent typ seq := by
  rw [State.serve_withLength (n := 1) _ ht rfl, oct_cons_zero, withZone]
  cases (pick n.toNat : Option Zone) <;> rfl

theorem exec_craneRead (ht : s.takes 0x12 seq [n]) : exec (.craneRead seq [n]) s =
    .next (match (pick n.toNat : Option Crane) with
      | none => s.refused 0x12 seq .refusedRange
      | some k => (s.taken.craneReadRequest k).sent 0x12 seq) := congrArg _ (State.serve_withCrane _ ht)

theorem exec_zoneRead (ht : s.takes 0x15 seq [n]) : exec (.zoneRead seq [n]) s =
    .next (match (pick n.toNat : Option Zone) with
      | none => s.refused 0x15 seq .refusedRange
      | some z => (s.taken.zoneReadRequest z).sent 0x15 seq) := congrArg _ (State.serve_withZone _ ht)

theorem exec_zoneState (ht : s.takes 0x28 seq [n]) : exec (.zoneState seq [n]) s =
    .next (match (pick n.toNat : Option Zone) with
      | none => s.refused 0x28 seq .refusedRange
      | some z => (s.taken.zoneStateRequest z).sent 0x28 seq) := congrArg _ (State.serve_withZone _ ht)

theorem exec_windRead (ht : s.takes 0x30 seq [n]) : exec (.windRead seq [n]) s =
    .next (match (pick n.toNat : Option Crane) with
      | none => s.refused 0x30 seq .refusedRange
      | some k => (s.taken.windReadRequest k).sent 0x30 seq) := congrArg _ (State.serve_withCrane _ ht)

theorem State.windReadRequest_of_free {k : Crane} (h : s.crane k = none) :
    s.windReadRequest k = s.refuse .refusedRef := if_pos (by rw [h]; rfl)

theorem State.windReadRequest_of_defined {k : Crane} {c : CraneRec} (h : s.crane k = some c) :
    s.windReadRequest k = s.done (s.windPayload k) := if_neg (by rw [h]; exact Bool.false_ne_true)

theorem exec_bookingRead {hi lo : Byte} (ht : s.takes 0x3A seq [hi, lo]) : exec (.bookingRead seq [hi, lo]) s =
    .next ((withBooking (hi.toNat * 256 + lo.toNat) (fun b s => s.done b.payload) s.taken).sent 0x3A seq) :=
  congrArg _ (State.serve_withLength _ ht rfl)

end

/-! ## What each reading answers -/

/-- Settles O20: each payload as written out above, and the codes of the enumerated fields. -/
theorem readingsAnswerAndChangeNothing : Obligations.ReadingsAnswerAndChangeNothing := by
  refine ⟨fun s seq => ⟨fun ht => ?_, fun ht => ?_, fun ht => ?_,
    fun n => ⟨fun ht => ?_, fun ht => ?_, fun ht => ?_, fun ht => ?_⟩, fun hi lo ht => ?_⟩,
    rfl, rfl, rfl, rfl, rfl, rfl, rfl, rfl, rfl, rfl, rfl, rfl, rfl, rfl, rfl, rfl, rfl, rfl, rfl, rfl⟩
  · refine congrArg _ ((State.serve_withLength _ ht rfl).trans ?_)
    exact congrArg (s.taken.answered 0x01 seq .done) s.statusPayload_eq
  · refine congrArg _ ((State.serve_withLength _ ht rfl).trans ?_)
    exact congrArg (fun p => s.taken.answered 0x18 seq .done (p ++ put1 s.facesInUse)) s.params.payload_eq
  · exact ⟨byStart s.bookings, byStart_perm _, byStart_ordered _, congrArg _ (State.serve_withLength _ ht rfl)⟩
  · rw [exec_craneRead ht]
    refine congrArg _ ?_
    cases hk : (pick n.toNat : Option Crane) with
    | none => rfl
    | some k =>
      dsimp only [State.craneReadRequest, State.taken_crane]
      cases s.crane k with
      | none => rfl
      | some c => exact congrArg (s.taken.answered 0x12 seq .done) (c.payload_eq hk)
  · rw [exec_zoneRead ht]
    refine congrArg _ ?_
    cases hz : (pick n.toNat : Option Zone) with
    | none => rfl
    | some z =>
      dsimp only [State.zoneReadRequest, State.taken_zoneDef]
      cases s.zoneDef z with
      | none => rfl
      | some d =>
        refine congrArg (s.taken.answered 0x15 seq .done) ((d.payload_eq hz).trans ?_)
        rw [funext Face.payload_eq]
        rfl
  · rw [exec_zoneState ht]
    refine congrArg _ ?_
    cases hz : (pick n.toNat : Option Zone) with
    | none => rfl
    | some z =>
      dsimp only [State.zoneStateRequest, State.taken_zoneDef]
      cases s.zoneDef z with
      | none => rfl
      | some d => exact congrArg (s.taken.answered 0x28 seq .done) (((s.zone z).shown d.kind).payload_eq d.kind)
  · rw [exec_windRead ht]
    refine congrArg _ ?_
    cases hk : (pick n.toNat : Option Crane) with
    | none => rfl
    | some k =>
      dsimp only
      cases hc : s.crane k with
      | none =>
        rw [State.windReadRequest_of_free (s := s.taken) hc]
        rfl
      | some c =>
        rw [State.windReadRequest_of_defined (s := s.taken) hc]
        exact congrArg (s.taken.answered 0x30 seq .done) (s.windPayload_eq k)
  · rw [exec_bookingRead ht]
    refine congrArg _ ?_
    rw [withBooking]
    split
    · rfl
    · rw [State.taken_booking, State.booking]
      cases hb : s.bookings.find? (fun b => b.id == hi.toNat * 256 + lo.toNat) with
      | none => rfl
      | some b =>
        have id : b.id = hi.toNat * 256 + lo.toNat := by simpa using List.find?_some hb
        have read : put2 b.id = [hi, lo] := by rw [id, put2_oct2]
        refine congrArg (s.taken.answered 0x3A seq .done) (b.payload_eq.trans ?_)
        rw [read]
        rfl

end Sys2Proof.Machine
end

section
/-! SUPPORT. The mast line: how a slot begins, how a reply is gathered and judged, and how an exchange ends (R158 to
R163). -/

namespace Sys2Proof.Machine

section
variable {s : State} {x : MastExchange}

/-! ## The record of a mast after an exchange (R162) -/

theorem MastRt.after_some (r : MastRt) (v : Nat) : r.after (some v) = { state := .present, misses := 0 } := rfl

theorem MastRt.after_none_of_missing {r : MastRt} (h : r.state = .missing) :
    r.after none = { state := .missing, misses := 3 } := if_pos h

theorem MastRt.after_none_of_few {r : MastRt} (h : r.state ≠ .missing) (hm : r.misses < 2) :
    r.after none = { state := r.state, misses := r.misses + 1 } := (if_neg h).trans (if_pos hm)

theorem MastRt.after_none_of_many {r : MastRt} (h : r.state ≠ .missing) (hm : 2 ≤ r.misses) :
    r.after none = { state := .missing, misses := 3 } := (if_neg h).trans (if_neg (Nat.not_lt.mpr hm))

/-! ## The events of its change of state (R162) -/

section
variable {m : Mast} {before after : MastRt} {result : Option Nat}

theorem State.mastEvents_of_back (hb : before.state = .missing) (ha : after.state = .present) :
    s.mastEvents m before after result = s.emit .mastBack 0 0 0 (number m) (result.getD 0) := if_pos ⟨hb, ha⟩

theorem State.mastEvents_of_lost (hb : before.state ≠ .missing) (ha : after.state = .missing) :
    s.mastEvents m before after result = s.emit .mastLost 0 0 0 (number m) before.state.code :=
  (if_neg fun h => hb h.1).trans (if_pos ⟨hb, ha⟩)

/-- A mast that stays MISSING, or stays with the line, makes no event. -/
theorem State.mastEvents_of_kept (h : before.state = .missing ↔ after.state = .missing) :
    s.mastEvents m before after result = s := by
  unfold State.mastEvents
  rw [if_neg, if_neg]
  · exact fun g => g.1 (h.mpr g.2)
  · rintro ⟨hb, ha⟩
    rw [h.mp hb] at ha
    cases ha

theorem State.mastEvents_notices : (s.mastEvents m before after result).notices = s.notices := by
  unfold State.mastEvents
  split
  · exact State.emit_notices ..
  · split
    · exact State.emit_notices ..
    · rfl

end

/-! ## The end of an exchange (R162, R163, R16) -/

theorem State.endMastExchange_of_discard {result : Option Nat} (h : x.discard = true) :
    s.endMastExchange x result = s.dropMastExchange := if_pos h

theorem State.endMastExchange_of_kept {result : Option Nat} {before : MastRt} (h : x.discard = false)
    (hm : s.mastLine.masts[x.mast] = some before) :
    s.endMastExchange x result =
      ((s.dropMastExchange.setMast x.mast (some (before.after result))).mastEvents x.mast before (before.after result)
        result).post (.mast x.mast (before.after result).state result) := by
  have hm' : s.dropMastExchange.mastLine.masts[x.mast] = some before := hm
  unfold State.endMastExchange
  dsimp only
  rw [if_neg (by rw [h]; exact Bool.false_ne_true), hm']

end

/-! ## The exchange of `s` that ends in a state `u` which differs from it on the mast line and in time alone -/

/-- In `u` time may have passed since `s`, and the mast receiver stands at `rx` and may have gathered characters. -/
structure State.HeardMast (s u : State) (rx : Receiver) : Prop where
  frame : Within [.msCount, .mastLine] s u
  line : { u.mastLine with exchange := none } = { s.mastLine with rx := rx, exchange := none }

section
variable {s u : State} {x : MastExchange} {rx : Receiver} {result : Option Nat} {before : MastRt}

theorem State.HeardMast.masts (h : s.HeardMast u rx) (m : Mast) : u.mastLine.masts[m] = s.mastLine.masts[m] :=
  congrArg (fun l : MastLine => l.masts[m]) (a₁ := { u.mastLine with exchange := none }) h.line

theorem State.HeardMast.ended_within (h : s.HeardMast u rx) :
    Within [.msCount, .mastLine, .notices, .events, .overflow] s (u.endMastExchange x result) :=
  (h.frame.mono (by decide)).trans ((u.endMastExchange_within x result).mono (by decide))

theorem State.HeardMast.ended_msCount : (u.endMastExchange x result).msCount = u.msCount :=
  (u.endMastExchange_within x result).same .msCount (by decide)

theorem State.HeardMast.dropped (h : s.HeardMast u rx) (hd : x.discard = true) :
    (u.endMastExchange x result).mastLine = { s.mastLine with rx := rx, exchange := none } ∧
      (u.endMastExchange x result).notices = s.notices ∧ (u.endMastExchange x result).events = s.events ∧
      (u.endMastExchange x result).overflow = s.overflow := by
  rw [State.endMastExchange_of_discard hd]
  exact ⟨h.line, h.frame.same .notices (by decide), h.frame.same .events (by decide),
    h.frame.same .overflow (by decide)⟩

theorem State.HeardMast.record (h : s.HeardMast u rx) (kind : EventKind) (crane zone booking : Nat) (a b : Int) :
    u.record kind crane zone booking a b = s.record kind crane zone booking a b :=
  congrArg (fun c => ({ time := c, kind, crane, zone, booking, a, b } : Event)) (h.frame.same .clock (by decide))

/-- The record of the mast and the notice to the Wind Evaluator. -/
theorem State.HeardMast.becomes (h : s.HeardMast u rx) (hd : x.discard = false)
    (hm : s.mastLine.masts[x.mast] = some before) {state : MastState} {misses : Nat}
    (ha : before.after result = { state := state, misses := misses }) :
    (u.endMastExchange x result).mastLine = { s.mastLine with
        rx := rx, exchange := none, masts := s.mastLine.masts.set x.mast (some { state := state, misses := misses }) } ∧
      (u.endMastExchange x result).notices = s.notices ++ [.mast x.mast state result] := by
  rw [State.endMastExchange_of_kept hd ((h.masts _).trans hm), ha]
  constructor
  · refine (State.mastEvents_mastLine ..).trans ?_
    exact congrArg (fun l : MastLine => { l with masts := l.masts.set x.mast (some { state, misses }) }) h.line
  · refine congrArg (· ++ _) (State.mastEvents_notices.trans ?_)
    exact h.frame.same .notices (by decide)

/-- No event, where the mast stays MISSING or stays with the line. -/
theorem State.HeardMast.silent (h : s.HeardMast u rx) (hd : x.discard = false)
    (hm : s.mastLine.masts[x.mast] = some before)
    (hk : before.state = .missing ↔ (before.after result).state = .missing) :
    (u.endMastExchange x result).events = s.events ∧ (u.endMastExchange x result).overflow = s.overflow := by
  rw [State.endMastExchange_of_kept hd ((h.masts _).trans hm), State.mastEvents_of_kept hk]
  exact ⟨h.frame.same .events (by decide), h.frame.same .overflow (by decide)⟩

theorem State.HeardMast.logged_emit (h : s.HeardMast u rx) (m : Mast) (r : Option MastRt) (n : Notice)
    (kind : EventKind) (a b : Int) :
    s.logged (((u.dropMastExchange.setMast m r).emit kind 0 0 0 a b).post n) [s.record kind 0 0 0 a b] := by
  refine State.logged_from (u := u.dropMastExchange.setMast m r) (h.frame.same .events (by decide))
    (h.frame.same .overflow (by decide)) ?_
  rw [← h.record]
  exact State.logged_emit (u.dropMastExchange.setMast m r) kind 0 0 0 a b

theorem State.HeardMast.back (h : s.HeardMast u rx) {v : Nat} (hd : x.discard = false)
    (hm : s.mastLine.masts[x.mast] = some before) (hb : before.state = .missing) :
    s.logged (u.endMastExchange x (some v)) [s.record .mastBack 0 0 0 (number x.mast) v] := by
  rw [State.endMastExchange_of_kept hd ((h.masts _).trans hm), State.mastEvents_of_back hb rfl]
  exact h.logged_emit _ _ _ _ _ _

theorem State.HeardMast.lost (h : s.HeardMast u rx) (hd : x.discard = false)
    (hm : s.mastLine.masts[x.mast] = some before) (hb : before.state ≠ .missing) (hn : 2 ≤ before.misses) :
    s.logged (u.endMastExchange x none) [s.record .mastLost 0 0 0 (number x.mast) before.state.code] := by
  rw [State.endMastExchange_of_kept hd ((h.masts _).trans hm),
    State.mastEvents_of_lost hb (congrArg MastRt.state (MastRt.after_none_of_many hb hn))]
  exact h.logged_emit _ _ _ _ _ _

end

/-! ## A reply of four characters (R161) -/

theorem checkOctet_take_three : ∀ {o : List Byte}, o.length = 4 →
    checkOctet (o.take 3) = 0xA5 ^^^ o.getD 0 0 ^^^ o.getD 1 0 ^^^ o.getD 2 0
  | [_, _, _, _], _ => rfl

theorem replyValid_iff {m : Mast} {o : List Byte} {framing : Bool} (h : o.length = 4) :
    replyValid m o framing = true ↔ ¬ framing = true ∧ oct o 0 = number m ∧
      o.getD 3 0 = 0xA5 ^^^ o.getD 0 0 ^^^ o.getD 1 0 ^^^ o.getD 2 0 := by
  rw [← checkOctet_take_three h]
  simp only [replyValid, h, Bool.and_eq_true, beq_iff_eq, Bool.not_eq_true', true_and, Bool.not_eq_true, and_assoc,
    beq_self_eq_true]

/-! ## The characters of a reply (R161) -/

/-- The exchange `x`, with the characters it has gathered. -/
def State.gathered (s : State) (x : MastExchange) (due : Moment) (held : List Byte) (framing : Bool) (rx : Receiver) :
    State :=
  { s with mastLine := { s.mastLine with
    rx := rx, exchange := some { x with progress := .window due held framing } } }

theorem State.heardMast_withRx (s : State) (rx : Receiver) :
    s.HeardMast { s with mastLine := { s.mastLine with rx := rx } } rx :=
  ⟨(State.withMastLine_within ..).mono (by decide), rfl⟩

theorem State.heardMast_gathered (s : State) (x : MastExchange) (due : Moment) (held : List Byte) (framing : Bool)
    (rx : Receiver) : s.HeardMast (s.gathered x due held framing rx) rx :=
  ⟨(State.withMastLine_within ..).mono (by decide), rfl⟩

theorem State.heardMast_reach (s : State) (due : Moment) : s.HeardMast (s.reach due) s.mastLine.rx := by
  refine ⟨(State.reach_within ..).mono (by decide), ?_⟩
  rw [State.reach_mastLine]

theorem MastLine.de_of_window {l : MastLine} {x : MastExchange} {due : Moment} {held : List Byte} {framing : Bool}
    (hx : l.exchange = some x) (hp : x.progress = .window due held framing) : l.de = false := by
  unfold MastLine.de
  rw [hx]
  dsimp only
  rw [hp]
  rfl

theorem MastLine.de_of_idle {l : MastLine} (hx : l.exchange = none) : l.de = false := by
  unfold MastLine.de
  rw [hx]

theorem MastLine.de_of_sending {l : MastLine} {x : MastExchange} (hx : l.exchange = some x)
    (hp : x.progress = .sending) : l.de = true := by
  unfold MastLine.de
  rw [hx]
  dsimp only
  rw [hp]
  rfl

/-- While the request is sent the receiver does not listen (R158). -/
theorem State.sampleMasts_deaf {s : State} (h : s.mastLine.de = true) (samples : Samples) :
    s.sampleMasts samples = s := by
  induction samples with
  | nil => rfl
  | cons b rest ih => rw [State.sampleMasts_cons, show s.sampleMast b = s from if_pos h, ih]

theorem State.takeMastChar_idle {s : State} (hx : s.mastLine.exchange = none) (c : LineChar) :
    s.takeMastChar c = s := by
  unfold State.takeMastChar
  rw [hx]

section
variable {s : State} {x : MastExchange} {due : Moment} {held : List Byte} {framing : Bool}

/-- A character that completes in a reply window. -/
theorem State.takeMastChar_window (hx : s.mastLine.exchange = some x) (hp : x.progress = .window due held framing)
    (rx : Receiver) (c : LineChar) :
    ({ s with mastLine := { s.mastLine with rx := rx } } : State).takeMastChar c =
      if c.tenth then { s with mastLine := { s.mastLine with rx := rx } }
      else if 4 ≤ (held ++ [c.octet]).length then
        ({ s with mastLine := { s.mastLine with rx := rx } } : State).endMastExchange x
          (if replyValid x.mast (held ++ [c.octet]) (framing || c.framing) then
            some (replySpeed (held ++ [c.octet])) else none)
      else s.gathered x due (held ++ [c.octet]) (framing || c.framing) rx := by
  unfold State.takeMastChar
  dsimp only
  rw [hx]
  dsimp only
  rw [hp]
  rfl

variable {last : Bool} (hx : s.mastLine.exchange = some x) (hp : x.progress = .window due held framing)
  (hr : s.mastLine.rx = .hunt last)
include hx hp hr

theorem State.sampleMasts_address (o : Byte) (stop : Bool) : s.sampleMasts (wave (charBits o true stop)) =
    { s with mastLine := { s.mastLine with rx := .hunt stop } } := by
  rw [State.sampleMasts_wave o true stop (MastLine.de_of_window hx hp) hr, State.takeMastChar_window hx hp]
  exact if_pos rfl

theorem State.sampleMasts_gathers (h : held.length < 3) (o : Byte) (stop : Bool) :
    s.sampleMasts (wave (charBits o false stop)) =
      s.gathered x due (held ++ [o]) (framing || !stop) (.hunt stop) := by
  rw [State.sampleMasts_wave o false stop (MastLine.de_of_window hx hp) hr, State.takeMastChar_window hx hp,
    if_neg Bool.false_ne_true, if_neg]
  rw [List.length_append]
  exact Nat.not_le.mpr (Nat.succ_lt_succ h)

theorem State.sampleMasts_ends (h : held.length = 3) (o : Byte) (stop : Bool) :
    s.sampleMasts (wave (charBits o false stop)) =
      ({ s with mastLine := { s.mastLine with rx := .hunt stop } } : State).endMastExchange x
        (if replyValid x.mast (held ++ [o]) (framing || !stop) then some (replySpeed (held ++ [o])) else none) := by
  rw [State.sampleMasts_wave o false stop (MastLine.de_of_window hx hp) hr, State.takeMastChar_window hx hp,
    if_neg Bool.false_ne_true, if_pos]
  rw [List.length_append, h]
  exact Nat.le_refl 4

/-- Four characters of a window that holds none: the first three are gathered, and the fourth ends the exchange. -/
theorem State.sampleMasts_reply (hh : held = []) (hf : framing = false) (a b c d : Byte × Bool) :
    s.sampleMasts ([a, b, c, d].map (fun h => wave (charBits h.1 false h.2))).flatten =
      (s.gathered x due [a.1, b.1, c.1] (!a.2 || !b.2 || !c.2) (.hunt d.2)).endMastExchange x
        (if replyValid x.mast [a.1, b.1, c.1, d.1] (!a.2 || !b.2 || !c.2 || !d.2) then
          some (replySpeed [a.1, b.1, c.1, d.1]) else none) := by
  subst hh hf
  simp only [List.map_cons, List.map_nil, List.flatten_cons, List.flatten_nil, List.append_nil,
    State.sampleMasts_append]
  rw [State.sampleMasts_gathers hx hp hr (by decide) a.1 a.2, List.nil_append, Bool.false_or,
    State.sampleMasts_gathers (s := s.gathered x due [a.1] (!a.2) (.hunt a.2)) rfl rfl rfl (show 1 < 3 by decide) b.1
      b.2,
    State.sampleMasts_gathers (held := [a.1, b.1]) rfl rfl rfl (show 2 < 3 by decide) c.1 c.2,
    State.sampleMasts_ends rfl rfl rfl rfl d.1 d.2]
  rfl

end

/-! ## The slots (R160) and the notice to the Wind Evaluator (R163) -/

theorem nextSlot_eq : ∀ m : Mast, nextSlot m = if m = 3 then 0 else m + 1 := by decide

theorem State.slotStarts_idle {s : State} (hx : s.mastLine.exchange = none) : s.slotStarts =
    (s.reach s.mastLine.slotDue).beginSlot (nextSlot s.mastLine.slot) (s.mastLine.slotDue + 250) := by
  unfold State.slotStarts
  rw [hx]
  rfl

theorem State.beginSlot_reach (s : State) (due next : Moment) (m : Mast) : (s.reach due).beginSlot m next =
    { s.reach due with mastLine := { s.mastLine with
      divN := s.params.divN, divF := s.params.divF, slot := m, slotDue := next
      rx := if s.mastDefined m then .hunt false else s.mastLine.rx
      exchange := if s.mastDefined m then some { mast := m, discard := false, progress := .sending } else none } } := by
  unfold State.reach
  split <;> rfl

theorem State.mastWindowOpens_sending {s : State} {x : MastExchange} (hx : s.mastLine.exchange = some x)
    (hp : x.progress = .sending) : s.mastWindowOpens = { s with mastLine := { s.mastLine with
      exchange := some { x with progress := .window (s.later 50) [] false } } } := by
  unfold State.mastWindowOpens
  rw [hx]
  exact if_pos hp

theorem State.mastWindowCloses_window {s : State} {x : MastExchange} {due : Moment} {held : List Byte}
    {framing : Bool} (hx : s.mastLine.exchange = some x) (hp : x.progress = .window due held framing) :
    s.mastWindowCloses = (s.reach due).endMastExchange x none := by
  unfold State.mastWindowCloses
  rw [hx]
  dsimp only
  rw [hp]

theorem State.deliver_of_taken {s : State} {p : Notice → Bool} {act : Notice → State → State} {n : Notice}
    {rest : List Notice} (h : takeFirst p s.notices = some (n, rest)) :
    s.deliver p act = act n { s with notices := rest } := by
  unfold State.deliver
  rw [h]

theorem State.takeMastNotice_eq (s : State) (m : Mast) (state : MastState) (speed : Option Nat) :
    s.takeMastNotice m state speed = { s with windMasts := s.windMasts.set m (match speed with
      | none => { s.windMasts[m] with state := state }
      | some v => { state := state, sample := some v, fresh := true }) } := by
  cases speed <;> rfl

/-! ## The mast line as a whole -/

theorem exec_mastSlotStart (s : State) : exec .mastSlotStart s = .next s.slotStarts := rfl

theorem exec_mastCharacter (s : State) (x : Samples) : exec (.mastCharacter x) s = .next (s.sampleMasts x) := rfl

theorem exec_mastReply (s : State) (x : Samples) : exec (.mastReply x) s = .next (s.sampleMasts x) := rfl

/-- Settles O55: an exchange ends as `HeardMast` says, at the close of the window and at the fourth character alike. -/
theorem aMastIsCalledAndAnswers : Obligations.AMastIsCalledAndAnswers := by
  intro s l received hears
  have sent : ∀ o address stop, received o address stop = wave (charBits o address stop) := fun _ _ _ => rfl
  refine ⟨fun idle => ?_, fun last idle hr o address stop => ?_, fun x hx => ⟨fun hp => ⟨fun samples => ?_, ?_⟩,
    fun due held framing hp => ?_⟩, fun m state speed rest taken => ?_⟩
  · rw [exec_mastSlotStart, State.slotStarts_idle idle, State.beginSlot_reach, nextSlot_eq]
  · rw [exec_mastCharacter, sent, State.sampleMasts_wave o address stop (MastLine.de_of_idle idle) hr]
    exact congrArg _ (State.takeMastChar_idle (s := hears stop) idle _)
  · exact congrArg _ (State.sampleMasts_deaf (MastLine.de_of_sending hx hp) samples)
  · exact congrArg _ (State.mastWindowOpens_sending hx hp)
  intro ends judged
  have ended : ∀ {c now u rx result}, s.HeardMast u rx → u.msCount = now.msCount →
      exec c s = .next (u.endMastExchange x result) → ends c now rx result := by
    intro c now u rx result heard time ran
    refine ⟨_, ran, heard.ended_within, State.HeardMast.ended_msCount.trans time, heard.dropped,
      fun hd before hm => ⟨?_, ?_⟩⟩
    · rintro v rfl
      exact ⟨heard.becomes hd hm rfl, fun hb => heard.silent hd hm (iff_of_false hb MastState.noConfusion),
        heard.back hd hm⟩
    · rintro rfl
      refine ⟨fun hb => ?_, fun hb few => ?_, fun hb many => ⟨?_, heard.lost hd hm hb many⟩⟩
      · have ha := MastRt.after_none_of_missing hb
        exact ⟨heard.becomes hd hm ha, heard.silent hd hm (iff_of_true hb (congrArg MastRt.state ha))⟩
      · have ha := MastRt.after_none_of_few hb few
        exact ⟨heard.becomes hd hm ha, heard.silent hd hm (by rw [ha])⟩
      · exact heard.becomes hd hm (MastRt.after_none_of_many hb many)
  have decided : ∀ {c u rx reply f} {damaged : Prop}, s.HeardMast u rx → u.msCount = s.msCount → reply.length = 4 →
      (f = true ↔ damaged) → exec c s = .next (u.endMastExchange x
        (if replyValid x.mast reply f then some (replySpeed reply) else none)) → judged c rx reply damaged := by
    intro c u rx reply f damaged heard time hl hf ran
    have valid := replyValid_iff (m := x.mast) (framing := f) hl
    rw [hf] at valid
    refine ⟨fun hv => ?_, fun hv => ?_⟩
    · rw [if_pos (valid.mpr hv)] at ran
      exact ended heard time ran
    · rw [if_neg (mt valid.mp hv)] at ran
      exact ended heard time ran
  refine ⟨ended (s.heardMast_reach due) rfl (congrArg _ (State.mastWindowCloses_window hx hp)), fun last hr =>
    ⟨fun o stop c hc => ?_, fun o stop => ?_, fun a b c d hh hf => ?_⟩⟩
  · have heard : exec c s = .next (s.sampleMasts (wave (charBits o false stop))) := by
      rw [← sent]
      rcases hc with rfl | rfl <;> rfl
    rw [heard]
    refine ⟨fun few => congrArg _ (State.sampleMasts_gathers hx hp hr few o stop), fun full => ?_⟩
    refine decided (s.heardMast_withRx _) rfl (by rw [List.length_append, full]; rfl) ?_
      (heard.trans (congrArg _ (State.sampleMasts_ends hx hp hr full o stop)))
    rw [Bool.or_eq_true, Bool.not_eq_true']
  · rw [exec_mastCharacter, sent, State.sampleMasts_address hx hp hr]
  · refine decided (s.heardMast_gathered x due _ _ _) rfl rfl ?_
      ((exec_mastReply ..).trans (congrArg _ (State.sampleMasts_reply hx hp hr hh hf a b c d)))
    simp only [Bool.or_eq_true, Bool.not_eq_true', or_assoc]
  · exact congrArg _ ((State.deliver_of_taken taken).trans (State.takeMastNotice_eq ..))

end Sys2Proof.Machine
end

section
/-! SUPPORT. The permit of a composition (R32, R37 to R41, R71 to R73, R118): the lowest of its contributions, and the
contribution of one face. -/

namespace Sys2Proof.Machine

/-! ## The lower of two levels -/

theorem MotionLevel.lower_or (a b : MotionLevel) : a.lower b = a ∨ a.lower b = b := by
  cases a <;> cases b <;> decide

theorem MotionLevel.code_lower (a b : MotionLevel) : (a.lower b).code = min a.code b.code := by
  cases a <;> cases b <;> decide

/-- Taking the lower of two permits goes motion by motion. -/
theorem Permit.motion_lower {motion : Permit → MotionLevel}
    (h : motion ∈ [Permit.cw, Permit.ccw, Permit.outward, Permit.inward, Permit.up, Permit.down]) :
    (∀ p q : Permit, motion (p.lower q) = (motion p).lower (motion q)) ∧ motion .allFull = .full := by
  simp only [List.mem_cons, List.not_mem_nil, or_false] at h
  rcases h with rfl | rfl | rfl | rfl | rfl | rfl <;> exact ⟨fun _ _ => rfl, rfl⟩

/-- The level is one of a list and above none of them. -/
def MotionLevel.lowestOf (m : MotionLevel) (l : List MotionLevel) : Prop := m ∈ l ∧ ∀ x ∈ l, m.code ≤ x.code

theorem MotionLevel.lowestOf_singleton (m : MotionLevel) : m.lowestOf [m] := by simp [MotionLevel.lowestOf]

theorem MotionLevel.lowestOf_cons {m : MotionLevel} {l : List MotionLevel} (a : MotionLevel) (h : m.lowestOf l) :
    (a.lower m).lowestOf (a :: l) := by
  obtain ⟨mem, least⟩ := h
  refine ⟨?_, fun x hx => ?_⟩
  · rcases MotionLevel.lower_or a m with e | e <;> rw [e]
    · exact List.mem_cons_self
    · exact List.mem_cons_of_mem _ mem
  · rw [MotionLevel.code_lower]
    rcases List.mem_cons.mp hx with rfl | hx
    · exact min_le_left _ _
    · exact (min_le_right _ _).trans (least x hx)

/-- A running lowest level starts at one of the levels and goes down through the others. -/
theorem MotionLevel.lowestOf_foldl {α : Type} (f : α → MotionLevel) (l : List α) (m : MotionLevel) :
    (l.foldl (fun p a => p.lower (f a)) m).lowestOf (m :: l.map f) := by
  induction l generalizing m with
  | nil => exact MotionLevel.lowestOf_singleton m
  | cons a l ih =>
    obtain ⟨mem, least⟩ := ih (m.lower (f a))
    rw [List.foldl_cons, List.map_cons]
    have head := least _ List.mem_cons_self
    rw [MotionLevel.code_lower] at head
    refine ⟨?_, fun x hx => ?_⟩
    · rcases List.mem_cons.mp mem with e | e
      · rw [e]
        rcases MotionLevel.lower_or m (f a) with e | e <;> simp [e]
      · exact List.mem_cons_of_mem _ (List.mem_cons_of_mem _ e)
    · rcases List.mem_cons.mp hx with rfl | hx
      · exact head.trans (min_le_left _ _)
      · rcases List.mem_cons.mp hx with rfl | hx
        · exact head.trans (min_le_right _ _)
        · exact least x (List.mem_cons_of_mem _ hx)

/-! ## The permit and its faces' part (R41, R71) -/

section
variable {motion : Permit → MotionLevel} (s : State) (k : Crane)
  (h : motion ∈ [Permit.cw, Permit.ccw, Permit.outward, Permit.inward, Permit.up, Permit.down])
include h

theorem State.permitFor_lowest (evaluated : Option Report) :
    (motion (s.permitFor k evaluated)).lowestOf ([modeLimits s.mode, reportLimits (s.line k).reportSince,
      serviceLimits s.service[k], windLimits s.wind[k].level, s.facesPart k evaluated].map motion) := by
  simp only [State.permitFor, (Permit.motion_lower h).1, List.map_cons, List.map_nil]
  open MotionLevel in
    exact lowestOf_cons _ (lowestOf_cons _ (lowestOf_cons _ (lowestOf_cons _ (lowestOf_singleton _))))

theorem State.faceLimits_lowest (r : Report) :
    (motion (s.faceLimits k r)).lowestOf (.full :: s.faces[k].map (fun g => motion (s.contribution k r g))) := by
  obtain ⟨lower, full⟩ := Permit.motion_lower h
  have e : ∀ (l : List FaceState) (p : Permit), motion (l.foldl (fun p g => p.lower (s.contribution k r g)) p) =
      l.foldl (fun m g => m.lower (motion (s.contribution k r g))) (motion p) := by
    intro l
    induction l with
    | nil => exact fun _ => rfl
    | cons g l ih => intro p; rw [List.foldl_cons, List.foldl_cons, ih, lower]
  rw [State.faceLimits, e, full]
  exact MotionLevel.lowestOf_foldl _ _ _

end

theorem State.facesPart_of_idle {s : State} {evaluated : Option Report} (k : Crane)
    (h : evaluated = none ∨ s.mode = .setup) : s.facesPart k evaluated = .allFull := by
  unfold State.facesPart
  rcases h with rfl | h
  · rfl
  · cases evaluated with
    | none => rfl
    | some r => exact if_pos h

theorem State.facesPart_of_evaluated {s : State} (k : Crane) (r : Report) (h : s.mode ≠ .setup) :
    s.facesPart k (some r) = s.faceLimits k r := if_neg h

/-! ## The contribution of one face (R32, R37 to R40, R118) -/

theorem State.openedTo_iff (s : State) (k : Crane) (z : Zone) : s.openedTo k z = true ↔
    ∃ b ∈ s.bookings, b.crane = k ∧ (b.state = .active ∨ b.state = .suspended ∨ b.state = .closing) ∧ z ∈ b.opened := by
  have opens : ∀ t : BookingState, t.opens = true ↔ t = .active ∨ t = .suspended ∨ t = .closing := by
    intro t; cases t <;> decide
  simp only [State.openedTo, List.any_eq_true, Bool.and_eq_true, beq_iff_eq, opens, List.contains_eq_mem,
    decide_eq_true_eq, and_assoc]

/-- STOP on all five zone motions. -/
def Permit.stopped : Permit :=
  { cw := .stop, ccw := .stop, outward := .stop, inward := .stop, up := .full, down := .stop }

/-- The way out of a face at angle θ: CW where the end of its arc is no farther than its start (R32, R39, R40). -/
def Face.wayOut (f : Face) (theta : Nat) : Permit :=
  if f.arcStart = f.arcEnd then .stopped
  else if ((f.arcEnd : Int) - theta) % 3600 ≤ ((theta : Int) - f.arcStart) % 3600 + 1 then
    { Permit.stopped with cw := .slow }
  else { Permit.stopped with ccw := .slow }

theorem ledOut_none : ledOut none = .stopped := rfl

theorem ledOut_leaving (f : Face) (theta : Nat) : ledOut (f.leaving theta) = f.wayOut theta := by
  have dist : turn ((f.arcEnd : Int) - theta) ≤ turn ((theta : Int) - f.arcStart) + 1 ↔
      ((f.arcEnd : Int) - theta) % 3600 ≤ ((theta : Int) - f.arcStart) % 3600 + 1 := by
    unfold turn; omega
  unfold Face.leaving Face.wayOut
  simp only [dist]
  split
  · rfl
  · split <;> rfl

section
variable {s : State} {k : Crane} {g : FaceState} {d : ZoneDef} {f : Face} (hf : s.faceIn k g.zone = some (d, f))
  (r : Report)
include hf

theorem State.contribution_shared (hd : d.kind = .shared) : s.contribution k r g =
    if k ∈ (s.zone g.zone).sweep ∨ ((s.zone g.zone).holder = some k ∧ (s.zone g.zone).contested = false) then .allFull
    else if (s.zone g.zone).contested = true ∧ g.inside = true then
      if (s.zone g.zone).mover = some k then f.wayOut r.theta else .stopped
    else g.byLevels := by
  unfold State.contribution
  rw [hf]
  simp only [hd, Bool.or_eq_true, Bool.and_eq_true, List.contains_eq_mem, decide_eq_true_eq, beq_iff_eq,
    Bool.not_eq_true']
  congr 2
  split
  · exact ledOut_leaving ..
  · exact ledOut_none

theorem State.contribution_restricted (hd : d.kind = .restricted) : s.contribution k r g =
    if s.openedTo k g.zone = true then .allFull else if g.inside = true then f.wayOut r.theta else g.byLevels := by
  unfold State.contribution
  rw [hf]
  simp only [hd, ledOut_leaving]

end

/-- Settles O60: the lowest of the contributions motion by motion, and the cases of a face's contribution. -/
theorem thePermitIsTheLowestOfItsContributions : Obligations.ThePermitIsTheLowestOfItsContributions := by
  refine ⟨?_, ?_, rfl, rfl, rfl, rfl⟩
  · intro s k evaluated motion h parts
    obtain ⟨mem, least⟩ := s.permitFor_lowest k h evaluated
    refine ⟨mem, least, fun idle => ?_, ?_⟩
    · rw [State.facesPart_of_idle k idle]
      exact (Permit.motion_lower h).2
    · rintro r rfl hm faces
      obtain ⟨memFaces, leastFaces⟩ := s.faceLimits_lowest k h r
      rw [State.facesPart_of_evaluated k r hm]
      exact ⟨List.mem_cons.mp memFaces, fun l hl => leastFaces l (List.mem_cons_of_mem _ hl)⟩
  · intro s k r g d f hf q full limit levels stopped led contested opened
    have lv : levels = g.byLevels := rfl
    have ld : led = f.wayOut r.theta := rfl
    have con : contested ↔ q.contested = true := q.contested_iff.symm
    have op : opened ↔ s.openedTo k g.zone = true := (s.openedTo_iff k g.zone).symm
    rw [con, op, lv, ld]
    refine ⟨fun hd => ?_, fun hd => ?_⟩
    · rw [State.contribution_shared hf r hd, Bool.not_eq_true]
      refine ⟨fun h => if_pos h, fun hs hc hi => ?_, fun hs hh hi => ?_⟩
      · have barred : ¬ (k ∈ q.sweep ∨ (q.holder = some k ∧ q.contested = false)) := by simp [hs, hc]
        exact (if_neg barred).trans (if_pos ⟨hc, hi⟩)
      · have barred : ¬ (k ∈ q.sweep ∨ (q.holder = some k ∧ q.contested = false)) := by
          rcases hh with hh | hh <;> simp [hs, hh]
        have apart : ¬ (q.contested = true ∧ g.inside = true) := by
          rcases hi with hi | hi <;> simp [hi]
        exact (if_neg barred).trans (if_neg apart)
    · rw [State.contribution_restricted hf r hd]
      exact ⟨fun h => if_pos h, fun h => if_neg h⟩

end Sys2Proof.Machine
end

section
/-! SUPPORT. A reply on a crane line, received octet by octet on a line nobody disturbs, and the REPORT (R23, R85, R128, R133,
R137). -/

namespace Sys2Proof.Machine

/-! ## The octets of a frame (R130) -/

theorem lineFrame_eq (kind tag : Byte) (p : List Byte) : lineFrame kind tag p =
    kind :: tag :: BitVec.ofNat 8 p.length :: (p ++ [checkOctet (kind :: tag :: BitVec.ofNat 8 p.length :: p)]) := rfl

theorem lineFrame_length (kind tag : Byte) (p : List Byte) : (lineFrame kind tag p).length = 4 + p.length := by
  rw [lineFrame_eq]; simp; omega

theorem getD_lineFrame (kind tag : Byte) {p : List Byte} {i : Nat} (h : i < p.length) :
    (lineFrame kind tag p).getD (i + 3) 0 = p.getD i 0 := by
  rw [lineFrame_eq, List.getD_cons_succ, List.getD_cons_succ, List.getD_cons_succ, List.getD_append _ _ _ _ h]

theorem oct_lineFrame (kind tag : Byte) {p : List Byte} {i : Nat} (h : i < p.length) :
    oct (lineFrame kind tag p) (i + 3) = oct p i := congrArg _ (getD_lineFrame kind tag h)

theorem oct2_lineFrame (kind tag : Byte) {p : List Byte} {i : Nat} (h : i + 1 < p.length) :
    oct2 (lineFrame kind tag p) (i + 3) = oct2 p i := by
  rw [oct2, oct2, oct_lineFrame _ _ (by omega), Nat.add_right_comm, oct_lineFrame _ _ h]

theorem oct_lineFrame_length (kind tag : Byte) {p : List Byte} (h : p.length < 256) :
    oct (lineFrame kind tag p) 2 = p.length := by
  rw [lineFrame_eq]
  simpa using h

/-- A reply is complete with the last octet of its frame. -/
theorem replyComplete_lineFrame (kind tag : Byte) {p : List Byte} (h : p.length < 256) :
    replyComplete (lineFrame kind tag p) = true := by
  simp only [replyComplete, lineFrame_length, oct_lineFrame_length kind tag h, beq_self_eq_true, Bool.and_true,
    decide_eq_true_eq]
  omega

/-- A reply that has begun with some, but not all, of the octets of a frame is not complete. -/
theorem replyComplete_prefix {kind tag : Byte} {p o q : List Byte} (h : p.length < 256)
    (e : o ++ q = lineFrame kind tag p) (hq : q ≠ []) : replyComplete o = false := by
  by_cases short : o.length < 3
  · simp [replyComplete, Nat.not_le.mpr short]
  · have l2 := oct_lineFrame_length kind tag h
    have len := lineFrame_length kind tag p
    rw [← e, oct_append_left _ _ _ (by omega)] at l2
    rw [← e, List.length_append] at len
    have := List.length_pos_iff.mpr hq
    simp only [replyComplete, l2, Bool.and_eq_false_iff, beq_eq_false_iff_ne]
    right; omega

/-! ## The octets of a reply, one after another (R132) -/

/-- A character with the parity bit that R127 asks for has no parity error. -/
theorem LineChar.parity_right (o : Byte) (framing : Bool) :
    LineChar.parity { octet := o, tenth := parityBit o, framing := framing } = false := by simp [LineChar.parity]

/-- The exchange has gathered these octets of its reply, without an error: none while no start bit has come. -/
def Exchange.holds (x : Exchange) (held : List Byte) : Prop :=
  (∃ due, x.progress = .waiting due ∧ held = []) ∨ x.progress = .receiving held false false

/-- The state once the exchange `x` of line *k* has gathered these octets, its receiver at rest. -/
def State.gathers (s : State) (k : Crane) (x : Exchange) (held : List Byte) : State :=
  s.modLine k (fun l =>
    { l with rx := .hunt true, exchange := some { x with progress := .receiving held false false } })

theorem Line.listens_of_held {l : Line} {x : Exchange} {held : List Byte} (hx : l.exchange = some x)
    (hh : x.holds held) (rate : l.rate ≠ none) (wait : ∀ d, l.wait ≠ .pulse d) : l.listens = true := by
  have notSending : (x.progress == .sending) = false := by
    rcases hh with ⟨due, hp, -⟩ | hp <;> simp [hp]
  have rated : l.rate.isSome = true := Option.isSome_iff_ne_none.mpr rate
  cases hw : l.wait with
  | pulse d => exact absurd hw (wait d)
  | _ => simp [Line.listens, Line.de, hx, hw, notSending, rated]

section
variable {s : State} {k : Crane} {x : Exchange} {held : List Byte} {last : Bool}
  (hx : (s.line k).exchange = some x) (hh : x.holds held) (rate : (s.line k).rate ≠ none)
  (wait : ∀ d, (s.line k).wait ≠ .pulse d) (hr : (s.line k).rx = .hunt last)
include hx hh rate wait hr

/-- One more octet of the reply. -/
theorem State.sampleLines_octet (o : Byte) : s.sampleLines k (wave (lineBits o)) =
    (s.gathers k x held).extendReply k { x with progress := .receiving held false false } (held ++ [o]) false false := by
  have listens := Line.listens_of_held hx hh rate wait
  have begun : (s.replyBegins k).modLine k (fun l => { l with rx := .hunt true }) = s.gathers k x held := by
    unfold State.replyBegins State.gathers
    rw [hx]
    rcases hh with ⟨due, hp, rfl⟩ | hp
    · dsimp only
      rw [hp]
      exact State.modLine_modLine ..
    · dsimp only
      rw [hp]
      have same : { x with progress := .receiving held false false } = x := by rw [← hp]
      simp only [same, ← hx]
      unfold State.modLine
      rfl
  rw [lineBits, State.sampleLines_wave o (parityBit o) true listens hr, begun, State.takeChar, State.gathers,
    State.line_modLine_self]
  dsimp only
  rw [LineChar.parity_right]
  rfl

end

theorem Exchange.holds_receiving (x : Exchange) (held : List Byte) :
    Exchange.holds { x with progress := .receiving held false false } held := .inr rfl

/-- Octets that do not complete the reply, nor fill its buffer, are gathered. -/
theorem State.sampleLines_gathers (q : List Byte) :
    ∀ {s : State} {k : Crane} {x : Exchange} {held : List Byte} {last : Bool}, (s.line k).exchange = some x →
      x.holds held → (s.line k).rate ≠ none → (∀ d, (s.line k).wait ≠ .pulse d) → (s.line k).rx = .hunt last →
      q ≠ [] → (held ++ q).length < 32 → (∀ o rest, o ++ rest = held ++ q → replyComplete o = false) →
      s.sampleLines k (q.map (fun o => wave (lineBits o))).flatten = s.gathers k x (held ++ q) := by
  induction q with
  | nil => exact fun _ _ _ _ _ hq => absurd rfl hq
  | cons o q ih =>
    intro s k x held last hx hh rate wait hr _ short unfinished
    have fits : ¬ Config.replyBuffer ≤ (held ++ [o]).length := by
      simp only [List.length_append, List.length_cons, List.length_nil] at short ⊢
      show ¬ 32 ≤ _
      omega
    have unended : replyComplete (held ++ [o]) = false := unfinished _ q (by simp)
    have one : s.sampleLines k (wave (lineBits o)) = s.gathers k x (held ++ [o]) := by
      rw [State.sampleLines_octet hx hh rate wait hr, State.extendReply, if_neg (by simp [unended]), if_neg fits,
        State.gathers, State.modLine_modLine]
      rfl
    rw [List.map_cons, List.flatten_cons, State.sampleLines_append, one]
    rcases eq_or_ne q [] with rfl | hq
    · rfl
    · rw [ih (last := true) (x := { x with progress := .receiving (held ++ [o]) false false }) (by simp [State.gathers])
        (Exchange.holds_receiving ..) (by simpa [State.gathers] using rate) (by simpa [State.gathers] using wait)
        (by simp [State.gathers]) hq (by simpa using short) (by simpa using unfinished), State.gathers, State.gathers,
        State.modLine_modLine]
      simp [State.gathers]

/-- A whole frame of a reply that fits its buffer: its octets are gathered, and with the last the reply is judged (R132,
R133). -/
theorem State.sampleLines_lineFrame {s : State} {k : Crane} {x : Exchange} {due : Moment} {last : Bool}
    (hx : (s.line k).exchange = some x) (hp : x.progress = .waiting due) (rate : (s.line k).rate ≠ none)
    (wait : ∀ d, (s.line k).wait ≠ .pulse d) (hr : (s.line k).rx = .hunt last) (kind tag : Byte) {p : List Byte}
    (h : p.length ≤ 28) :
    s.sampleLines k ((lineFrame kind tag p).map (fun o => wave (lineBits o))).flatten =
      (s.gathers k x (lineFrame kind tag p).dropLast).judge k x.kind (lineFrame kind tag p) false false := by
  have full : lineFrame kind tag p ≠ [] := by rw [lineFrame_eq]; simp
  have cut := List.dropLast_append_getLast full
  have len := lineFrame_length kind tag p
  have bodyLen : (lineFrame kind tag p).dropLast.length = 3 + p.length := by rw [List.length_dropLast, len]; omega
  have complete := replyComplete_lineFrame kind tag (p := p) (by omega)
  have openBody : ∀ o rest, o ++ rest = [] ++ (lineFrame kind tag p).dropLast → replyComplete o = false := by
    intro o rest e
    refine replyComplete_prefix (kind := kind) (tag := tag) (p := p)
      (q := rest ++ [(lineFrame kind tag p).getLast full]) (by omega) ?_ (by simp)
    rw [← List.append_assoc, e]
    exact cut
  generalize (lineFrame kind tag p).getLast full = c at cut openBody
  generalize (lineFrame kind tag p).dropLast = body at cut bodyLen openBody
  rw [← cut] at complete ⊢
  have gathered := State.sampleLines_gathers body hx (.inl ⟨due, hp, rfl⟩) rate wait hr
    (by rintro rfl; simp at bodyLen; omega) (by rw [List.nil_append, bodyLen]; omega) openBody
  rw [List.nil_append] at gathered
  rw [List.map_append, List.flatten_append, State.sampleLines_append, gathered, List.map_singleton,
    List.flatten_singleton,
    State.sampleLines_octet (last := true) (x := { x with progress := .receiving body false false })
      (by simp [State.gathers])
      (Exchange.holds_receiving ..) (by simpa [State.gathers] using rate) (by simpa [State.gathers] using wait)
      (by simp [State.gathers]),
    State.extendReply, if_pos complete, State.gathers, State.gathers, State.modLine_modLine]

/-! ## Judging the frame that was asked for (R133) -/

/-- A frame of the kind, tag and length that the exchange expects is good up to its content. -/
theorem replyFaults_lineFrame {x : ExchangeKind} {lineTag : Byte} (p : List Byte)
    (h : p.length = (x.expects lineTag).2.2) (h256 : p.length < 256) :
    replyFaults x lineTag (lineFrame (x.expects lineTag).1 (x.expects lineTag).2.1 p) false false =
      { Faults.clear with
        range := contentFails x (lineFrame (x.expects lineTag).1 (x.expects lineTag).2.1 p) } := by
  have check : ∀ l : List Byte, ((l ++ [checkOctet l]).getLast? != some (checkOctet (l ++ [checkOctet l]).dropLast)) =
      false := by intro l; simp
  have good : frameFaults x lineTag (lineFrame (x.expects lineTag).1 (x.expects lineTag).2.1 p) false false =
      Faults.clear := by
    unfold frameFaults
    dsimp only
    rw [oct_lineFrame_length _ _ h256, ← h, lineFrame, check]
    simp [Faults.clear]
  unfold replyFaults
  rw [good]
  rfl

/-! ## The REPORT (R137, R189) -/

/-- The values that the payload of a REPORT carries (R189). -/
def reportOf (p : List Byte) : Report :=
  { theta := oct2 p 0, omega := int1 p 2, radius := oct2 p 3, speed := int2 p 5, height := int2 p 7, wind := oct2 p 9
    windValid := (p.getD 11 0).getLsbD 0, age := oct p 12 }

theorem rawReport_lineFrame (kind tag : Byte) {p : List Byte} (h : p.length = 13) :
    rawReport (lineFrame kind tag p) = reportOf p := by
  unfold rawReport reportOf int1 int2
  rw [oct2_lineFrame (i := 0) _ _ (by omega), getD_lineFrame (i := 2) _ _ (by omega),
    oct2_lineFrame (i := 3) _ _ (by omega), oct2_lineFrame (i := 5) _ _ (by omega),
    oct2_lineFrame (i := 7) _ _ (by omega), oct2_lineFrame (i := 9) _ _ (by omega),
    getD_lineFrame (i := 11) _ _ (by omega), oct_lineFrame (i := 12) _ _ (by omega)]

/-- Some value of the report is not as it was received (R23). -/
def Report.limited (r raw : Report) : Bool :=
  decide (r.omega ≠ raw.omega ∨ r.radius ≠ raw.radius ∨ r.speed ≠ raw.speed ∨ r.height ≠ raw.height ∨
    r.wind ≠ raw.wind)

theorem Report.limited_clamped (raw : Report) (jib : Nat) :
    (raw.clamped jib).limited raw = false ↔ raw.clamped jib = raw := by
  simp only [Report.limited, decide_eq_false_iff_not, not_or, not_not]
  constructor
  · rintro ⟨homega, hradius, hspeed, hheight, hwind⟩
    calc raw.clamped jib = { raw with
          omega := (raw.clamped jib).omega, radius := (raw.clamped jib).radius, speed := (raw.clamped jib).speed
          height := (raw.clamped jib).height, wind := (raw.clamped jib).wind } := rfl
      _ = raw := by rw [homega, hradius, hspeed, hheight, hwind]
  · intro h
    rw [h]
    exact ⟨rfl, rfl, rfl, rfl, rfl⟩

/-- The line once a valid REPORT is taken. -/
def Line.reported (l : Line) (m : ChunkMarker) (r : Report) (limited : Bool) : Line :=
  { l with
    exchange := none, lastReport := some r, reportSince := true, missCount := 0, texts := acknowledge m l.texts
    faults := { l.faults with range := l.faults.range || limited } }

theorem State.takeReport_eq (s : State) (k : Crane) (m : ChunkMarker) (o : List Byte) : s.takeReport k m o =
    let r := (rawReport o).clamped (s.craneRec k).jib
    let t := s.modLine k (fun l => l.reported m r (r.limited (rawReport o)))
    if r.windValid = true then t.ownSample k r.wind else t := by
  have flag : ∀ (f : Faults) (raw : Report) (jib : Nat), (if raw.clamped jib = raw then f else { f with range := true }) =
      { f with range := f.range || (raw.clamped jib).limited raw } := by
    intro f raw jib
    by_cases h : raw.clamped jib = raw
    · rw [if_pos h, (Report.limited_clamped ..).mpr h, Bool.or_false]
    · rw [if_neg h, Bool.eq_true_of_not_eq_false (mt (Report.limited_clamped ..).mp h), Bool.or_true]
  unfold State.takeReport Line.reported
  simp only [flag]

theorem State.takeReport_lines_within (s : State) (k : Crane) (m : ChunkMarker) (o : List Byte) :
    Within [.lines, .wind] s (s.takeReport k m o) := by
  rw [State.takeReport_eq]
  have lines := fun f => (State.modLine_within s k f).mono (qs := [.lines, .wind]) (by decide)
  exact Within.ite ((lines _).trans ((State.ownSample_within ..).mono (by decide))) (lines _)

theorem State.takeReport_line (s : State) (k j : Crane) (m : ChunkMarker) (o : List Byte) :
    (s.takeReport k m o).line j =
      let r := (rawReport o).clamped (s.craneRec k).jib
      if j = k then (s.line k).reported m r (r.limited (rawReport o)) else s.line j := by
  rw [State.takeReport_eq]
  dsimp only
  split
  · rw [State.ownSample_line, State.line_modLine]
  · rw [State.line_modLine]

theorem State.wind_ownSample (s : State) (k j : Crane) (v : Nat) : (s.ownSample k v).wind[j] =
    if j = k ∧ s.worked k = true then
      { s.wind[k] with ownSum := s.wind[k].ownSum + v, ownCount := s.wind[k].ownCount + 1 }
    else s.wind[j] := by
  unfold State.ownSample
  by_cases hw : s.worked k = true
  · rw [if_pos hw, State.wind_setWind]
    simp only [hw, and_true]
  · rw [if_neg hw, if_neg (fun h => hw h.2)]

theorem State.takeReport_wind (s : State) (k j : Crane) (m : ChunkMarker) (o : List Byte) :
    (s.takeReport k m o).wind[j] =
      let r := (rawReport o).clamped (s.craneRec k).jib
      if j = k ∧ r.windValid = true ∧ s.worked k = true then
        { s.wind[k] with ownSum := s.wind[k].ownSum + r.wind, ownCount := s.wind[k].ownCount + 1 }
      else s.wind[j] := by
  rw [State.takeReport_eq]
  dsimp only
  generalize Report.clamped _ _ = r
  by_cases hv : r.windValid = true
  · rw [if_pos hv, State.wind_ownSample]
    simp only [hv, true_and]
    rfl
  · rw [if_neg hv, if_neg (fun h => hv h.2.1)]
    rfl

/-- The REPORT that a POLL asked for, with an angle in range, is taken. -/
theorem exec_report_valid {s : State} {k : Crane} {x : Exchange} {m : ChunkMarker} {due : Moment} {p : List Byte}
    {last : Bool} (hx : (s.line k).exchange = some x) (hk : x.kind = .poll m) (hp : x.progress = .waiting due)
    (rate : (s.line k).rate ≠ none) (wait : ∀ d, (s.line k).wait ≠ .pulse d) (hr : (s.line k).rx = .hunt last)
    (hl : p.length = 13) (angle : oct2 p 0 < 3600) :
    exec (.report k ((lineFrame 0x94 (s.line k).tag p).map (fun o => wave (lineBits o))).flatten) s = .next
      ((s.gathers k x (lineFrame 0x94 (s.line k).tag p).dropLast).takeReport k m (lineFrame 0x94 (s.line k).tag p)) := by
  have asked : s.awaits k (fun e => match e with
      | .poll _ => true
      | .wakeCheck _ | .readyQ | .tagSet _ => false) = true := by
    unfold State.awaits State.inFlight
    rw [hx, Option.map_some, hk]
  have good := replyFaults_lineFrame (x := .poll m) (lineTag := (s.line k).tag) p hl (by omega)
  have inRange : contentFails (.poll m) (lineFrame 0x94 (s.line k).tag p) = false := by
    rw [contentFails, oct2_lineFrame (i := 0) _ _ (by omega)]
    simpa using angle
  refine congrArg _ ((if_pos asked).trans ?_)
  rw [State.sampleLines_lineFrame hx hp rate wait hr _ _ (by omega), hk, State.judge,
    show ((s.gathers k x (lineFrame 0x94 (s.line k).tag p).dropLast).line k).tag = (s.line k).tag by
      simp [State.gathers]]
  simp only [ExchangeKind.expects] at good
  rw [good, inRange]
  rfl

theorem acknowledge_eq (m : ChunkMarker) (texts : List CabText) : acknowledge m texts = match m, texts with
    | .only, _ :: rest | .last, _ :: rest => rest
    | .first, text :: rest => { text with progress := .second } :: rest
    | _, texts => texts := by
  cases m <;> cases texts <;> rfl

/-- Settles O46: the frame is gathered and judged good, and then the report is taken. -/
theorem aValidReportIsTaken : Obligations.AValidReportIsTaken := by
  intro s k x m due p last hx hk hp rate wait hr hl angle r clamped
  have raw := rawReport_lineFrame 0x94 (s.line k).tag hl
  refine ⟨_, exec_report_valid hx hk hp rate wait hr hl angle, ?_, fun j hj => ⟨?_, ?_⟩, ?_, ?_⟩
  · exact ((State.modLine_within ..).mono (by decide)).trans (State.takeReport_lines_within ..)
  · rw [State.takeReport_line]
    exact (if_neg hj).trans ((State.line_modLine ..).trans (if_neg hj))
  · rw [State.takeReport_wind]
    exact if_neg fun h => hj h.1
  · rw [State.takeReport_line, raw]
    refine (if_pos rfl).trans ?_
    rw [State.gathers, State.line_modLine_self, Line.reported, acknowledge_eq]
    rfl
  · rw [State.takeReport_wind, raw]
    simp only [true_and]
    rfl

end Sys2Proof.Machine
end

section
/-! SUPPORT. The actions of the Zone Arbiter, one rule for each part of an action's end: what a grant pass changes (R49), and
which events and notices an action brings (R51, R52, R65). -/

namespace Sys2Proof.Machine

/-! ## The grant pass (R49) -/

theorem ZoneRt.grantNext_cases (r : ZoneRt) : r.grantNext = r ∨ ∃ j ∈ r.waiting, r.grantNext = r.grant j := by
  unfold ZoneRt.grantNext
  split
  · exact .inl rfl
  split
  · exact .inl rfl
  split
  · split
    · rename_i hw
      exact .inr ⟨_, by simpa using hw, rfl⟩
    · exact .inl rfl
  · split
    · rename_i hf
      exact .inr ⟨_, List.mem_of_find?_eq_some hf, rfl⟩
    · split
      · exact .inl rfl
      · rename_i k rest hw
        exact .inr ⟨k, by simp [hw], rfl⟩

/-- Every outcome of a grant pass: it changes nothing, or finds no holder and then lets the claimants sweep, or makes a
waiting crane the holder, or does the one and then the other. -/
theorem ZoneRt.grantPass_cases (r : ZoneRt) : r.grantPass = r ∨ r.holder = none ∧
    (r.grantPass = r.admitClaims ∨ ∃ j ∈ r.waiting, r.grantPass = r.grant j ∨ r.grantPass = r.admitClaims.grant j) := by
  unfold ZoneRt.grantPass
  split
  · exact .inl rfl
  · rename_i held
    have free : r.holder = none := by simpa using held
    split
    · rcases r.admitClaims.grantNext_cases with e | ⟨j, hj, e⟩
      · exact .inr ⟨free, .inl e⟩
      · exact .inr ⟨free, .inr ⟨j, List.mem_of_mem_filter hj, .inr e⟩⟩
    · rcases r.grantNext_cases with e | ⟨j, hj, e⟩
      · exact .inl e
      · exact .inr ⟨free, .inr ⟨j, hj, .inl e⟩⟩

/-- A grant pass leaves the guard set, the inside set, the mover and the reservation; it takes from the waiting list, and
whom it makes the holder it takes from there. -/
structure ZoneRt.Passed (r q : ZoneRt) : Prop where
  guard : q.guard = r.guard
  inside : q.inside = r.inside
  mover : q.mover = r.mover
  reservation : q.reservation = r.reservation
  waiting : ∀ j ∈ q.waiting, j ∈ r.waiting
  holder : ∀ j, r.holder = some j → q = r
  granted : ∀ j, q.holder = some j → r.holder = some j ∨ j ∈ r.waiting

theorem ZoneRt.Passed.refl (r : ZoneRt) : r.Passed r :=
  ⟨rfl, rfl, rfl, rfl, fun _ h => h, fun _ _ => rfl, fun _ h => .inl h⟩

theorem ZoneRt.grantPass_passed (r : ZoneRt) : r.Passed r.grantPass := by
  rcases r.grantPass_cases with e | ⟨free, e | ⟨k, hk, e | e⟩⟩ <;> rw [e]
  · exact .refl r
  · exact ⟨rfl, rfl, rfl, rfl, fun _ h => List.mem_of_mem_filter h, by simp [free], by simp [ZoneRt.admitClaims, free]⟩
  · exact ⟨rfl, rfl, rfl, rfl, fun _ h => List.mem_of_mem_filter h, by simp [free],
      fun j h => .inr (by simpa [ZoneRt.grant] using (Option.some.inj h) ▸ hk)⟩
  · exact ⟨rfl, rfl, rfl, rfl, fun _ h => List.mem_of_mem_filter (List.mem_of_mem_filter h), by simp [free],
      fun j h => .inr ((Option.some.inj h) ▸ hk)⟩

/-! ## One action, as `Course.act` has it -/

section
variable (s : State) (z : Zone) (k : Crane) (q : Course) (r : ZoneRt) (pass tell : Bool)

/-- An action leaves the record its own changes made, or that record after a grant pass. -/
theorem Course.act_passed : r.Passed (q.act s z k r pass tell).record := by
  unfold Course.act
  dsimp only
  split
  · exact r.grantPass_passed
  · exact .refl r

/-- The events that an action adds are conflict events of its zone. -/
theorem Course.act_events : ∃ new, (q.act s z k r pass tell).events = q.events ++ new ∧
    ∀ e ∈ new, e.isConflict z = true := by
  unfold Course.act
  dsimp only
  refine ⟨_, rfl, ?_⟩
  split <;> simp [Event.isConflict, State.record]

/-- The notices that an action adds are clearance notices of its zone. -/
theorem Course.act_notices : ∃ posted, (q.act s z k r pass tell).notices = q.notices ++ posted ∧
    ∀ n ∈ posted, ∃ id clear, n = .clearance z id clear := by
  unfold Course.act
  dsimp only
  refine ⟨_, rfl, ?_⟩
  generalize (if (pass || !q.record.trespassers.isEmpty && r.trespassers.isEmpty) = true then r.grantPass else r) =
    after
  intro n hn
  rcases hv : after.reservation with _ | v <;> rw [hv] at hn
  · exact absurd hn List.not_mem_nil
  · dsimp only at hn
    split at hn
    · exact ⟨_, _, List.mem_singleton.mp hn⟩
    · exact absurd hn List.not_mem_nil

/-- Of the state an action reads the site clock alone. -/
theorem Course.act_congr {s t : State} (h : t.clock = s.clock) : q.act t z k r pass tell = q.act s z k r pass tell := by
  simp only [Course.act, State.record, h]

end

end Sys2Proof.Machine
end

section
/-! SUPPORT. A link change at the Reach Evaluator, the Zone Arbiter and the Wind Evaluator (R22, R55, R59, R89, R139), and
the guard sets that the reviews after it keep. -/

namespace Sys2Proof.Machine

/-! ## Steps that keep every guard set -/

/-- Going from `s` to `t` every zone's guard set is kept, and no GUARD_BEGIN is appended. -/
structure State.GuardsKept (s t : State) : Prop where
  guard : ∀ z, (t.zone z).guard = (s.zone z).guard
  logged : ∃ new, s.logged t new ∧ ∀ e ∈ new, e.kind ≠ .guardBegin

theorem State.GuardsKept.of_same {s t : State} (ha : t.arb = s.arb) (he : t.events = s.events)
    (ho : t.overflow = s.overflow) : s.GuardsKept t :=
  ⟨fun z => by rw [State.zone, State.zone, ha], [], State.logged_of_same he ho, by simp⟩

theorem State.GuardsKept.refl (s : State) : s.GuardsKept s := .of_same rfl rfl rfl

theorem State.GuardsKept.trans {s t u : State} (h : s.GuardsKept t) (h' : t.GuardsKept u) : s.GuardsKept u := by
  obtain ⟨l, hl, kl⟩ := h.logged
  obtain ⟨m, hm, km⟩ := h'.logged
  refine ⟨fun z => (h'.guard z).trans (h.guard z), l ++ m, State.logged_trans hl hm, fun e he => ?_⟩
  exact (List.mem_append.mp he).elim (kl e) (km e)

theorem State.GuardsKept.foldl {α : Type} {f : State → α → State} (h : ∀ (s : State) a, s.GuardsKept (f s a)) (l : List α) :
    ∀ s : State, s.GuardsKept (l.foldl f s) := by
  induction l with
  | nil => exact fun s => .refl s
  | cons a l ih => exact fun s => (h s a).trans (ih _)

theorem State.GuardsKept.ite {s t u : State} {c : Prop} [Decidable c] (h : s.GuardsKept t) (h' : s.GuardsKept u) :
    s.GuardsKept (if c then t else u) := by
  split
  · exact h
  · exact h'

variable (s : State)

theorem State.emit_guardsKept {kind : EventKind} (h : kind ≠ .guardBegin) (c z b : Nat) (x y : Int) :
    s.GuardsKept (s.emit kind c z b x y) :=
  ⟨fun y => by rw [State.zone, State.emit_arb]; rfl, [s.record kind c z b x y], State.logged_emit s kind c z b x y,
    by simpa [State.record] using h⟩

theorem State.setZone_guardsKept {z : Zone} {r : ZoneRt} (h : r.guard = (s.zone z).guard) :
    s.GuardsKept (s.setZone z r) := by
  refine ⟨fun y => ?_, [], State.logged_of_same rfl rfl, by simp⟩
  rw [State.zone_setZone]
  split
  · rw [h, ‹y = z›]
  · rfl

/-- The end of an action whose own changes leave the guard set. -/
theorem State.settle_guardsKept {z : Zone} {r : ZoneRt} (h : r.guard = (s.zone z).guard) (k : Crane) (pass tell : Bool) :
    s.GuardsKept (s.settle z k (s.zone z) r pass tell) := by
  obtain ⟨record, new, -, logged, events, -⟩ := State.settle_course s z k (s.courseOf z) r pass tell rfl
  obtain ⟨new', events', conflicts⟩ := Course.act_events s z k (s.courseOf z) r pass tell
  have same : new = new' := List.append_cancel_left (events.symm.trans events')
  refine ⟨fun y => ?_, new, logged, fun e he hk => ?_⟩
  · by_cases hy : y = z
    · rw [hy, record, (Course.act_passed ..).guard, h]
    · rw [State.zone_settle, if_neg hy]
  · have := conflicts e (same ▸ he)
    simp [Event.isConflict, hk] at this

/-! ## The reviews keep the guard sets -/

theorem State.placeReservation_guardsKept (id : Nat) (k : Crane) (z : Zone) :
    s.GuardsKept (State.placeReservation id k s z) := State.settle_guardsKept _ (by rfl) ..

theorem State.phaseActive_guardsKept (id : Nat) (z : Zone) : s.GuardsKept (State.phaseActive id s z) := by
  unfold State.phaseActive
  dsimp only
  split
  · exact .refl s
  · exact .ite (State.settle_guardsKept _ (by rfl) ..) (.refl s)

theorem State.phaseSuspended_guardsKept (id : Nat) (z : Zone) : s.GuardsKept (State.phaseSuspended id s z) := by
  unfold State.phaseSuspended
  dsimp only
  split
  · exact .refl s
  · refine .ite (.ite ?_ (State.setZone_guardsKept _ (by rfl))) (.refl s)
    split
    · exact State.settle_guardsKept _ (by rfl) ..
    · exact .ite (State.settle_guardsKept _ (by rfl) ..) (State.settle_guardsKept _ (by rfl) ..)

theorem State.removeReservation_guardsKept (id : Nat) (z : Zone) :
    s.GuardsKept (State.removeReservation id s z) := by
  unfold State.removeReservation
  dsimp only
  split
  · exact .refl s
  · exact .ite (State.settle_guardsKept _ (by rfl) ..) (.refl s)

theorem State.move_guardsKept (b : Booking) (state : BookingState) (cause : BookingCause) :
    s.GuardsKept (s.move b state cause) := by
  have changed : s.GuardsKept (s.changeState b state cause) := by
    unfold State.changeState
    exact .ite (.of_same rfl rfl rfl) (.of_same rfl rfl rfl)
  exact changed.trans (State.emit_guardsKept _ (by decide) ..)

theorem State.leaveReserving_guardsKept (b : Booking) (state : BookingState) (cause : BookingCause) :
    s.GuardsKept (s.leaveReserving b state cause) :=
  (State.move_guardsKept ..).trans (.foldl (fun s z => State.removeReservation_guardsKept s b.id z) _ _)

theorem State.activate_guardsKept (b : Booking) (cause : BookingCause) : s.GuardsKept (s.activate b cause) :=
  (State.move_guardsKept ..).trans (.foldl (fun s z => State.phaseActive_guardsKept s b.id z) _ _)

theorem State.reviewCalling_guardsKept (wrap : Bool) (b : Booking) : s.GuardsKept (s.reviewCalling wrap b) := by
  unfold State.reviewCalling
  exact .ite (State.leaveReserving_guardsKept ..) (.ite (State.activate_guardsKept ..) (.refl s))

theorem State.reviewBooked_guardsKept (wrap : Bool) (b : Booking) : s.GuardsKept (s.reviewBooked wrap b) := by
  have called : s.GuardsKept (s.call wrap b) :=
    ((State.move_guardsKept ..).trans
      (.foldl (fun s z => State.placeReservation_guardsKept s b.id b.crane z) _ _)).trans
      (State.reviewCalling_guardsKept ..)
  unfold State.reviewBooked
  exact .ite (.refl s) (.ite (State.move_guardsKept ..) (.ite called (.refl s)))

theorem State.reviewActive_guardsKept (wrap : Bool) (b : Booking) : s.GuardsKept (s.reviewActive wrap b) := by
  unfold State.reviewActive
  refine .ite (State.leaveReserving_guardsKept ..) ?_
  split
  · exact .refl s
  · exact (State.move_guardsKept ..).trans (.foldl (fun s z => State.phaseSuspended_guardsKept s b.id z) _ _)

theorem State.reviewSuspended_guardsKept (wrap : Bool) (b : Booking) : s.GuardsKept (s.reviewSuspended wrap b) := by
  unfold State.reviewSuspended
  exact .ite (State.leaveReserving_guardsKept ..) (.ite (State.activate_guardsKept ..) (.refl s))

theorem State.review_guardsKept (wrap : Bool) (id : Nat) : s.GuardsKept (State.review wrap s id) := by
  unfold State.review
  refine .ite (.refl s) ?_
  split
  · exact .refl s
  · split
    · exact State.reviewBooked_guardsKept ..
    · exact State.reviewCalling_guardsKept ..
    · exact State.reviewActive_guardsKept ..
    · exact State.reviewSuspended_guardsKept ..
    · exact .ite (.refl s) (State.move_guardsKept ..)
    all_goals exact .refl s

theorem State.reviewAll_guardsKept (wrap : Bool) (order : List Nat) (p : Booking → Bool) :
    s.GuardsKept (s.reviewAll wrap order p) := .foldl (fun s id => State.review_guardsKept s wrap id) _ s

/-! ## Guarding a crane's zones (R55) -/

theorem State.sharedZonesOf_eq (k : Crane) :
    s.sharedZonesOf k = allZones.filter (fun z => s.isShared z && (s.faceIn k z).isSome) := List.filter_filter

/-- The shared zones of *k* whose guard set it joins. -/
def State.guardsAdded (k : Crane) : List Zone :=
  (s.sharedZonesOf k).filter (fun z => decide (z ∉ s.declared[k] ∧ k ∉ (s.zone z).guard))

/-- The shared zones of *k* that are skipped as declared clear. -/
def State.guardsSkipped (k : Crane) : List Zone := (s.sharedZonesOf k).filter (fun z => decide (z ∈ s.declared[k]))

/-- The record of a zone once *k* has joined its guard set. -/
def ZoneRt.guarded (r : ZoneRt) (k : Crane) : ZoneRt := { r with guard := addTo k r.guard }

theorem addTo_addTo {n : Nat} (a : Fin n) (l : List (Fin n)) : addTo a (addTo a l) = addTo a l :=
  if_pos ((mem_addTo a a l).mpr (.inl rfl))

theorem State.zone_guardZones (k : Crane) (z : Zone) (l : List Zone) :
    ∀ s : State, (l.foldl (State.guardZone k) s).zone z = if z ∈ l then (s.zone z).guarded k else s.zone z := by
  induction l with
  | nil => exact fun s => (if_neg List.not_mem_nil).symm
  | cons y l ih =>
    intro s
    rw [List.foldl_cons, ih, State.guardZone, State.zone_setZone]
    by_cases hy : z = y <;> by_cases hl : z ∈ l <;> simp [hy, hl, ZoneRt.guarded, addTo_addTo]

theorem State.guardBegin_eq (k : Crane) : s.guardBegin k =
    if s.guardsAdded k = [] then s
    else ((s.guardsAdded k).foldl (State.guardZone k) s).emitCrane .guardBegin k (s.guardsAdded k).length
      (s.guardsSkipped k).length := by
  simp [State.guardBegin, State.guardsAdded, State.guardsSkipped, List.isEmpty_iff]

theorem State.zone_guardBegin (k : Crane) (z : Zone) :
    (s.guardBegin k).zone z = if z ∈ s.guardsAdded k then (s.zone z).guarded k else s.zone z := by
  rw [State.guardBegin_eq]
  split
  · rename_i h
    rw [h, if_neg List.not_mem_nil]
  · rw [State.zone, State.emitCrane_arb]
    exact State.zone_guardZones ..

theorem State.guardBegin_logged (k : Crane) : s.logged (s.guardBegin k) (if s.guardsAdded k = [] then []
    else [s.record .guardBegin (number k) 0 0 (s.guardsAdded k).length (s.guardsSkipped k).length]) := by
  rw [State.guardBegin_eq]
  split
  · exact State.logged_refl s
  · have zones := Within.foldl (ps := [.arb]) (fun s z => State.setZone_within s z _) (s.guardsAdded k) s
      (f := State.guardZone k)
    have same := State.logged_of_same (zones.same .events (by decide)) (zones.same .overflow (by decide))
    have appended := State.logged_trans same (State.logged_emit _ .guardBegin (number k) 0 0
      (s.guardsAdded k).length (s.guardsSkipped k).length)
    rwa [List.nil_append, State.record, zones.same .clock (by decide)] at appended

/-! ## A link change at the evaluator and the arbiter (R22, R55, R59) -/

/-- Out of ONLINE the face states go; otherwise they stay. -/
def State.unfaced (k : Crane) (old new : LinkState) : State :=
  if old = .online ∧ new ≠ .online then s.setFaces k [] else s

theorem State.linkZones_of_online (k : Crane) (old : LinkState) : s.linkZones k old .online = s.setDeclared k [] := by
  simp [State.linkZones]

theorem State.linkZones_of_down (k : Crane) (old : LinkState) {new : LinkState} (h : new ≠ .online) :
    s.linkZones k old new = (s.unfaced k old new).guardUnlessSetup k := if_neg h

section
variable (k : Crane) (old new : LinkState)

theorem State.faces_unfaced (j : Crane) : (s.unfaced k old new).faces[j] =
    if j = k ∧ old = .online ∧ new ≠ .online then [] else s.faces[j] := by
  unfold State.unfaced
  by_cases h : old = .online ∧ new ≠ .online
  · rw [if_pos h, State.faces_setFaces]
    simp [h]
  · rw [if_neg h, if_neg fun hj => h hj.2]

theorem State.faces_linkZones (j : Crane) : (s.linkZones k old new).faces[j] =
    if j = k ∧ old = .online ∧ new ≠ .online then [] else s.faces[j] := by
  by_cases h : new = .online
  · rw [h, State.linkZones_of_online]
    simp
  · rw [State.linkZones_of_down _ _ _ h, (State.guardUnlessSetup_within ..).same .faces (by decide)]
    exact State.faces_unfaced ..

theorem State.declared_linkZones (j : Crane) : (s.linkZones k old new).declared[j] =
    if j = k ∧ new = .online then [] else s.declared[j] := by
  by_cases h : new = .online
  · rw [h, State.linkZones_of_online, State.declared_setDeclared]
    simp
  · rw [State.linkZones_of_down _ _ _ h, (State.guardUnlessSetup_within ..).same .declared (by decide)]
    unfold State.unfaced
    split <;> simp [h]

/-- What a link change appends at the arbiter: GUARD_BEGIN, where it guards a zone. -/
def State.guardsBegun : List Event :=
  if (new ≠ .online ∧ s.mode ≠ .setup ∧ s.worked k = true) ∧ s.guardsAdded k ≠ [] then
    [s.record .guardBegin (number k) 0 0 (s.guardsAdded k).length (s.guardsSkipped k).length]
  else []

theorem State.linkZones_guards :
    (∀ z, (s.linkZones k old new).zone z =
      if (new ≠ .online ∧ s.mode ≠ .setup ∧ s.worked k = true) ∧ z ∈ s.guardsAdded k then (s.zone z).guarded k
      else s.zone z) ∧
    s.logged (s.linkZones k old new) (s.guardsBegun k new) := by
  unfold State.guardsBegun
  by_cases h : new = .online
  · simp only [h, State.linkZones_of_online, ne_eq, not_true_eq_false, false_and, if_false]
    exact ⟨fun z => rfl, State.logged_of_same rfl rfl⟩
  · have same : (s.unfaced k old new).mode = s.mode ∧ (s.unfaced k old new).worked k = s.worked k ∧
        (s.unfaced k old new).guardsAdded k = s.guardsAdded k ∧
        (s.unfaced k old new).guardsSkipped k = s.guardsSkipped k ∧ (s.unfaced k old new).clock = s.clock ∧
        (∀ z, (s.unfaced k old new).zone z = s.zone z) ∧ s.logged (s.unfaced k old new) [] := by
      unfold State.unfaced
      split <;> exact ⟨rfl, rfl, rfl, rfl, rfl, fun _ => rfl, State.logged_of_same rfl rfl⟩
    obtain ⟨mode, worked, added, skipped, clock, zones, quiet⟩ := same
    rw [State.linkZones_of_down _ _ _ h, State.guardUnlessSetup, mode, worked]
    generalize s.unfaced k old new = u at *
    by_cases g : s.mode ≠ .setup ∧ s.worked k = true
    · rw [if_pos g]
      refine ⟨fun z => ?_, ?_⟩
      · rw [State.zone_guardBegin, added, zones]
        simp [h, g]
      · have begun := State.logged_trans quiet (u.guardBegin_logged k)
        rw [added, skipped, State.record, clock] at begun
        by_cases ha : s.guardsAdded k = [] <;> simpa [h, g, ha, State.record] using begun
    · rw [if_neg g, if_neg fun hg => g hg.1.2]
      exact ⟨fun z => by rw [zones, if_neg fun hg => g hg.1.2], quiet⟩

/-! ## The link change as a whole (R139) -/

/-- What the own source comes to: stale when the link leaves ONLINE (R89). -/
def State.sourced : State := if old = .online ∧ new ≠ .online then s.ownStale k else s

theorem State.sourced_within : Within [.wind] s (s.sourced k old new) := by
  unfold State.sourced
  exact Within.ite (State.ownStale_within ..) (Within.refl ..)

theorem State.wind_sourced (j : Crane) : (s.sourced k old new).wind[j] =
    if j = k ∧ (old = .online ∧ new ≠ .online) ∧ s.worked k = true then
      { s.wind[k] with quiet := 5, ownSum := 0, ownCount := 0 }
    else s.wind[j] := by
  unfold State.sourced State.ownStale
  by_cases h : old = .online ∧ new ≠ .online
  · by_cases hw : s.worked k = true
    · rw [if_pos h, if_pos hw, State.wind_setWind]
      simp [h, hw]
    · rw [if_pos h, if_neg hw, if_neg fun hj => hw hj.2.2]
  · rw [if_neg h, if_neg fun hj => h hj.2.1]

/-- A link change that neither leaves nor enters ONLINE brings no review (R139). -/
theorem State.linkChanged_of_down (order : List Nat) (h : old ≠ .online) (h' : new ≠ .online) :
    s.linkChanged k old new order = s.linkZones k old new := by
  unfold State.linkChanged
  simp [h, h']

/-- What follows the arbiter's part of a link change keeps the guard sets. -/
theorem State.linkChanged_guardsKept (order : List Nat) :
    (s.linkZones k old new).GuardsKept (s.linkChanged k old new order) := by
  have sourced : (s.linkZones k old new).GuardsKept ((s.linkZones k old new).sourced k old new) :=
    .of_same ((State.sourced_within ..).same .arb (by decide)) ((State.sourced_within ..).same .events (by decide))
      ((State.sourced_within ..).same .overflow (by decide))
  exact sourced.trans (.ite (State.reviewAll_guardsKept ..) (.refl _))

/-- After the arbiter and the wind evaluator the reviews follow, if any. -/
theorem State.linkChanged_reviews (order : List Nat) :
    Within reviewParts ((s.linkZones k old new).sourced k old new) (s.linkChanged k old new order) :=
  Within.ite (State.reviewAll_within ..) (Within.refl ..)

end

theorem exec_linkNotice {s : State} {k : Crane} {old new : LinkState} {rest : List Notice} (order : List Nat)
    (h : takeFirst (Notice.isLink k) s.notices = some (.link k old new, rest)) :
    exec (.linkNotice k order) s = .next (({ s with notices := rest } : State).linkChanged k old new order) :=
  congrArg _ (State.deliver_of_taken h)

/-- What a link change leaves at the evaluator, the wind evaluator and the declared-clear list. -/
theorem State.linkChanged_blocks (s : State) (k j : Crane) (old new : LinkState) (order : List Nat) :
    (s.linkChanged k old new order).faces[j] =
      (if j = k ∧ old = .online ∧ new ≠ .online then [] else s.faces[j]) ∧
    (s.linkChanged k old new order).wind[j] =
      (if j = k ∧ (old = .online ∧ new ≠ .online) ∧ s.worked k = true then
        { s.wind[k] with quiet := 5, ownSum := 0, ownCount := 0 } else s.wind[j]) ∧
    (s.linkChanged k old new order).declared[j] = (if j = k ∧ new = .online then [] else s.declared[j]) := by
  have reviews := s.linkChanged_reviews k old new order
  have sourced := (s.linkZones k old new).sourced_within k old new
  have zones := s.linkZones_within k old new
  have worked : (s.linkZones k old new).worked k = s.worked k := by
    rw [State.worked, State.crane, zones.same .cranes (by decide)]
    rfl
  rw [reviews.same .faces (by decide), sourced.same .faces (by decide), reviews.same .wind (by decide),
    reviews.same .declared (by decide), sourced.same .declared (by decide), State.wind_sourced, worked,
    zones.same .wind (by decide)]
  exact ⟨State.faces_linkZones .., rfl, State.declared_linkZones ..⟩

/-- What a link change does to the guard sets, with GUARD_BEGIN, and to the zones where no review follows. -/
theorem State.linkChanged_guards (s : State) (k : Crane) (old new : LinkState) (order : List Nat) :
    (∀ z j, j ∈ ((s.linkChanged k old new order).zone z).guard ↔ j ∈ (s.zone z).guard ∨
      (j = k ∧ (new ≠ .online ∧ s.mode ≠ .setup ∧ s.worked k = true) ∧ z ∈ s.guardsAdded k)) ∧
    (∃ logged, s.logged (s.linkChanged k old new order) logged ∧
      logged.filter (fun e => e.kind == .guardBegin) = s.guardsBegun k new) ∧
    (old ≠ .online → new ≠ .online → s.logged (s.linkChanged k old new order) (s.guardsBegun k new) ∧
      ∀ z, (s.linkChanged k old new order).zone z =
        if (new ≠ .online ∧ s.mode ≠ .setup ∧ s.worked k = true) ∧ z ∈ s.guardsAdded k then (s.zone z).guarded k
        else s.zone z) := by
  obtain ⟨zones, begins⟩ := s.linkZones_guards k old new
  have kept := s.linkChanged_guardsKept k old new order
  obtain ⟨other, logged, quiet⟩ := kept.logged
  refine ⟨fun z j => ?_, ⟨_, State.logged_trans begins logged, ?_⟩, fun h h' => ?_⟩
  · rw [kept.guard, zones]
    split
    · rename_i joins
      rw [and_iff_left joins, or_comm]
      exact mem_addTo ..
    · rename_i joins
      exact (or_iff_left fun h => joins h.2).symm
  · have none_else : other.filter (fun e => e.kind == .guardBegin) = [] := by simpa using quiet
    have all_begun : (s.guardsBegun k new).filter (fun e => e.kind == .guardBegin) = s.guardsBegun k new := by
      unfold State.guardsBegun
      split <;> simp [State.record]
    rw [List.filter_append, none_else, all_begun, List.append_nil]
  · rw [State.linkChanged_of_down _ _ _ _ _ h h']
    exact ⟨begins, zones⟩

/-- Settles O50: the guards are those of the arbiter's part, since the reviews after it keep them. -/
theorem aLinkNoticeReachesItsBlocks : Obligations.ALinkNoticeReachesItsBlocks := by
  intro s k old new rest order taken
  have ran := exec_linkNotice order taken
  obtain ⟨_, next, within⟩ := exec_completes_within (.linkNotice k order) s
  obtain rfl := Host.Outcome.next.inj (ran.symm.trans next)
  have blocks := fun j => ({ s with notices := rest } : State).linkChanged_blocks k j old new order
  have guards := ({ s with notices := rest } : State).linkChanged_guards k old new order
  simp only [State.guardsBegun, State.guardsAdded, State.guardsSkipped, State.sharedZonesOf_eq] at guards
  refine ⟨_, ran, within, fun h h' => ?_, fun h => ?_, fun h h' hw => ?_, fun h => ?_, fun h => ?_, fun h => ?_,
    guards, fun h h' => ?_, fun j hj => ?_⟩
  · exact (blocks k).1.trans (if_pos ⟨rfl, h, h'⟩)
  · exact (blocks k).1.trans (if_neg fun hb => h.elim (· hb.2.1) (hb.2.2 ·))
  · exact (blocks k).2.1.trans (if_pos ⟨rfl, ⟨h, h'⟩, hw⟩)
  · exact (blocks k).2.1.trans (if_neg fun hb => h.elim (· hb.2.1.1) (hb.2.1.2 ·))
  · exact (blocks k).2.2.trans (if_pos ⟨rfl, h⟩)
  · exact (blocks k).2.2.trans (if_neg fun hb => h hb.2)
  · rw [State.linkChanged_of_down _ _ _ _ _ h h']
    have zones := ({ s with notices := rest } : State).linkZones_within k old new
    exact ⟨zones.same .bookings (by decide), zones.same .notices (by decide)⟩
  · exact ⟨(blocks j).1.trans (if_neg fun hb => hj hb.1), (blocks j).2.1.trans (if_neg fun hb => hj hb.1),
      (blocks j).2.2.trans (if_neg fun hb => hj hb.1)⟩

end Sys2Proof.Machine
end

section
/-! SUPPORT. The actions at one zone, each with the course it gives the zone's record (R45 to R48, R51, R57, R60 to R62). -/

namespace Sys2Proof.Machine

/-! ## A step at one zone -/

/-- The notice names the zone. -/
def Notice.names (z : Zone) (n : Notice) : Prop := (∃ id clear, n = .clearance z id clear) ∨ ∃ k, n = .insideLeft k z

/-- Going from `t` to `u` zone `z` alone has moved, and takes the course from `q` to `p`: its record, the conflict events
and the notices appended are those that `p` adds to `q`. Face states may have changed as well. -/
structure State.ZoneStep (t : State) (z : Zone) (q : Course) (u : State) (p : Course) : Prop where
  within : Within (.faces :: arbiterParts) t u
  record : u.zone z = p.record
  rest : ∀ y, y ≠ z → u.zone y = t.zone y
  brings : ∃ new posted, (t.logged u new ∧ p.events = q.events ++ new ∧ ∀ e ∈ new, e.isConflict z = true) ∧
    u.notices = t.notices ++ posted ∧ p.notices = q.notices ++ posted ∧ ∀ n ∈ posted, n.names z

section
variable {s t u v : State} {z : Zone} {k : Crane} {q p m : Course}

theorem State.ZoneStep.refl (h : t.zone z = q.record) : t.ZoneStep z q t q :=
  ⟨Within.refl .., h, fun _ _ => rfl, [], [], ⟨State.logged_refl t, by simp, by simp⟩, by simp, by simp, by simp⟩

theorem State.ZoneStep.trans (h : t.ZoneStep z q u p) (h' : u.ZoneStep z p v m) : t.ZoneStep z q v m := by
  obtain ⟨new, posted, ⟨logged, events, conflicts⟩, notices, told, names⟩ := h.brings
  obtain ⟨new', posted', ⟨logged', events', conflicts'⟩, notices', told', names'⟩ := h'.brings
  refine ⟨h.within.trans h'.within, h'.record, fun y hy => (h'.rest y hy).trans (h.rest y hy), new ++ new',
    posted ++ posted', ⟨State.logged_trans logged logged', ?_, fun e he => ?_⟩, ?_, ?_, fun n hn => ?_⟩
  · rw [events', events, List.append_assoc]
  · exact (List.mem_append.mp he).elim (conflicts e) (conflicts' e)
  · rw [notices', notices, List.append_assoc]
  · rw [told', told, List.append_assoc]
  · exact (List.mem_append.mp hn).elim (names n) (names' n)

theorem State.ZoneStep.ite {c d : Prop} [Decidable c] [Decidable d] {u' : State} {p' : Course} (hc : c ↔ d)
    (h : d → t.ZoneStep z q u p) (h' : ¬ d → t.ZoneStep z q u' p') :
    t.ZoneStep z q (if c then u else u') (if d then p else p') := by
  by_cases hd : d
  · rw [if_pos hd, if_pos (hc.mpr hd)]
    exact h hd
  · rw [if_neg hd, if_neg (mt hc.mp hd)]
    exact h' hd

/-- Writing the record. -/
theorem State.ZoneStep.set (r : ZoneRt) : t.ZoneStep z q (t.setZone z r) (q.set r) := by
  refine ⟨(State.setZone_within ..).mono (by decide), State.zone_setZone_self .., fun y hy => ?_, [], [],
    ⟨State.logged_of_same rfl rfl, by simp [Course.set], by simp⟩, by simp, by simp [Course.set], by simp⟩
  rw [State.zone_setZone, if_neg hy]

/-- The end of an action at a shared zone. -/
theorem State.ZoneStep.act (h : t.zone z = q.record) (hc : t.clock = s.clock) (r : ZoneRt) (pass tell : Bool) :
    t.ZoneStep z q (t.settle z k q.record r pass tell) (q.act s z k r pass tell) := by
  rw [← Course.act_congr z k q r pass tell hc, ← h]
  obtain ⟨record, new, posted, logged, events, notices, told⟩ := State.settle_course t z k q r pass tell h.symm
  obtain ⟨new', events', conflicts⟩ := Course.act_events t z k q r pass tell
  obtain ⟨posted', told', names⟩ := Course.act_notices t z k q r pass tell
  obtain rfl := List.append_cancel_left (events.symm.trans events')
  obtain rfl := List.append_cancel_left (told.symm.trans told')
  refine ⟨(State.settle_within ..).mono (by decide), record, fun y hy => ?_, new, posted, ⟨logged, events, conflicts⟩,
    notices, told, fun n hn => .inl (names n hn)⟩
  rw [State.zone_settle, if_neg hy]

/-- An action that leaves the holder, the sweep set and the trespassers as they were brings nothing with it. -/
theorem Course.act_quiet {r : ZoneRt} (hh : r.holder = q.record.holder) (hs : r.sweep = q.record.sweep)
    (hi : r.inside = q.record.inside) : q.act s z k r false false = q.set r := by
  have ht : r.trespassers = q.record.trespassers := by simp only [ZoneRt.trespassers, hh, hs, hi]
  unfold Course.act Course.set
  cases he : q.record.trespassers <;> cases hv : r.reservation <;> simp [ht, he, hh, hs, hv]

end

/-! ## The actions of the Reach Evaluator -/

theorem ZoneRt.dropMover_eq (r : ZoneRt) (k : Crane) :
    r.dropMover k = { r with mover := if r.mover = some k then none else r.mover } := by
  unfold ZoneRt.dropMover
  by_cases h : r.mover = some k <;> simp [h]

/-- `grantsNow` in the words of R45. -/
theorem ZoneRt.grantsNow_iff (r : ZoneRt) (k : Crane) : r.grantsNow k = true ↔ r.holder = none ∧ r.sweep = [] ∧
    r.guard = [] ∧ ((r.reservation = none ∧ r.claims = []) ∨ r.reservation.map (·.crane) = some k) := by
  unfold ZoneRt.grantsNow ZoneRt.reservedFor
  cases r.reservation <;> simp [List.isEmpty_iff, and_assoc]

section
variable {s t : State} (hs : Within (.msCount :: cycleParts) s t) {z : Zone} {q : Course} (h : t.zone z = q.record)
  (k : Crane)
include hs

theorem State.isShared_of_within (z : Zone) : t.isShared z = s.isShared z := by
  have zones : t.zones = s.zones := hs.same .zones (by decide)
  simp only [State.isShared, State.zoneDef, zones]

include h

theorem State.requestZone_step : t.ZoneStep z q (t.requestZone z k) (q.request s z k) := by
  have clock := hs.same .clock (by decide)
  unfold State.requestZone Course.request
  dsimp only
  rw [h]
  refine .ite (by simp [ZoneRt.involves, or_assoc]) (fun _ => .refl h) fun _ => ?_
  unfold ZoneRt.request
  by_cases hg : q.record.grantsNow k = true
  · rw [if_pos hg, if_pos ((ZoneRt.grantsNow_iff ..).mp hg)]
    exact .act h clock ..
  · rw [if_neg hg, if_neg (mt (ZoneRt.grantsNow_iff ..).mpr hg),
      ← Course.act_quiet (s := s) (z := z) (k := k) (by rfl) (by rfl) (by rfl)]
    exact .act h clock ..

omit hs in
theorem State.withdrawZone_step : t.ZoneStep z q (t.withdrawZone z k) (q.withdraw k) := by
  unfold State.withdrawZone Course.withdraw
  dsimp only
  rw [h, ZoneRt.dropMover_eq]
  exact .ite (by simp) (fun _ => .set _) fun _ => .refl h

theorem State.releaseZone_step : t.ZoneStep z q (t.releaseZone z k) (q.release s z k) := by
  unfold State.releaseZone Course.release
  dsimp only
  rw [h]
  exact .ite Iff.rfl (fun _ => .act h (hs.same .clock (by decide)) ..) fun _ => .refl h

theorem State.insideAdd_step : t.ZoneStep z q (t.insideAdd z k) (q.inside s z k true) := by
  unfold State.insideAdd Course.inside
  dsimp only
  rw [h, if_pos rfl, State.isShared_of_within hs]
  exact .ite (by simp) (fun _ => .refl h) fun _ =>
    .ite Iff.rfl (fun _ => .act h (hs.same .clock (by decide)) ..) fun _ => .set _

theorem State.insideRemove_step : t.ZoneStep z q (t.insideRemove z k) (q.inside s z k false) := by
  unfold State.insideRemove Course.inside
  dsimp only
  rw [h, if_neg Bool.false_ne_true, State.isShared_of_within hs, ZoneRt.dropMover_eq]
  by_cases hk : k ∈ q.record.inside
  · rw [if_pos (by simpa using hk), if_neg (not_not.mpr hk)]
    refine .ite Iff.rfl (fun _ => .act h (hs.same .clock (by decide)) ..) fun _ => ?_
    refine ⟨((State.setZone_within ..).mono (by decide)).trans ((State.post_within ..).mono (by decide)),
      State.zone_setZone_self .., fun y hy => ?_, [], [.insideLeft k z], ⟨State.logged_of_same rfl rfl, by simp, by simp⟩,
      rfl, rfl, fun n hn => .inr ⟨k, List.mem_singleton.mp hn⟩⟩
    exact (State.zone_setZone ..).trans (if_neg hy)
  · rw [if_neg (by simpa using hk), if_pos hk]
    exact .refl h

theorem State.postInside_step (f : FaceState) (hz : f.zone = z) :
    t.ZoneStep z q (t.postInside k f) (q.inside s z k f.inside) := by
  subst hz
  unfold State.postInside
  cases f.inside
  · exact State.insideRemove_step hs h k
  · exact State.insideAdd_step hs h k

/-! ## Guard ends and sweeps -/

theorem State.unguardZone_step : t.ZoneStep z q (State.unguardZone k t z) (q.guardEnd s z k) := by
  unfold State.unguardZone Course.guardEnd
  dsimp only
  rw [h]
  exact .ite (by simp) (fun _ => .act h (hs.same .clock (by decide)) ..) fun _ => .refl h

/-- A claim of a crane that neither sweeps nor claims the zone. -/
theorem State.claimZone_step (hk : ¬ (k ∈ q.record.sweep ∨ k ∈ q.record.claims)) :
    t.ZoneStep z q (State.claimZone k t z) (q.claim s z k) := by
  have clock := hs.same .clock (by decide)
  have active : q.record.activeReservation = true ↔ q.record.reservation.map (·.phase) = some .active := by
    unfold ZoneRt.activeReservation
    cases q.record.reservation <;> simp
  have claims : q.set { q.record with claims := addTo k q.record.claims } =
      q.act s z k { q.record with claims := addTo k q.record.claims } false false :=
    (Course.act_quiet (by rfl) (by rfl) (by rfl)).symm
  have converts : q.record.convert k = q.record.converted k := by
    simp only [ZoneRt.convert, ZoneRt.converted, ZoneRt.admitClaims, List.filter_filter]
    congr 2
    funext j
    by_cases hj : j = k <;> simp [hj]
  unfold State.claimZone Course.claim
  dsimp only
  rw [h, if_neg hk, State.isShared_of_within hs]
  by_cases hz : s.isShared z = true
  · rw [if_pos hz, if_neg (by simp [hz]), claims]
    unfold ZoneRt.claim
    rw [if_neg (by simpa using hk)]
    by_cases ha : q.record.activeReservation = true
    · rw [if_pos ha, if_pos (active.mp ha)]
      exact .act h clock ..
    · rw [if_neg ha, if_neg (mt active.mpr ha)]
      cases hh : q.record.holder with
      | none =>
        rw [if_pos rfl]
        exact .act h clock ..
      | some j =>
        rw [if_neg (by simp)]
        dsimp only
        by_cases hj : j = k
        · rw [if_pos hj, if_pos (by rw [hj]), converts]
          exact .act h clock ..
        · rw [if_neg hj, if_neg (by simpa using hj), ← hh]
          exact .act h clock ..
  · rw [if_neg hz, if_pos (by simpa using hz)]
    exact .set _

theorem State.withdrawSweepZone_step : t.ZoneStep z q (State.withdrawSweepZone k t z) (q.unclaim s z k) := by
  have emptied : (!q.record.sweep.isEmpty && (q.record.withdrawSweep k).sweep.isEmpty) =
      decide (q.record.sweep ≠ [] ∧ q.record.sweep.filter (· != k) = []) := by
    rw [Bool.eq_iff_iff]
    simp [ZoneRt.withdrawSweep, List.isEmpty_iff]
  unfold State.withdrawSweepZone Course.unclaim
  dsimp only
  rw [h, State.isShared_of_within hs, emptied]
  exact .ite Iff.rfl (fun _ => .act h (hs.same .clock (by decide)) ..) fun _ => .set _

end

end Sys2Proof.Machine
end

section
/-! SUPPORT. What a cycle expiry has made of every zone so far: the course of each, with the events and notices in their
order, through the zone actions of an evaluation (R33 to R36, R57) and of a composition (R77 to R80). -/

namespace Sys2Proof.Machine

/-! ## The zones so far -/

/-- The kinds of event that a cycle expiry appends (R172). -/
def expiryKinds : List EventKind :=
  [.guardEnd, .conflictBegin, .conflictEnd, .weathervaneOn, .weathervaneOff, .weathervaneBlocked]

/-- Going from `s` to `t` every zone has run its course, the GUARD_END events are `ends`, and no event was appended but those
of a cycle expiry. -/
structure State.Came (s : State) (course : Zone → Course) (ends : List Event) (t : State) : Prop where
  within : Within (.msCount :: cycleParts) s t
  ran : ∃ new posted, (s.logged t new ∧ t.notices = s.notices ++ posted ∧ ∀ z, t.ran z (course z) new posted) ∧
    new.filter (fun e => e.kind == .guardEnd) = ends ∧ ∀ e ∈ new, e.kind ∈ expiryKinds

/-- The notices that `State.ran` asks of a zone's course: those that name it. -/
def Notice.about (z : Zone) : Notice → Bool
  | .clearance y _ _ | .insideLeft _ y => y == z
  | .link _ _ _ | .level _ _ | .service _ _ | .mode | .clock | .mast _ _ _ => true

theorem State.ran_iff {t : State} {z : Zone} {q : Course} {new : List Event} {posted : List Notice} :
    t.ran z q new posted ↔ t.zone z = q.record ∧ new.filter (Event.isConflict z) = q.events ∧
      posted.filter (Notice.about z) = q.notices := Iff.rfl

theorem Notice.about_iff {y z : Zone} {n : Notice} (h : n.names y) : n.about z = true ↔ z = y := by
  rcases h with ⟨_, _, rfl⟩ | ⟨_, rfl⟩ <;> exact beq_iff_eq.trans eq_comm

theorem Event.isConflict_iff {y z : Zone} {e : Event} (h : e.isConflict y = true) : e.isConflict z = true ↔ z = y := by
  simp only [Event.isConflict, Bool.and_eq_true, beq_iff_eq, number] at h ⊢
  rw [and_iff_right h.1, h.2, Fin.ext_iff]
  omega

theorem Event.isConflict_kind {z : Zone} {e : Event} (h : e.isConflict z = true) :
    e.kind = .conflictBegin ∨ e.kind = .conflictEnd := by
  simp only [Event.isConflict, Bool.and_eq_true, Bool.or_eq_true, beq_iff_eq] at h
  exact h.1

/-- All of a list or nothing of it passes a test that its members agree on. -/
theorem filter_of_agreed {α : Type} {l : List α} {p : α → Bool} {c : Prop} [Decidable c] (h : ∀ a ∈ l, p a = true ↔ c) :
    l.filter p = if c then l else [] := by
  split
  · rename_i hc
    exact List.filter_eq_self.mpr fun a ha => (h a ha).mpr hc
  · rename_i hc
    exact List.filter_eq_nil_iff.mpr fun a ha => mt (h a ha).mp hc

section
variable {s t u : State} {c : Zone → Course} {ends : List Event}

theorem State.Came.record (h : s.Came c ends t) (z : Zone) : t.zone z = (c z).record := by
  obtain ⟨_, _, ⟨-, -, ran⟩, -⟩ := h.ran
  exact (ran z).1

theorem State.Came.start (hw : Within (.msCount :: cycleParts) s t) (ha : t.arb = s.arb) (hn : t.notices = s.notices)
    (he : t.events = s.events) (ho : t.overflow = s.overflow) : s.Came s.courseOf [] t :=
  ⟨hw, [], [],
    ⟨State.logged_of_same he ho, by simp [hn], fun z => ⟨by simp only [State.courseOf, State.zone, ha], rfl, rfl⟩⟩,
    rfl, by simp⟩

/-- One zone goes on. -/
theorem State.Came.step (h : s.Came c ends t) {z : Zone} {p : Course} (hz : t.ZoneStep z (c z) u p) :
    s.Came (Function.update c z p) ends u := by
  obtain ⟨new, posted, ⟨logged, notices, ran⟩, guardEnds, kinds⟩ := h.ran
  obtain ⟨new', posted', ⟨logged', events', conflicts⟩, notices', told, names⟩ := hz.brings
  refine ⟨h.within.trans (hz.within.mono (by decide)), new ++ new', posted ++ posted',
    ⟨State.logged_trans logged logged', by rw [notices', notices, List.append_assoc], fun y => ?_⟩, ?_, fun e he => ?_⟩
  · obtain ⟨record, events, notes⟩ := State.ran_iff.mp (ran y)
    rw [State.ran_iff, List.filter_append, List.filter_append, events, notes,
      filter_of_agreed fun e he => Event.isConflict_iff (conflicts e he),
      filter_of_agreed fun n hn => Notice.about_iff (names n hn)]
    by_cases hy : y = z
    · subst hy
      rw [Function.update_self, if_pos rfl, if_pos rfl]
      exact ⟨hz.record, events'.symm, told.symm⟩
    · rw [Function.update_of_ne hy, if_neg hy, if_neg hy, hz.rest y hy, List.append_nil, List.append_nil]
      exact ⟨record, rfl, rfl⟩
  · have none_else : new'.filter (fun e => e.kind == .guardEnd) = [] := by
      refine List.filter_eq_nil_iff.mpr fun e he => ?_
      rcases Event.isConflict_kind (conflicts e he) with hk | hk <;> simp [hk]
    rw [List.filter_append, guardEnds, none_else, List.append_nil]
  · rcases List.mem_append.mp he with he | he
    · exact kinds e he
    · rcases Event.isConflict_kind (conflicts e he) with hk | hk <;> rw [hk] <;> decide

/-- A step that leaves the zones and the notices, and appends events of the kinds of a cycle expiry, but no conflict. -/
theorem State.Came.append (h : s.Came c ends t) (hw : Within (.msCount :: cycleParts) t u) (ha : u.arb = t.arb)
    (hn : u.notices = t.notices) {new' : List Event} (hl : t.logged u new')
    (hk : ∀ e ∈ new', e.kind ∈ expiryKinds ∧ ∀ z, e.isConflict z = false) :
    s.Came c (ends ++ new'.filter (fun e => e.kind == .guardEnd)) u := by
  obtain ⟨new, posted, ⟨logged, notices, ran⟩, guardEnds, kinds⟩ := h.ran
  refine ⟨h.within.trans hw, new ++ new', posted, ⟨State.logged_trans logged hl, hn.trans notices, fun z => ?_⟩,
    by rw [List.filter_append, guardEnds], fun e he => ?_⟩
  · obtain ⟨record, events, notes⟩ := State.ran_iff.mp (ran z)
    have none_else : new'.filter (Event.isConflict z) = [] :=
      List.filter_eq_nil_iff.mpr fun e he => by simp [(hk e he).2 z]
    exact State.ran_iff.mpr ⟨by rw [State.zone, ha]; exact record,
      by rw [List.filter_append, events, none_else, List.append_nil], notes⟩
  · exact (List.mem_append.mp he).elim (kinds e) fun he => (hk e he).1

/-- A step that leaves zones, notices and events. -/
theorem State.Came.keep (h : s.Came c ends t) {ps : List Part} (hw : Within ps t u)
    (hp : ∀ p ∈ ps, p ∈ [Part.msCount, .faces, .lines, .vane, .sent]) : s.Came c ends u := by
  have within := hw.mono hp
  have kept := h.append (new' := []) (within.mono (by decide)) (within.same .arb (by decide))
    (within.same .notices (by decide))
    (State.logged_of_same (within.same .events (by decide)) (within.same .overflow (by decide))) (by simp)
  simpa using kept

/-- Actions at one zone after another, each zone once. -/
theorem State.Came.foldl {α : Type} {op : State → α → State} {key : α → Zone} {act : α → Course → Course} (l : List α) :
    ∀ {c c' : Zone → Course} {t : State}, s.Came c ends t → (l.map key).Nodup →
      (∀ v, ∀ a ∈ l, Within (.faces :: arbiterParts) t v → v.zone (key a) = (c (key a)).record →
        v.ZoneStep (key a) (c (key a)) (op v a) (act a (c (key a)))) →
      (∀ a ∈ l, c' (key a) = act a (c (key a))) → (∀ z, z ∉ l.map key → c' z = c z) → s.Came c' ends (l.foldl op t) := by
  induction l with
  | nil =>
    intro c c' t h _ _ _ others
    rwa [show c' = c from funext fun z => others z List.not_mem_nil]
  | cons a l ih =>
    intro c c' t h nodup steps acts others
    obtain ⟨fresh, nodup⟩ := List.nodup_cons.mp nodup
    have apart : ∀ b ∈ l, key b ≠ key a := fun b hb e => fresh (e ▸ List.mem_map_of_mem hb)
    have kept : ∀ b ∈ l, Function.update c (key a) (act a (c (key a))) (key b) = c (key b) :=
      fun b hb => Function.update_of_ne (apart b hb) ..
    have moved := steps t a List.mem_cons_self (Within.refl ..) (h.record _)
    refine ih (h.step moved) nodup (fun v b hb hw hv => ?_) (fun b hb => ?_) fun z hz => ?_
    · rw [kept b hb] at hv ⊢
      exact steps v b (List.mem_cons_of_mem _ hb) (moved.within.trans hw) hv
    · rw [kept b hb]
      exact acts b (List.mem_cons_of_mem _ hb)
    · by_cases ha : z = key a
      · rw [ha, Function.update_self]
        exact acts a List.mem_cons_self
      · rw [Function.update_of_ne ha]
        exact others z (by simpa [ha] using hz)

end

theorem State.logged_emitCrane (s : State) (kind : EventKind) (k : Crane) (a b : Int) :
    s.logged (s.emitCrane kind k a b) [s.record kind (number k) 0 0 a b] := State.logged_emit s kind (number k) 0 0 a b

theorem allZones_nodup : allZones.Nodup := by decide

/-! ## The guard end (R57) -/

section
variable {s t : State} (k : Crane)

/-- The zones that *k* guards. -/
def State.guarded (s : State) (k : Crane) : List Zone := allZones.filter (fun z => decide (k ∈ (s.zone z).guard))

theorem Course.guardEnd_of_free {z : Zone} {q : Course} (h : k ∉ q.record.guard) : q.guardEnd s z k = q := if_neg h

theorem State.Came.guardEnd (h : s.Came s.courseOf [] t) :
    s.Came (fun z => (s.courseOf z).guardEnd s z k)
      (if s.guarded k = [] then [] else [s.record .guardEnd (number k) 0 0 (s.guarded k).length 0]) (t.guardEnd k) := by
  have same : allZones.filter (fun z => (t.zone z).guard.contains k) = s.guarded k := by
    unfold State.guarded
    congr 1
    funext z
    rw [h.record, List.contains_eq_mem]
    rfl
  have zones : s.Came (fun z => (s.courseOf z).guardEnd s z k) [] ((s.guarded k).foldl (State.unguardZone k) t) := by
    have nodup : ((s.guarded k).map id).Nodup := by simpa [State.guarded] using allZones_nodup.filter _
    refine h.foldl (key := id) (act := fun z q => q.guardEnd s z k) _ nodup
      (fun v z _ hw hv => State.unguardZone_step (h.within.trans (hw.mono (by decide))) hv k) (fun _ _ => rfl)
      fun z hz => Course.guardEnd_of_free k ?_
    simpa [State.guarded, State.courseOf] using hz
  unfold State.guardEnd
  simp only [same]
  by_cases he : s.guarded k = []
  · rw [if_pos he, if_pos (by simp [he])]
    rwa [he] at zones
  · rw [if_neg he, if_neg (by simp [he])]
    have clock : _ = s.clock := zones.within.same .clock (by decide)
    have ended := zones.append ((State.emitCrane_within _ .guardEnd k (s.guarded k).length 0).mono (by decide))
      (State.emitCrane_arb ..) (State.emitCrane_notices ..) (State.logged_emitCrane _ _ _ _ _)
      (by simp [State.record, expiryKinds, Event.isConflict])
    simpa [State.record, clock] using ended

end

end Sys2Proof.Machine
end

section
/-! SUPPORT. The zone actions of an evaluation, face by face (R33 to R36), and the face states it leaves (R22, R31). -/

namespace Sys2Proof.Machine

/-! ## The actions of one face -/

/-- What the evaluation of crane *k* at the moment `now` does to the zone of a face (R34 to R36). -/
def Course.face (s : State) (now : Moment) (k : Crane) (f : FaceState) (q : Course) : Course :=
  let seen := q.inside s f.zone k f.inside
  if s.isShared f.zone = false then seen
  else if f.isClear = true then
    if seen.record.holder = some k ∧ s.params.release ≤ (now - f.clearSince.getD now).toNat then
      (seen.withdraw k).release s f.zone k
    else seen.withdraw k
  else if s.service[k] = .restricted then seen
  else seen.request s f.zone k

/-- The clear-since that the evaluation leaves in the face: that of the holder of a shared zone whose face is CLEAR, and
otherwise none (R22, R35). -/
def Course.dwelling (s : State) (now : Moment) (k : Crane) (f : FaceState) (q : Course) : Option Moment :=
  if s.isShared f.zone = true ∧ f.isClear = true ∧ (q.inside s f.zone k f.inside).record.holder = some k then
    some (f.clearSince.getD now)
  else none

section
variable {s t u : State} {z : Zone} {q p : Course}

theorem State.ZoneStep.clearSince (h : t.ZoneStep z q u p) (k : Crane) (y : Zone) (v : Option Moment) :
    t.ZoneStep z q (u.setClearSince k y v) p :=
  h.trans ⟨(State.setFaces_within ..).mono (by decide), h.record, fun _ _ => rfl, [], [],
    ⟨State.logged_of_same rfl rfl, by simp, by simp⟩, by simp [State.setClearSince], by simp, by simp⟩

theorem State.setClearSince_faces (h : u.faces = t.faces) (k : Crane) (z : Zone) (v : Option Moment) :
    (u.setClearSince k z v).faces = (t.setClearSince k z v).faces := by
  simp only [State.setClearSince, State.setFaces, h]

/-- The dwell of the holder of the zone, whose face is CLEAR. -/
theorem State.dwell_step (hs : Within (.msCount :: cycleParts) s t) (k : Crane) (f : FaceState)
    (h : t.zone f.zone = q.record) :
    t.ZoneStep f.zone q (t.dwell k f)
      (if s.params.release ≤ (t.msCount - f.clearSince.getD t.msCount).toNat then q.release s f.zone k else q) ∧
    (t.dwell k f).faces = (t.setClearSince k f.zone (some (f.clearSince.getD t.msCount))).faces := by
  have marked : t.ZoneStep f.zone q (t.setClearSince k f.zone (some (f.clearSince.getD t.msCount))) q :=
    (State.ZoneStep.refl h).clearSince ..
  have within := hs.trans (marked.within.mono (by decide))
  unfold State.dwell
  dsimp only
  rw [hs.same .params (by decide)]
  refine ⟨.ite Iff.rfl (fun _ => marked.trans (State.releaseZone_step within marked.record k)) fun _ => marked, ?_⟩
  split
  · exact (State.releaseZone_within ..).same .faces (by decide)
  · rfl

theorem State.faceActions_step (hs : Within (.msCount :: cycleParts) s t) (k : Crane) (f : FaceState)
    (h : t.zone f.zone = q.record) :
    t.ZoneStep f.zone q (State.faceActions k t f) (q.face s t.msCount k f) ∧
    (State.faceActions k t f).faces = (t.setClearSince k f.zone (q.dwelling s t.msCount k f)).faces := by
  have seen := State.postInside_step hs h k f rfl
  have arbiter := State.postInside_within t k f
  have faces : (t.postInside k f).faces = t.faces := arbiter.same .faces (by decide)
  have time : (t.postInside k f).msCount = t.msCount := arbiter.same .msCount (by decide)
  have within := hs.trans (seen.within.mono (by decide))
  have service : (t.postInside k f).service = s.service := within.same .service (by decide)
  unfold State.faceActions Course.face Course.dwelling
  dsimp only
  rw [State.isShared_of_within within]
  generalize t.postInside k f = u at *
  generalize q.inside s f.zone k f.inside = p at *
  have record := seen.record
  have withdrawn := State.withdrawZone_step record k
  have arbiter' := State.withdrawZone_within u f.zone k
  have faces' : (u.withdrawZone f.zone k).faces = t.faces := (arbiter'.same .faces (by decide)).trans faces
  have time' : (u.withdrawZone f.zone k).msCount = t.msCount := (arbiter'.same .msCount (by decide)).trans time
  by_cases shared : s.isShared f.zone = true
  · simp only [shared, if_true, Bool.true_eq_false, if_false, true_and]
    by_cases clear : f.isClear = true
    · simp only [clear, if_true, true_and, record]
      by_cases holds : p.record.holder = some k
      · obtain ⟨dwelt, marked⟩ := State.dwell_step (within.trans (withdrawn.within.mono (by decide))) k f withdrawn.record
        rw [time'] at dwelt marked
        simp only [holds, true_and, if_true]
        exact ⟨(seen.trans withdrawn).trans dwelt, marked.trans (State.setClearSince_faces faces' ..)⟩
      · simp only [holds, false_and, if_false]
        exact ⟨(seen.trans withdrawn).clearSince .., State.setClearSince_faces faces' ..⟩
    · simp only [clear, Bool.false_eq_true, false_and, if_false]
      have marked := seen.clearSince k f.zone none
      have requested := State.requestZone_step (hs.trans (marked.within.mono (by decide))) marked.record k
      have kept : ((u.setClearSince k f.zone none).requestZone f.zone k).faces = (u.setClearSince k f.zone none).faces :=
        (State.requestZone_within ..).same .faces (by decide)
      refine ⟨.ite (by rw [service]) (fun _ => marked)
        fun _ => marked.trans requested, ?_⟩
      rw [← State.setClearSince_faces faces]
      split
      · rfl
      · exact kept
  · simp only [shared, if_true, false_and, if_false, Bool.false_eq_true]
    exact ⟨seen.clearSince .., State.setClearSince_faces faces ..⟩

end

/-! ## All faces -/

/-- The face with the clear-since that the evaluation leaves in it. -/
def FaceState.dwelt (f : FaceState) (s : State) (now : Moment) (k : Crane) (q : Course) : FaceState :=
  { f with clearSince := q.dwelling s now k f }

section
variable {s t : State} {c : Zone → Course} {ends : List Event} (k : Crane)

theorem State.faces_setClearSince_of_mem {pre rest : List FaceState} {f : FaceState}
    (hn : ((pre ++ f :: rest).map FaceState.zone).Nodup) (hf : t.faces[k] = pre ++ f :: rest) (v : Option Moment) :
    (t.setClearSince k f.zone v).faces[k] = pre ++ { f with clearSince := v } :: rest := by
  rw [List.map_append, List.map_cons, List.nodup_append, List.nodup_cons] at hn
  obtain ⟨-, ⟨after, -⟩, before⟩ := hn
  have other : ∀ l : List FaceState, (∀ g ∈ l, g.zone ≠ f.zone) →
      l.map (fun g => if g.zone = f.zone then { g with clearSince := v } else g) = l := by
    intro l hl
    conv_rhs => rw [← List.map_id l]
    exact List.map_congr_left fun g hg => if_neg (hl g hg)
  rw [State.setClearSince, State.faces_setFaces, if_pos rfl, hf, List.map_append, List.map_cons, if_pos rfl,
    other pre fun g hg => before _ (List.mem_map_of_mem hg) _ List.mem_cons_self,
    other rest fun g hg e => after (e ▸ List.mem_map_of_mem hg)]

/-- The face states of *k* once every face of the list has been acted on, each zone once. -/
theorem State.Came.faceStates (l : List FaceState) :
    ∀ {pre : List FaceState} {c : Zone → Course} {t : State}, s.Came c ends t →
      ((pre ++ l).map FaceState.zone).Nodup → t.faces[k] = pre ++ l →
      (l.foldl (State.faceActions k) t).faces[k] = pre ++ l.map (fun f => f.dwelt s t.msCount k (c f.zone)) := by
  induction l with
  | nil => exact fun _ _ hf => hf
  | cons f l ih =>
    intro pre c t h nodup hf
    obtain ⟨moved, faces⟩ := State.faceActions_step h.within k f (h.record f.zone)
    have marked := State.faces_setClearSince_of_mem k nodup hf ((c f.zone).dwelling s t.msCount k f)
    rw [← faces] at marked
    have fresh : ∀ g ∈ l, g.zone ≠ f.zone := by
      rw [List.map_append, List.map_cons, List.nodup_append, List.nodup_cons] at nodup
      exact fun g hg e => nodup.2.1.1 (e ▸ List.mem_map_of_mem hg)
    have rest := ih (pre := pre ++ [f.dwelt s t.msCount k (c f.zone)]) (h.step moved)
      (by simpa [FaceState.dwelt] using nodup) (by simpa [FaceState.dwelt] using marked)
    rw [moved.within.same .msCount (by decide)] at rest
    rw [List.foldl_cons, rest, List.append_assoc, List.singleton_append, List.map_cons]
    congr 2
    exact List.map_congr_left fun g hg => by rw [Function.update_of_ne (fresh g hg)]

/-- No other crane's face states are touched. -/
theorem State.faceActions_others (l : List FaceState) {j : Crane} (hj : j ≠ k) :
    ∀ t : State, (l.foldl (State.faceActions k) t).faces[j] = t.faces[j] := by
  induction l with
  | nil => exact fun _ => rfl
  | cons f l ih =>
    intro t
    have faces := (State.faceActions_step (s := t) (q := t.courseOf f.zone) (Within.refl ..) k f rfl).2
    rw [List.foldl_cons, ih, faces, State.setClearSince, State.faces_setFaces, if_neg hj]

/-- The course of a zone through the actions of its face, if it has one. -/
def Course.faceOf (s : State) (now : Moment) (k : Crane) (f : Option FaceState) (q : Course) : Course :=
  f.elim q fun f => q.face s now k f

theorem find?_zone_of_mem {l : List FaceState} (hn : (l.map FaceState.zone).Nodup) {f : FaceState} (hf : f ∈ l) :
    l.find? (fun g => g.zone == f.zone) = some f := by
  induction l with
  | nil => exact absurd hf List.not_mem_nil
  | cons g l ih =>
    obtain ⟨fresh, hn⟩ := List.nodup_cons.mp hn
    rcases List.mem_cons.mp hf with rfl | hf
    · exact List.find?_cons_of_pos (beq_self_eq_true _)
    · have other : g.zone ≠ f.zone := fun e => fresh (e ▸ List.mem_map_of_mem hf)
      rw [List.find?_cons_of_neg (by simpa using other), ih hn hf]

theorem find?_zone_of_not_mem {l : List FaceState} {z : Zone} (hz : z ∉ l.map FaceState.zone) :
    l.find? (fun g => g.zone == z) = none :=
  List.find?_eq_none.mpr fun _ hg e => hz (beq_iff_eq.mp e ▸ List.mem_map_of_mem hg)

theorem State.Came.faceActions (h : s.Came c ends t) (l : List FaceState) (hn : (l.map FaceState.zone).Nodup) :
    s.Came (fun z => (c z).faceOf s t.msCount k (l.find? (fun f => f.zone == z))) ends
      (l.foldl (State.faceActions k) t) := by
  refine h.foldl (act := fun f q => q.face s t.msCount k f) l hn (fun v f _ hw hv => ?_) (fun f hf => ?_) fun z hz => ?_
  · have acted := (State.faceActions_step (h.within.trans (hw.mono (by decide))) k f hv).1
    rwa [hw.same .msCount (by decide)] at acted
  · rw [find?_zone_of_mem hn hf]
    rfl
  · rw [find?_zone_of_not_mem hz]
    rfl

end

/-! ## The evaluation as a whole (R21, R33) -/

theorem State.faceStates_zones (t : State) (k : Crane) (r : Report) :
    (t.faceStates k r).map FaceState.zone = t.zonesOf k := by
  unfold State.faceStates State.zonesOf
  induction allZones with
  | nil => rfl
  | cons z l ih =>
    cases hf : t.faceIn k z with
    | none => simpa [hf] using ih
    | some _ => simpa [hf, Face.state] using ih

theorem State.zonesOf_nodup (t : State) (k : Crane) : (t.zonesOf k).Nodup := allZones_nodup.filter _

/-- The course of a zone through the guard end of a link that has just come ONLINE (R33, R57). -/
def State.guardCourse (s : State) (k : Crane) (due : Bool) (z : Zone) : Course :=
  if due = true then (s.courseOf z).guardEnd s z k else s.courseOf z

/-- The GUARD_END of the evaluation (R57). -/
def State.guardEnds (s : State) (k : Crane) (due : Bool) : List Event :=
  if due = true ∧ s.guarded k ≠ [] then [s.record .guardEnd (number k) 0 0 (s.guarded k).length 0] else []

section
variable {s t : State} (k : Crane)

theorem State.Came.firstEvaluation (h : s.Came s.courseOf [] t) :
    s.Came (s.guardCourse k (t.line k).guardEndDue) (s.guardEnds k (t.line k).guardEndDue) (t.firstEvaluation k) := by
  unfold State.firstEvaluation
  cases (t.line k).guardEndDue
  · exact h
  · have ends : s.guardEnds k true =
        if s.guarded k = [] then [] else [s.record .guardEnd (number k) 0 0 (s.guarded k).length 0] := by
      by_cases he : s.guarded k = [] <;> simp [State.guardEnds, he]
    rw [ends]
    exact (h.keep (State.modLine_within t k fun l => { l with guardEndDue := false }) (by decide)).guardEnd k

theorem State.line_firstEvaluation (t : State) (j : Crane) : (t.firstEvaluation k).line j =
    if j = k then { t.line k with guardEndDue := false } else t.line j := by
  unfold State.firstEvaluation
  by_cases hd : (t.line k).guardEndDue = true
  · have lines : ∀ u : State, (u.guardEnd k).lines = u.lines :=
      fun u => (State.guardEnd_within u k).same .lines (by decide)
    rw [if_pos hd, State.line, lines]
    exact State.line_modLine ..
  · rw [if_neg hd]
    split
    · rename_i hj
      rw [hj, ← Bool.eq_false_of_not_eq_true hd]
    · rfl

theorem State.faces_firstEvaluation (t : State) : (t.firstEvaluation k).faces = t.faces := by
  unfold State.firstEvaluation
  split
  · exact ((State.guardEnd_within ..).same .faces (by decide)).trans (State.modLine_faces ..)
  · rfl

/-- The actions of the faces leave the lines. -/
theorem State.lines_faceActions (l : List FaceState) (t : State) :
    (l.foldl (State.faceActions k) t).lines = t.lines :=
  (Within.foldl (ps := .faces :: arbiterParts) (fun t f =>
    (State.faceActions_step (s := t) (q := t.courseOf f.zone) (Within.refl ..) k f rfl).1.within) l t).same .lines
    (by decide)

/-- What an evaluation in RUN or HOLD leaves: the zones' courses, the face states and the line. -/
structure State.Evaluated (s t : State) (k : Crane) (fs : List FaceState) (u : State) : Prop where
  came : s.Came (fun z => (s.guardCourse k (t.line k).guardEndDue z).faceOf s t.msCount k
    (fs.find? (fun f => f.zone == z))) (s.guardEnds k (t.line k).guardEndDue) u
  faces : u.faces[k] = fs.map fun f => f.dwelt s t.msCount k (s.guardCourse k (t.line k).guardEndDue f.zone)
  others : ∀ j, j ≠ k → u.faces[j] = t.faces[j]
  line : ∀ j, u.line j = if j = k then { t.line k with guardEndDue := false } else t.line j
  within : Within evaluationParts t u

theorem State.evaluate_evaluated (h : s.Came s.courseOf [] t) (hm : s.mode ≠ .setup) (r : Report) :
    s.Evaluated t k (t.faceStates k r) (t.evaluate k r) := by
  have nodup : ((t.faceStates k r).map FaceState.zone).Nodup := by
    rw [State.faceStates_zones]
    exact State.zonesOf_nodup ..
  have run : t.evaluate k r = (t.faceStates k r).foldl (State.faceActions k)
      ((t.setFaces k (t.faceStates k r)).firstEvaluation k) := by
    have mode : t.mode = s.mode := h.within.same .mode (by decide)
    exact if_neg (mode ▸ hm)
  have first := (h.keep (State.setFaces_within t k (t.faceStates k r)) (by decide)).firstEvaluation k
  have within := State.firstEvaluation_within (t.setFaces k (t.faceStates k r)) k
  have time : ((t.setFaces k (t.faceStates k r)).firstEvaluation k).msCount = t.msCount :=
    within.same .msCount (by decide)
  have faces : ∀ j : Crane, ((t.setFaces k (t.faceStates k r)).firstEvaluation k).faces[j] =
      if j = k then t.faceStates k r else t.faces[j] := by
    intro j
    rw [State.faces_firstEvaluation, State.faces_setFaces]
  have lines : (t.evaluate k r).lines = ((t.setFaces k (t.faceStates k r)).firstEvaluation k).lines := by
    rw [run, State.lines_faceActions]
  have acted := first.faceActions k _ nodup
  have dwelt := first.faceStates k (t.faceStates k r) (pre := []) nodup ((faces k).trans (if_pos rfl))
  rw [time, ← run] at acted dwelt
  refine ⟨acted, dwelt, fun j hj => ?_, fun j => ?_, State.evaluate_within ..⟩
  · rw [run, State.faceActions_others k _ hj, faces, if_neg hj]
  · rw [State.line, lines]
    exact State.line_firstEvaluation k (t.setFaces k (t.faceStates k r)) j

end

end Sys2Proof.Machine
end

section
/-! SUPPORT. The weathervane handling of a composition, as it goes through the zones (R60 to R62, R77 to R80). -/

namespace Sys2Proof.Machine

/-! ## Steps on the weathervane record of one crane -/

/-- Going from `t` to `u` only the weathervane record of *k* has changed, with weathervane events. -/
structure State.VaneStep (k : Crane) (t u : State) : Prop where
  within : Within [.vane, .events, .overflow] t u
  others : ∀ j, j ≠ k → u.vane[j] = t.vane[j]
  logged : ∃ new, t.logged u new ∧
    ∀ e ∈ new, e.kind ∈ [EventKind.weathervaneOn, .weathervaneOff, .weathervaneBlocked]

section
variable {k : Crane} {t u v : State}

theorem State.VaneStep.refl (t : State) : State.VaneStep k t t :=
  ⟨Within.refl .., fun _ _ => rfl, [], State.logged_refl t, by simp⟩

theorem State.VaneStep.trans (h : State.VaneStep k t u) (h' : State.VaneStep k u v) : State.VaneStep k t v := by
  obtain ⟨new, logged, kinds⟩ := h.logged
  obtain ⟨new', logged', kinds'⟩ := h'.logged
  exact ⟨h.within.trans h'.within, fun j hj => (h'.others j hj).trans (h.others j hj), new ++ new',
    State.logged_trans logged logged', fun e he => (List.mem_append.mp he).elim (kinds e) (kinds' e)⟩

theorem State.VaneStep.ite {c : Prop} [Decidable c] (h : State.VaneStep k t u) (h' : State.VaneStep k t v) :
    State.VaneStep k t (if c then u else v) := by
  split
  · exact h
  · exact h'

theorem State.VaneStep.set (t : State) (w : VaneRec) : State.VaneStep k t (t.setVane k w) :=
  ⟨(State.setVane_within ..).mono (by decide), fun j hj => (State.vane_setVane ..).trans (if_neg hj), [],
    State.logged_of_same rfl rfl, by simp⟩

/-- A new record with its event. -/
theorem State.VaneStep.emit (t : State) (w : VaneRec) {kind : EventKind}
    (hk : kind ∈ [EventKind.weathervaneOn, .weathervaneOff, .weathervaneBlocked]) (c z b : Nat) (x y : Int) :
    State.VaneStep k t ((t.setVane k w).emit kind c z b x y) := by
  refine (State.VaneStep.set t w).trans ⟨(State.emit_within ..).mono (by decide), fun j _ => ?_, _,
    State.logged_emit _ kind c z b x y, ?_⟩
  · rw [State.emit_vane]
  · simpa [State.record] using hk

variable (k t)

theorem State.beginEpisode_step : State.VaneStep k t (t.beginEpisode k) := .ite (.set ..) (.refl t)

theorem State.becomeActive_step : State.VaneStep k t (t.becomeActive k) := .ite (.refl t) (.emit _ _ (by decide) ..)

theorem State.becomePending_step : State.VaneStep k t (t.becomePending k) := .ite (.emit _ _ (by decide) ..) (.refl t)

theorem State.vaneAlarm_step : State.VaneStep k t (t.vaneAlarm k) := by
  unfold State.vaneAlarm
  dsimp only
  split
  · exact .ite (.emit _ _ (by decide) ..) (.refl t)
  · exact .refl t

end

/-! ## The zones through a composition -/

section
variable {s t u : State} {c : Zone → Course} {ends : List Event} (k : Crane)

theorem State.Came.vane (h : s.Came c ends t) {k : Crane} (hv : State.VaneStep k t u) : s.Came c ends u := by
  obtain ⟨new, logged, kinds⟩ := hv.logged
  have split_kinds : ∀ e ∈ new, (e.kind ∈ expiryKinds ∧ ∀ z, e.isConflict z = false) ∧ e.kind ≠ .guardEnd := by
    intro e he
    have hk := kinds e he
    simp only [List.mem_cons, List.not_mem_nil, or_false] at hk
    rcases hk with hk | hk | hk <;> simp [hk, expiryKinds, Event.isConflict]
  have none_ends : new.filter (fun e => e.kind == .guardEnd) = [] :=
    List.filter_eq_nil_iff.mpr fun e he => by simpa using (split_kinds e he).2
  have came := h.append (hv.within.mono (by decide)) (hv.within.same .arb (by decide))
    (hv.within.same .notices (by decide)) logged fun e he => (split_kinds e he).1
  rwa [none_ends, List.append_nil] at came

theorem State.faceIn_of_within (hs : Within (.msCount :: cycleParts) s t) (z : Zone) : t.faceIn k z = s.faceIn k z := by
  have zones : t.zones = s.zones := hs.same .zones (by decide)
  simp only [State.faceIn, State.zoneDef, zones]

theorem State.zonesOf_of_within (hs : Within (.msCount :: cycleParts) s t) : t.zonesOf k = s.zonesOf k := by
  simp only [State.zonesOf, State.faceIn_of_within k hs]

theorem State.mem_zonesOf {z : Zone} : z ∈ s.zonesOf k ↔ s.faceIn k z ≠ none := by
  simp [State.zonesOf, Option.isSome_iff_ne_none]

theorem State.Came.sendClaims (h : s.Came c ends t) :
    s.Came (fun z => if s.faceIn k z = none then c z else (c z).claim s z k) ends (t.sendClaims k) := by
  have member : ∀ z, z ∈ (t.zonesOf k).filter (fun z => !(t.zone z).sweep.contains k && !(t.zone z).claims.contains k) ↔
      s.faceIn k z ≠ none ∧ ¬ (k ∈ (c z).record.sweep ∨ k ∈ (c z).record.claims) := by
    intro z
    rw [List.mem_filter, State.zonesOf_of_within k h.within, State.mem_zonesOf, h.record]
    simp
  refine h.foldl (key := id) (act := fun z q => q.claim s z k) _ ?_ (fun v z hz hw hv => ?_)
    (fun z hz => ?_) fun z hz => ?_
  · rw [List.map_id]
    exact (State.zonesOf_nodup ..).filter _
  · exact State.claimZone_step (h.within.trans (hw.mono (by decide))) hv k ((member z).mp hz).2
  · exact if_neg ((member z).mp hz).1
  · rw [List.map_id, member] at hz
    by_cases hf : s.faceIn k z = none
    · exact if_pos hf
    · exact (if_neg hf).trans (if_pos (not_not.mp fun hk => hz ⟨hf, hk⟩))

theorem State.Came.withdrawSweeps (h : s.Came c ends t) :
    s.Came (fun z => if s.faceIn k z = none then c z else (c z).unclaim s z k) ends (t.withdrawSweeps k) := by
  unfold State.withdrawSweeps
  rw [State.zonesOf_of_within k h.within]
  refine h.foldl (key := id) (act := fun z q => q.unclaim s z k) _ ?_ (fun v z hz hw hv => ?_)
    (fun z hz => ?_) fun z hz => ?_
  · rw [List.map_id]
    exact State.zonesOf_nodup ..
  · exact State.withdrawSweepZone_step (h.within.trans (hw.mono (by decide))) hv k
  · exact if_neg ((State.mem_zonesOf k).mp hz)
  · rw [List.map_id, State.mem_zonesOf, not_not] at hz
    exact if_pos hz

/-- The course of a zone through the composition: a sweep claim while the condition holds, and a sweep withdrawal when an
episode ends (R78, R80). -/
def Course.composed (s : State) (k : Crane) (z : Zone) (q : Course) : Course :=
  if s.mode = .setup ∨ s.faceIn k z = none then q
  else if s.wind[k].level = .storm ∨ s.service[k] = .out then q.claim s z k
  else if s.vane[k].state = .none then q
  else q.unclaim s z k

theorem State.Came.vaneHolds (h : s.Came c ends t) (hk : s.wind[k].level = .storm ∨ s.service[k] = .out) :
    s.Came (fun z => (c z).composed s k z) ends (t.vaneHolds k) := by
  have begun := h.vane (State.beginEpisode_step k t)
  have mode : (t.beginEpisode k).mode = s.mode := begun.within.same .mode (by decide)
  unfold State.vaneHolds Course.composed
  dsimp only
  rw [mode]
  by_cases hm : s.mode = .setup
  · simp only [hm, if_true, true_or]
    exact begun.vane (State.becomeActive_step ..)
  · simp only [hm, if_false, false_or, hk, if_true]
    exact ((begun.sendClaims k).vane (.ite (State.becomeActive_step ..) (State.becomePending_step ..))).vane
      (State.vaneAlarm_step ..)

theorem State.Came.vaneEnds (h : s.Came c ends t) (hv : t.vane = s.vane)
    (hk : ¬ (s.wind[k].level = .storm ∨ s.service[k] = .out)) :
    s.Came (fun z => (c z).composed s k z) ends (t.vaneEnds k) := by
  have mode : t.mode = s.mode := h.within.same .mode (by decide)
  unfold State.vaneEnds Course.composed
  dsimp only
  rw [mode, hv]
  by_cases none : s.vane[k].state = .none
  · simp only [none, hk, if_true, if_false, ite_self]
    exact h
  · simp only [none, hk, if_false]
    by_cases hm : s.mode = .setup
    · simp only [hm, if_true, true_or]
      exact h.vane (.emit _ _ (by decide) ..)
    · simp only [hm, if_false, false_or]
      exact (h.withdrawSweeps k).vane (.emit _ _ (by decide) ..)

theorem State.Came.weathervane (h : s.Came c ends t) (hv : t.vane = s.vane) :
    s.Came (fun z => (c z).composed s k z) ends (t.weathervane k) := by
  have condition : t.vaneCondition k = true ↔ s.wind[k].level = .storm ∨ s.service[k] = .out := by
    have wind : t.wind = s.wind := h.within.same .wind (by decide)
    have service : t.service = s.service := h.within.same .service (by decide)
    simp [State.vaneCondition, wind, service]
  unfold State.weathervane
  by_cases hk : s.wind[k].level = .storm ∨ s.service[k] = .out
  · rw [if_pos (condition.mpr hk)]
    exact h.vaneHolds k hk
  · rw [if_neg (mt condition.mp hk)]
    exact h.vaneEnds k hv hk

theorem State.vaneHolds_others (t : State) {j : Crane} (hj : j ≠ k) : (t.vaneHolds k).vane[j] = t.vane[j] := by
  have begun := (State.beginEpisode_step k t).others j hj
  have claims : ((t.beginEpisode k).sendClaims k).vane = (t.beginEpisode k).vane :=
    (State.sendClaims_within ..).same .vane (by decide)
  unfold State.vaneHolds
  dsimp only
  split
  · exact ((State.becomeActive_step k _).others j hj).trans begun
  · have moved : ∀ (u : State) (c : Bool),
        State.VaneStep k u ((if c = true then u.becomeActive k else u.becomePending k).vaneAlarm k) := fun u c =>
      (State.VaneStep.ite (State.becomeActive_step k u) (State.becomePending_step k u)).trans (State.vaneAlarm_step k _)
    rw [(moved _ _).others j hj, claims, begun]

theorem State.vaneEnds_others (t : State) {j : Crane} (hj : j ≠ k) : (t.vaneEnds k).vane[j] = t.vane[j] := by
  have sweeps : (t.withdrawSweeps k).vane = t.vane := (State.withdrawSweeps_within ..).same .vane (by decide)
  unfold State.vaneEnds
  dsimp only
  split
  · rfl
  · refine ((State.VaneStep.emit _ _ (by decide) ..).others j hj).trans ?_
    split
    · rfl
    · exact congrArg (fun v : Vector VaneRec 8 => v[j]) sweeps

/-- No other crane's weathervane record is touched. -/
theorem State.weathervane_others (t : State) {j : Crane} (hj : j ≠ k) : (t.weathervane k).vane[j] = t.vane[j] := by
  unfold State.weathervane
  split
  · exact State.vaneHolds_others k t hj
  · exact State.vaneEnds_others k t hj

end

end Sys2Proof.Machine
end

section
/-! SUPPORT. The line at a cycle expiry (R134 to R136, R138), and the POLL (R70, R76, R85). -/

namespace Sys2Proof.Machine

/-! ## The unfinished exchange (R136 steps 1 and 2) -/

/-- The line once its unfinished exchange, if it has one, has ended as a miss. -/
def Line.unfinished (l : Line) : Line :=
  match l.exchange with
  | none => l
  | some x =>
    { l with exchange := none, missCount := l.missCount + 1, faults := l.faults.or (x.endedFaults .sizeOnly) }

/-- Only the exchange, the miss count and the flags are touched. -/
theorem Line.unfinished_eq (l : Line) : l.unfinished =
    { l with exchange := l.unfinished.exchange, missCount := l.unfinished.missCount, faults := l.unfinished.faults } := by
  unfold Line.unfinished
  split <;> rfl

@[simp] theorem Line.unfinished_link (l : Line) : l.unfinished.link = l.link := by rw [Line.unfinished_eq]

@[simp] theorem Line.unfinished_rate (l : Line) : l.unfinished.rate = l.rate := by rw [Line.unfinished_eq]

@[simp] theorem Line.unfinished_reportSince (l : Line) : l.unfinished.reportSince = l.reportSince := by
  rw [Line.unfinished_eq]

@[simp] theorem Line.unfinished_lastReport (l : Line) : l.unfinished.lastReport = l.lastReport := by
  rw [Line.unfinished_eq]

@[simp] theorem Line.unfinished_guardEndDue (l : Line) : l.unfinished.guardEndDue = l.guardEndDue := by
  rw [Line.unfinished_eq]

/-- Below the miss limit the end of the exchange leaves the line ONLINE. -/
theorem State.endIncomplete_below {s : State} {k : Crane} (hl : (s.line k).link = .online)
    (hx : (s.line k).exchange = none ∨ (s.line k).missCount + 1 < (s.craneRec k).missLimit) :
    s.endIncomplete k = s.modLine k Line.unfinished := by
  unfold State.endIncomplete
  cases he : (s.line k).exchange with
  | none => exact (State.modLine_same s k (by simp only [Line.unfinished, he])).symm
  | some x =>
    have below : (s.line k).missCount + 1 < (s.craneRec k).missLimit := hx.resolve_left (by simp [he])
    have online : ((s.dropExchange k).line k).link = .online := by simp [State.dropExchange, hl]
    have counted : (((s.dropExchange k).setFaults k (x.endedFaults .sizeOnly)).line k).missCount =
        (s.line k).missCount := by simp [State.dropExchange, State.setFaults]
    dsimp only
    unfold State.exchangeFailed
    dsimp only
    rw [online]
    dsimp only
    unfold State.countMiss
    dsimp only
    rw [counted]
    refine (if_neg (Nat.not_le.mpr below)).trans ?_
    unfold State.setFaults State.dropExchange
    rw [State.modLine_modLine, State.modLine_modLine]
    unfold State.modLine
    simp only [Line.unfinished, he]

/-- The line with its timer restarted, the unfinished exchange over. -/
def Line.recycled (l : Line) (cycle : Option Nat) (due : Moment) : Line :=
  { l.unfinished with effCycle := cycle, cycleTimer := some due }

/-- The state in which a cycle expiry evaluates: the time has come, and the line has a new cycle. -/
def State.recycled (s : State) (k : Crane) (due : Moment) : State :=
  (s.reach due).modLine k fun l => l.recycled (s.cycleNow k) ((s.reach due).later ((s.cycleNow k).getD 0))

section
variable {s : State} {k : Crane} {due : Moment}

theorem State.line_reach (s : State) (due : Moment) (j : Crane) : (s.reach due).line j = s.line j := by
  simp only [State.line, State.reach_lines]

theorem State.craneRec_reach (s : State) (due : Moment) (j : Crane) : (s.reach due).craneRec j = s.craneRec j := by
  simp only [State.craneRec, State.crane, State.reach_cranes]

theorem State.recycled_within (s : State) (k : Crane) (due : Moment) : Within [.msCount, .lines] s (s.recycled k due) :=
  ((State.reach_within ..).mono (by decide)).trans ((State.modLine_within ..).mono (by decide))

theorem State.line_recycled (s : State) (k : Crane) (due : Moment) (j : Crane) : (s.recycled k due).line j =
    if j = k then (s.line k).recycled (s.cycleNow k) ((s.reach due).later ((s.cycleNow k).getD 0)) else s.line j := by
  rw [State.recycled, State.line_modLine, State.line_reach, State.line_reach]

theorem exec_cycleExpiry (hl : (s.line k).link = .online) (ht : (s.line k).cycleTimer = some due)
    (hx : (s.line k).exchange = none ∨ (s.line k).missCount + 1 < (s.craneRec k).missLimit) :
    exec (.cycleExpiry k) s = .next ((s.recycled k due).evaluateAndPoll k) := by
  have online : ((s.reach due).line k).link = .online := by rw [State.line_reach, hl]
  have ended : (s.reach due).endIncomplete k = (s.reach due).modLine k Line.unfinished :=
    State.endIncomplete_below online (by rwa [State.line_reach, State.craneRec_reach])
  have still : (((s.reach due).modLine k Line.unfinished).line k).link = .online := by
    rw [State.line_modLine_self, Line.unfinished_link, online]
  have cycle : ((s.reach due).modLine k Line.unfinished).cycleNow k = s.cycleNow k := by
    simp only [State.cycleNow, State.line_modLine_self, Line.unfinished_rate, State.line_reach]
    rw [← State.craneRec_reach s due]
    rfl
  have restarted : ((s.reach due).modLine k Line.unfinished).startCycle k = s.recycled k due := by
    unfold State.startCycle
    rw [cycle, State.modLine_modLine]
    rfl
  refine congrArg Host.Outcome.next (?_ : s.cycleExpires k = _)
  unfold State.cycleExpires
  simp only [ht]
  rw [if_pos hl, State.expireCycle, ended, if_pos still, restarted]

end

/-! ## The permit of a crane that may not move (R71, R72) -/

theorem Permit.lower_allStop (p : Permit) : Permit.allStop.lower p = .allStop := rfl

theorem MotionLevel.lower_comm (a b : MotionLevel) : a.lower b = b.lower a := by cases a <;> cases b <;> rfl

theorem Permit.lower_comm (p q : Permit) : p.lower q = q.lower p := by
  simp only [Permit.lower, MotionLevel.lower_comm]

end Sys2Proof.Machine
end

section
/-! SUPPORT. A cycle expiry in its three steps: the evaluation if a report counts, the composition, the POLL (R136). -/

namespace Sys2Proof.Machine

/-! ## The evaluation of a cycle expiry, if there is one (R21, R136 step 3) -/

/-- The report of a crane that counts: one received since ONLINE, of a crane that is worked (R21). -/
def State.counted (s : State) (k : Crane) : Option Report :=
  if (s.line k).reportSince = true ∧ s.worked k = true then (s.line k).lastReport else none

/-- An evaluation takes place, with its zone actions. -/
abbrev State.Acts (s : State) (k : Crane) : Prop := s.counted k ≠ none ∧ s.mode ≠ .setup

/-- The face states that the evaluation computes. -/
def State.seen (s : State) (k : Crane) (due : Moment) : List FaceState :=
  (s.counted k).elim [] ((s.recycled k due).faceStates k)

/-- The course of a zone through the evaluation. -/
def State.acted (s : State) (k : Crane) (due : Moment) (z : Zone) : Course :=
  if s.Acts k then
    (s.guardCourse k (s.line k).guardEndDue z).faceOf s (s.reach due).msCount k
      ((s.seen k due).find? fun f => f.zone == z)
  else s.courseOf z

/-- The face states that the evaluation leaves. -/
def State.facesAfter (s : State) (k : Crane) (due : Moment) : List FaceState :=
  if s.counted k = none then s.faces[k]
  else if s.mode = .setup then s.seen k due
  else (s.seen k due).map fun f =>
    f.dwelt s (s.reach due).msCount k (s.guardCourse k (s.line k).guardEndDue f.zone)

/-- Whether the guard end is still to come after the evaluation. -/
def State.dueAfter (s : State) (k : Crane) : Bool :=
  (s.line k).guardEndDue && ((s.counted k).isNone || s.mode == .setup)

/-- The state after the evaluation. -/
def State.assessed (s : State) (k : Crane) (due : Moment) : State :=
  (s.counted k).elim (s.recycled k due) ((s.recycled k due).evaluate k)

section
variable {s : State} {k : Crane} {due : Moment}

theorem State.recycled_faces : (s.recycled k due).faces = s.faces := (s.recycled_within k due).same .faces (by decide)

theorem State.recycled_line : (s.recycled k due).line k =
    (s.line k).recycled (s.cycleNow k) ((s.reach due).later ((s.cycleNow k).getD 0)) :=
  (State.line_recycled ..).trans (if_pos rfl)

theorem State.evaluable_recycled (hl : (s.line k).link = .online) : (s.recycled k due).evaluable k = s.counted k := by
  have worked : (s.recycled k due).worked k = s.worked k := by
    unfold State.worked State.crane
    rw [(s.recycled_within k due).same .cranes (by decide)]
  simp only [State.evaluable, State.counted, worked, State.recycled_line, Line.recycled, Line.unfinished_link,
    Line.unfinished_reportSince, Line.unfinished_lastReport, hl,
    beq_self_eq_true, Bool.true_and, Bool.and_eq_true]

theorem State.recycled_came : s.Came s.courseOf [] (s.recycled k due) := by
  have within := s.recycled_within k due
  exact .start (within.mono (by decide)) (within.same .arb (by decide)) (within.same .notices (by decide))
    (within.same .events (by decide)) (within.same .overflow (by decide))

/-- What the evaluation has done. -/
structure State.Assessed (s : State) (k : Crane) (due : Moment) (v : State) : Prop where
  came : s.Came (s.acted k due) (if s.Acts k then s.guardEnds k (s.line k).guardEndDue else []) v
  faces : v.faces[k] = s.facesAfter k due
  others : ∀ j, j ≠ k → v.faces[j] = s.faces[j]
  line : ∀ j, v.line j =
    if j = k then { (s.recycled k due).line k with guardEndDue := s.dueAfter k } else s.line j
  within : Within evaluationParts (s.recycled k due) v

theorem State.line_recycled_due (j : Crane) : (s.recycled k due).line j =
    if j = k then { (s.recycled k due).line k with guardEndDue := (s.line k).guardEndDue } else s.line j := by
  split
  · rename_i hj
    rw [hj, State.recycled_line, Line.recycled, ← Line.unfinished_guardEndDue (s.line k)]
  · rename_i hj
    rw [State.line_recycled, if_neg hj]

/-- A cycle expiry without evaluation. -/
theorem State.assessed_of_none (h : s.counted k = none) : s.Assessed k due (s.assessed k due) := by
  have acts : ¬ s.Acts k := fun a => a.1 h
  have course : s.acted k due = s.courseOf := funext fun z => if_neg acts
  rw [State.assessed, h]
  refine ⟨?_, ?_, fun j _ => ?_, fun j => ?_, Within.refl ..⟩
  · rw [course, if_neg acts]
    exact State.recycled_came
  · rw [State.facesAfter, if_pos h]
    exact congrArg (fun v : Vector (List FaceState) 8 => v[k]) State.recycled_faces
  · exact congrArg (fun v : Vector (List FaceState) 8 => v[j]) State.recycled_faces
  · have later : s.dueAfter k = (s.line k).guardEndDue := by simp [State.dueAfter, h]
    rw [later]
    exact State.line_recycled_due j

/-- An evaluation in SETUP: the face states are written, and that is all (R21). -/
theorem State.assessed_of_setup {r : Report} (h : s.counted k = some r) (hm : s.mode = .setup) :
    s.Assessed k due (s.assessed k due) := by
  have acts : ¬ s.Acts k := fun a => a.2 hm
  have course : s.acted k due = s.courseOf := funext fun z => if_neg acts
  have mode : (s.recycled k due).mode = s.mode := (s.recycled_within k due).same .mode (by decide)
  have run : (s.recycled k due).evaluate k r = (s.recycled k due).setFaces k (s.seen k due) := by
    rw [State.seen, h]
    exact if_pos (mode.trans hm)
  rw [State.assessed, h, Option.elim_some, run]
  refine ⟨?_, ?_, fun j hj => ?_, fun j => ?_, (State.setFaces_within ..).mono (by decide)⟩
  · rw [course, if_neg acts]
    exact State.recycled_came.keep (State.setFaces_within ..) (by decide)
  · rw [State.facesAfter, if_neg (by simp [h]), if_pos hm, State.faces_setFaces, if_pos rfl]
  · rw [State.faces_setFaces, if_neg hj]
    exact congrArg (fun v : Vector (List FaceState) 8 => v[j]) State.recycled_faces
  · have later : s.dueAfter k = (s.line k).guardEndDue := by simp [State.dueAfter, hm]
    rw [later]
    exact State.line_recycled_due j

/-- An evaluation in RUN or HOLD. -/
theorem State.assessed_of_acts {r : Report} (h : s.counted k = some r) (hm : s.mode ≠ .setup) :
    s.Assessed k due (s.assessed k due) := by
  have acts : s.Acts k := ⟨by simp [h], hm⟩
  have seen : s.seen k due = (s.recycled k due).faceStates k r := by rw [State.seen, h, Option.elim_some]
  have guardEndDue : ((s.recycled k due).line k).guardEndDue = (s.line k).guardEndDue := by
    rw [State.recycled_line]
    exact Line.unfinished_guardEndDue _
  have time : (s.recycled k due).msCount = (s.reach due).msCount := State.modLine_msCount ..
  obtain ⟨came, faces, others, line, within⟩ := State.evaluate_evaluated k State.recycled_came hm r
  rw [guardEndDue, time, ← seen] at came faces
  rw [State.assessed, h]
  refine ⟨?_, ?_, fun j hj => ?_, fun j => ?_, within⟩
  · rw [if_pos acts, show s.acted k due = _ from funext fun z => if_pos acts]
    exact came
  · rw [State.facesAfter, if_neg acts.1, if_neg hm]
    exact faces
  · exact (others j hj).trans (congrArg (fun v : Vector (List FaceState) 8 => v[j]) State.recycled_faces)
  · have none_due : s.dueAfter k = false := by simp [State.dueAfter, h, hm]
    rw [Option.elim_some, line, none_due]
    split
    · rfl
    · rename_i hj
      rw [State.line_recycled, if_neg hj]

theorem State.assessed_assessed : s.Assessed k due (s.assessed k due) := by
  cases h : s.counted k with
  | none => exact State.assessed_of_none h
  | some r =>
    by_cases hm : s.mode = .setup
    · exact State.assessed_of_setup h hm
    · exact State.assessed_of_acts h hm

/-! ## The composition and the POLL (R70, R136 step 4) -/

/-- The state that a cycle expiry leaves. -/
def State.polled (s : State) (k : Crane) (due : Moment) : State :=
  ((s.assessed k due).weathervane k).sendPoll k (((s.assessed k due).weathervane k).composed k (s.counted k))

theorem exec_cycleExpiry_polled (hl : (s.line k).link = .online) (ht : (s.line k).cycleTimer = some due)
    (hx : (s.line k).exchange = none ∨ (s.line k).missCount + 1 < (s.craneRec k).missLimit) :
    exec (.cycleExpiry k) s = .next (s.polled k due) := by
  rw [exec_cycleExpiry hl ht hx, State.evaluateAndPoll, State.evaluable_recycled hl]
  unfold State.polled State.assessed
  cases s.counted k <;> rfl

variable (s k due)

/-- The state that composes: the evaluation and the weathervane handling are over. -/
def State.composing : State := (s.assessed k due).weathervane k

theorem State.composing_within : Within vaneParts (s.assessed k due) (s.composing k due) := State.weathervane_within ..

theorem State.sendPoll_parts (t : State) (p : SentPermit) : Within [.sent, .lines] t (t.sendPoll k p) := by
  constructor
  intro q hq
  cases q <;> simp at hq <;> rfl

theorem State.polled_within : Within [.sent, .lines] (s.composing k due) (s.polled k due) := State.sendPoll_parts ..

theorem State.polled_came : s.Came (fun z => (s.acted k due z).composed s k z)
    (if s.Acts k then s.guardEnds k (s.line k).guardEndDue else []) (s.polled k due) := by
  have assessed := State.assessed_assessed (s := s) (k := k) (due := due)
  have vane : (s.assessed k due).vane = s.vane :=
    (assessed.within.same .vane (by decide)).trans ((s.recycled_within k due).same .vane (by decide))
  exact (assessed.came.weathervane k vane).keep (s.polled_within k due) (by decide)

theorem State.polled_faces (j : Crane) :
    (s.polled k due).faces[j] = if j = k then s.facesAfter k due else s.faces[j] := by
  have assessed := State.assessed_assessed (s := s) (k := k) (due := due)
  have kept : (s.polled k due).faces = (s.assessed k due).faces :=
    ((s.polled_within k due).same .faces (by decide)).trans ((s.composing_within k due).same .faces (by decide))
  have face : (s.polled k due).faces[j] = (s.assessed k due).faces[j] :=
    congrArg (fun v : Vector (List FaceState) 8 => v[j]) kept
  rw [face]
  split
  · rename_i hj
    rw [hj, assessed.faces]
  · rename_i hj
    exact assessed.others j hj

theorem State.polled_vane {j : Crane} (hj : j ≠ k) : (s.polled k due).vane[j] = s.vane[j] := by
  have assessed := State.assessed_assessed (s := s) (k := k) (due := due)
  have vane : (s.assessed k due).vane = s.vane :=
    (assessed.within.same .vane (by decide)).trans ((s.recycled_within k due).same .vane (by decide))
  exact (State.weathervane_others k _ hj).trans (congrArg (fun v : Vector VaneRec 8 => v[j]) vane)

theorem State.polled_sent (j : Crane) : (s.polled k due).sent[j] =
    if j = k then (s.composing k due).composed k (s.counted k) else s.sent[j] := by
  have assessed := State.assessed_assessed (s := s) (k := k) (due := due)
  have kept : (s.composing k due).sent = s.sent :=
    ((s.composing_within k due).same .sent (by decide)).trans
      ((assessed.within.same .sent (by decide)).trans ((s.recycled_within k due).same .sent (by decide)))
  have sent : (s.polled k due).sent =
    (s.composing k due).sent.set k ((s.composing k due).composed k (s.counted k)) := rfl
  rw [← kept]
  rw [sent]
  exact vector_get_set ..

theorem State.composing_line (j : Crane) : (s.composing k due).line j =
    if j = k then { (s.recycled k due).line k with guardEndDue := s.dueAfter k } else s.line j := by
  have lines : (s.composing k due).lines = (s.assessed k due).lines := (s.composing_within k due).same .lines (by decide)
  rw [State.line, lines]
  exact State.assessed_assessed.line j

/-- The line once its POLL has begun (R130). -/
def Line.polling (l : Line) (window : Nat) (p : SentPermit) : Line :=
  { l with
    rx := .hunt false
    exchange := some
      { kind := .poll (textChunk l.texts).2.1, window := window, progress := .sending
        sent := lineFrame 0x14 l.tag (pollPayload p (textChunk l.texts)) } }

theorem State.line_sendPoll (t : State) (p : SentPermit) (j : Crane) : (t.sendPoll k p).line j =
    if j = k then (t.line k).polling (t.craneRec k).window p else t.line j :=
  State.line_modLine ({ t with sent := t.sent.set k p }) k j _

theorem State.polled_line (j : Crane) : (s.polled k due).line j = if j = k then
    ({ (s.recycled k due).line k with guardEndDue := s.dueAfter k } : Line).polling (s.craneRec k).window
      (s.polled k due).sent[k]
    else s.line j := by
  have assessed := State.assessed_assessed (s := s) (k := k) (due := due)
  have cranes : (s.composing k due).cranes = s.cranes :=
    ((s.composing_within k due).same .cranes (by decide)).trans
      ((assessed.within.same .cranes (by decide)).trans ((s.recycled_within k due).same .cranes (by decide)))
  have record : (s.composing k due).craneRec k = s.craneRec k := by
    unfold State.craneRec State.crane
    rw [cranes]
  have own := (s.composing_line k due k).trans (if_pos rfl)
  have other := s.composing_line k due j
  rw [State.polled_sent, if_pos rfl, ← own, ← record]
  refine (State.line_sendPoll k (s.composing k due) _ j).trans ?_
  split
  · rfl
  · rename_i hj
    rw [other, if_neg hj]

end

end Sys2Proof.Machine
end

section
/-! SUPPORT. What a cycle expiry leaves of its line, and the permit of its POLL (R71 to R76, R135, R136). -/

namespace Sys2Proof.Machine

/-! ## The line (R132, R135, R136) -/

/-- The flags of an exchange that ends incomplete: SIZE, and the errors of the characters received (R132, R133). -/
theorem Exchange.endedFaults_receiving {x : Exchange} {o : List Byte} {p fr : Bool}
    (h : x.progress = .receiving o p fr) (f : Faults) : f.or (x.endedFaults .sizeOnly) =
      { f with size := true, parity := f.parity || p, framing := f.framing || fr } := by
  simp [Exchange.endedFaults, h, Faults.or, Faults.sizeOnly, Faults.clear]

theorem Exchange.endedFaults_before {x : Exchange} (h : ∀ o p fr, x.progress ≠ .receiving o p fr) (f : Faults) :
    f.or (x.endedFaults .sizeOnly) = { f with size := true } := by
  cases hp : x.progress with
  | receiving o p fr => exact absurd hp (h o p fr)
  | sending => simp [Exchange.endedFaults, hp, Faults.or, Faults.sizeOnly, Faults.clear]
  | waiting _ => simp [Exchange.endedFaults, hp, Faults.or, Faults.sizeOnly, Faults.clear]

theorem Line.unfinished_of_idle {l : Line} (h : l.exchange = none) : l.unfinished = l := by
  simp only [Line.unfinished, h]

theorem Line.unfinished_of_exchange {l : Line} {x : Exchange} (h : l.exchange = some x) : l.unfinished =
    { l with
      exchange := none
      missCount := l.missCount + 1
      faults := l.faults.or (x.endedFaults .sizeOnly) } := by
  simp only [Line.unfinished, h]

theorem Line.unfinished_missCount (l : Line) :
    l.unfinished.missCount = if l.exchange = none then l.missCount else l.missCount + 1 := by
  cases h : l.exchange with
  | none => rw [Line.unfinished_of_idle h, if_pos rfl]
  | some x => rw [Line.unfinished_of_exchange h, if_neg (Option.some_ne_none x)]

/-- The flags of the line once an unfinished exchange, if it has one, has ended with SIZE (R132, R133, R136). -/
def Line.endedFaults (l : Line) : Faults :=
  match l.exchange with
  | none => l.faults
  | some x =>
    match x.progress with
    | .receiving _ parity framing =>
      { l.faults with size := true, parity := l.faults.parity || parity, framing := l.faults.framing || framing }
    | .sending | .waiting _ => { l.faults with size := true }

theorem Line.unfinished_faults (l : Line) : l.unfinished.faults = l.endedFaults := by
  cases h : l.exchange with
  | none => simp only [Line.unfinished_of_idle h, Line.endedFaults, h]
  | some x =>
    simp only [Line.unfinished_of_exchange h, Line.endedFaults, h]
    cases hp : x.progress with
    | receiving o parity framing => rw [Exchange.endedFaults_receiving hp]
    | sending => rw [Exchange.endedFaults_before (by simp [hp])]
    | waiting _ => rw [Exchange.endedFaults_before (by simp [hp])]

section
variable (s : State) (k : Crane) (due : Moment)

/-- The line that a cycle expiry leaves. -/
theorem State.polled_line_own : (s.polled k due).line k =
    { s.line k with
      effCycle := s.cycleNow k
      cycleTimer := some ((s.reach due).later ((s.cycleNow k).getD 0))
      missCount := if (s.line k).exchange = none then (s.line k).missCount else (s.line k).missCount + 1
      faults := (s.line k).endedFaults
      guardEndDue := s.dueAfter k
      rx := .hunt false
      exchange := some
        { kind := .poll (textChunk (s.line k).texts).2.1, window := (s.craneRec k).window, progress := .sending
          sent := lineFrame 0x14 (s.line k).tag
            (pollPayload (s.polled k due).sent[k] (textChunk (s.line k).texts)) } } := by
  rw [State.polled_line, if_pos rfl, State.recycled_line, Line.recycled, Line.unfinished_eq,
    Line.unfinished_missCount, Line.unfinished_faults]
  rfl

/-! ## The permit (R71 to R76) -/

theorem State.composing_from : Within (.msCount :: cycleParts) s (s.composing k due) :=
  ((s.recycled_within k due).mono (by decide)).trans
    ((State.assessed_assessed.within.mono (by decide)).trans ((s.composing_within k due).mono (by decide)))

theorem State.composing_reportSince : ((s.composing k due).line k).reportSince = (s.line k).reportSince := by
  rw [State.composing_line, if_pos rfl, State.recycled_line]
  exact Line.unfinished_reportSince _

theorem State.permitFor_sendPoll (t : State) (p : SentPermit) (r : Option Report) :
    (t.sendPoll k p).permitFor k r = t.permitFor k r := by
  have since : ((t.sendPoll k p).line k).reportSince = (t.line k).reportSince := by
    rw [State.line_sendPoll, if_pos rfl]
    rfl
  have faces : (t.sendPoll k p).facesPart k r = t.facesPart k r := rfl
  unfold State.permitFor
  rw [since, faces]
  rfl

theorem State.polled_permit : (s.polled k due).sent[k] =
    { permit := (s.polled k due).permitFor k (s.counted k)
      weathervane := (s.polled k due).vane[k].state == .active
      yielding := (s.polled k due).yielding k
      wind := s.wind[k].level
      booking := s.pollBooking k } := by
  have wind : (s.composing k due).wind = s.wind := (s.composing_from k due).same .wind (by decide)
  have bookings : (s.composing k due).bookings = s.bookings := (s.composing_from k due).same .bookings (by decide)
  have booking : (s.composing k due).pollBooking k = s.pollBooking k := by
    simp only [State.pollBooking, State.latest, bookings]
  have permit : (s.polled k due).permitFor k (s.counted k) = (s.composing k due).permitFor k (s.counted k) :=
    State.permitFor_sendPoll ..
  rw [State.polled_sent, if_pos rfl, State.composed, booking, wind, permit]
  rfl

variable {s k due}

theorem State.polled_allStop (h : s.mode ≠ .run ∨ (s.line k).reportSince = false) :
    (s.polled k due).sent[k].permit = .allStop := by
  have mode : (s.composing k due).mode = s.mode := (s.composing_from k due).same .mode (by decide)
  rw [State.polled_sent, if_pos rfl]
  change (s.composing k due).permitFor k _ = _
  unfold State.permitFor
  rw [State.composing_reportSince, mode]
  rcases h with h | h
  · have stop : modeLimits s.mode = .allStop := by
      cases hm : s.mode with
      | run => exact absurd hm h
      | setup => rfl
      | hold => rfl
    rw [stop, Permit.lower_allStop]
  · have stop : reportLimits (s.line k).reportSince = .allStop := by rw [h]; rfl
    rw [stop, Permit.lower_allStop, Permit.lower_comm, Permit.lower_allStop]

/-- No motion of the permit is above what the service state and the wind level allow. -/
theorem State.polled_below {motion : Permit → MotionLevel}
    (h : motion ∈ [Permit.cw, Permit.ccw, Permit.outward, Permit.inward, Permit.up, Permit.down])
    (hk : s.service[k] = .out ∨ s.wind[k].level = .storm) :
    (motion (s.polled k due).sent[k].permit).code ≤ (motion Permit.outOfUse).code := by
  have wind : (s.composing k due).wind = s.wind := (s.composing_from k due).same .wind (by decide)
  have service : (s.composing k due).service = s.service := (s.composing_from k due).same .service (by decide)
  obtain ⟨-, least⟩ := (s.composing k due).permitFor_lowest k h (s.counted k)
  rw [State.polled_sent, if_pos rfl]
  refine least _ (List.mem_map_of_mem ?_)
  rw [wind, service]
  rcases hk with hk | hk <;> rw [hk] <;> simp [serviceLimits, windLimits]

theorem MotionLevel.stop_of_code {m : MotionLevel} (h : m.code ≤ MotionLevel.stop.code) : m = .stop := by
  cases m with
  | stop => rfl
  | slow => exact absurd h (by decide)
  | full => exact absurd h (by decide)

theorem State.polled_outOfUse (hk : s.service[k] = .out ∨ s.wind[k].level = .storm) :
    let p := (s.polled k due).sent[k].permit
    p.cw = .stop ∧ p.ccw = .stop ∧ p.outward = .stop ∧ p.inward = .stop ∧ p.down = .stop ∧ p.up ≠ .full := by
  intro p
  have stopped : ∀ motion ∈ [Permit.cw, Permit.ccw, Permit.outward, Permit.inward, Permit.up, Permit.down],
      motion Permit.outOfUse = .stop → motion p = .stop := fun motion hm e =>
    MotionLevel.stop_of_code (e ▸ State.polled_below hm hk)
  refine ⟨stopped Permit.cw (by simp) rfl, stopped Permit.ccw (by simp) rfl, stopped Permit.outward (by simp) rfl,
    stopped Permit.inward (by simp) rfl, stopped Permit.down (by simp) rfl, fun full => ?_⟩
  have below : p.up.code ≤ MotionLevel.slow.code := State.polled_below (motion := Permit.up) (by simp) hk
  rw [full] at below
  exact absurd below (by decide)

end

/-! ## The booking of the POLL (R76) -/

/-- The later of a booking found so far and the next one. -/
def Booking.later (found : Option Booking) (b : Booking) : Option Booking :=
  match found with
  | none => some b
  | some c => if c.start < b.start then some b else some c

/-- A fold that keeps the later booking ends at the one that is later than every other. -/
theorem Booking.foldl_later {b : Booking} (l : List Booking) (hl : ∀ d ∈ l, d.start < b.start ∨ d = b) :
    ∀ found : Option Booking, (∀ c, found = some c → c.start < b.start ∨ c = b) → b ∈ l ∨ found = some b →
      l.foldl Booking.later found = some b := by
  induction l with
  | nil =>
    intro found _ hb
    exact hb.resolve_left List.not_mem_nil
  | cons d l ih =>
    intro found before hb
    have next : Booking.later found d = found ∨ Booking.later found d = some d := by
      unfold Booking.later
      split
      · exact .inr rfl
      · split
        · exact .inr rfl
        · exact .inl rfl
    have wins : d = b ∨ found = some b → Booking.later found d = some b := by
      rintro (rfl | rfl)
      · unfold Booking.later
        split
        · rfl
        · rename_i c
          split
          · rfl
          · rename_i late
            rw [(before c rfl).resolve_left late]
      · have late : ¬ b.start < d.start := by
          rcases hl d List.mem_cons_self with h | rfl
          · omega
          · omega
        exact if_neg late
    refine ih (fun c hc => hl c (List.mem_cons_of_mem _ hc)) _ (fun c hc => ?_) ?_
    · rcases next with e | e
      · exact before c (e ▸ hc)
      · obtain rfl : d = c := Option.some.inj (e.symm.trans hc)
        exact hl d List.mem_cons_self
    · rcases hb with hb | hb
      · rcases List.mem_cons.mp hb with rfl | hb
        · exact .inr (wins (.inl rfl))
        · exact .inl hb
      · exact .inr (wins (.inr hb))

section
variable {s : State} {k : Crane} {p : BookingState → Bool}

theorem State.latest_eq_some {b : Booking} (hb : b ∈ s.bookings) (hk : b.crane = k) (hp : p b.state = true)
    (hl : ∀ d ∈ s.bookings, d.crane = k → p d.state = true → d.start < b.start ∨ d = b) : s.latest k p = some b := by
  refine Booking.foldl_later _ (fun d hd => ?_) none (by simp) (.inl ?_)
  · simp only [List.mem_filter, Bool.and_eq_true, beq_iff_eq] at hd
    exact hl d hd.1 hd.2.1 hd.2.2
  · simp [hb, hk, hp]

theorem State.latest_eq_none (hl : ∀ d ∈ s.bookings, d.crane = k → p d.state = false) : s.latest k p = none := by
  have empty : s.bookings.filter (fun b => b.crane == k && p b.state) = [] := by
    refine List.filter_eq_nil_iff.mpr fun d hd => ?_
    simpa using hl d hd
  unfold State.latest
  rw [empty]
  rfl

/-- The POLL carries the booking that is ACTIVE or SUSPENDED. -/
theorem State.pollBooking_of_active {b : Booking} (hb : b ∈ s.bookings) (hk : b.crane = k)
    (hp : b.state = .active ∨ b.state = .suspended)
    (hl : ∀ d ∈ s.bookings, d.crane = k → d.state = .active ∨ d.state = .suspended → d.start < b.start ∨ d = b) :
    s.pollBooking k = b.id := by
  have latest : s.latest k (fun t => t == .active || t == .suspended) = some b :=
    State.latest_eq_some hb hk (by simpa using hp) fun d hd hk hp => hl d hd hk (by simpa using hp)
  unfold State.pollBooking
  rw [latest]

theorem State.pollBooking_of_closing {b : Booking} (hb : b ∈ s.bookings) (hk : b.crane = k) (hp : b.state = .closing)
    (hn : ∀ d ∈ s.bookings, d.crane = k → d.state ≠ .active ∧ d.state ≠ .suspended)
    (hl : ∀ d ∈ s.bookings, d.crane = k → d.state = .closing → d.start < b.start ∨ d = b) :
    s.pollBooking k = b.id := by
  have none_open : s.latest k (fun t => t == .active || t == .suspended) = none :=
    State.latest_eq_none fun d hd hk => by simpa using hn d hd hk
  have latest : s.latest k (fun t => t == .closing) = some b :=
    State.latest_eq_some hb hk (by simpa using hp) fun d hd hk hp => hl d hd hk (by simpa using hp)
  unfold State.pollBooking
  rw [none_open, latest]

theorem State.pollBooking_of_none (hn : ∀ d ∈ s.bookings, d.crane = k → d.state ≠ .active ∧ d.state ≠ .suspended)
    (hl : ∀ d ∈ s.bookings, d.crane = k → d.state ≠ .closing) : s.pollBooking k = 0 := by
  have none_open : s.latest k (fun t => t == .active || t == .suspended) = none :=
    State.latest_eq_none fun d hd hk => by simpa using hn d hd hk
  have none_closing : s.latest k (fun t => t == .closing) = none :=
    State.latest_eq_none fun d hd hk => by simpa using hl d hd hk
  unfold State.pollBooking
  rw [none_open, none_closing]

end

end Sys2Proof.Machine
end

section
/-! SUPPORT. The face states that a cycle expiry writes (R21 to R31). -/

namespace Sys2Proof.Machine

/-! ## One face state (R11, R27 to R30) -/

/-- h < C + n·Mv, always so under a ceiling that stands for any height (R11). -/
theorem below_eq (h : Int) (b : HookBand) (n mv : Nat) :
    below h b n mv = decide (b.ceiling = 30000 ∨ h < b.ceiling + n * mv) := by
  rw [Bool.eq_iff_iff]
  simp [below, Config.anyHeight]

theorem meets_eq (a b c d : Int) : meets a b c d = decide (a ≤ d ∧ c ≤ b) := by simp [meets]

section
variable {f : Face} {z : Zone} {mv : Nat} {r : Report} {radius : Nat} {e : Extents} {since : Option Moment}
  {g : FaceState} (hg : g = f.state z mv r radius e since)
include hg

/-- The state of a JIB face. -/
theorem Face.state_of_jib (h : f.band = none) :
    let facing := f.holdsAngle r.theta
    let back := fun (extent : Nat) => turn ((r.theta : Int) - extent)
    let meets := fun (start extent : Nat) => f.windowMeets start extent && true && true
    g.planInside = false ∧ g.inside = facing ∧ g.cw = levelOf (meets r.theta e.cwStop) (meets r.theta e.cwSlow) ∧
      g.ccw = levelOf (meets (back e.ccwStop) e.ccwStop) (meets (back e.ccwSlow) e.ccwSlow) ∧
      g.outward = .clear ∧ g.inward = .clear ∧ g.down = .clear := by
  subst hg
  simp [Face.state, Face.slewLevel, Face.outLevel, Face.inLevel, Face.downLevel, Face.planInside, Face.isInside,
    Face.lowEnough, Face.spanMeets, h]

/-- The state of a HOOK face. -/
theorem Face.state_of_hook {b : HookBand} (h : f.band = some b) :
    let facing := f.holdsAngle r.theta
    let low := fun (n : Nat) => decide (b.ceiling = 30000 ∨ r.height < b.ceiling + n * mv)
    let plan := facing && decide (b.rmin ≤ radius ∧ radius ≤ b.rmax)
    let inside := plan && low 1
    let back := fun (extent : Nat) => turn ((r.theta : Int) - extent)
    let meets := fun (start extent inward outward : Nat) => f.windowMeets start extent && low 1 &&
      decide ((radius : Int) - inward ≤ b.rmax ∧ b.rmin ≤ radius + outward)
    g.planInside = plan ∧ g.inside = inside ∧
      g.cw = levelOf (meets r.theta e.cwStop e.inStop e.outStop) (meets r.theta e.cwSlow e.inSlow e.outSlow) ∧
      g.ccw = levelOf (meets (back e.ccwStop) e.ccwStop e.inStop e.outStop)
        (meets (back e.ccwSlow) e.ccwSlow e.inSlow e.outSlow) ∧
      g.outward = (if facing && low 1 && decide (radius < b.rmin) then
        levelOf (decide (b.rmin ≤ radius + e.outStop)) (decide (b.rmin ≤ radius + e.outSlow)) else .clear) ∧
      g.inward = (if facing && low 1 && decide (b.rmax < radius) then
        levelOf (decide ((radius : Int) - e.inStop ≤ b.rmax)) (decide ((radius : Int) - e.inSlow ≤ b.rmax))
        else .clear) ∧
      g.down = (if plan && !inside then levelOf (low 2) (low 3) else .clear) := by
  subst hg
  have plan : f.planInside r.theta radius = (f.holdsAngle r.theta && decide (b.rmin ≤ radius ∧ radius ≤ b.rmax)) := by
    simp only [Face.planInside, h, Bool.decide_and, Bool.and_assoc]
  have low : f.lowEnough mv r.height = decide (b.ceiling = 30000 ∨ r.height < b.ceiling + (1 : Nat) * mv) := by
    simp only [Face.lowEnough, h, below_eq]
  have span : ∀ inward outward : Nat, f.spanMeets radius inward outward =
      decide ((radius : Int) - inward ≤ b.rmax ∧ b.rmin ≤ radius + outward) := by
    intro inward outward
    simp only [Face.spanMeets, h, meets_eq]
    congr 2
    norm_cast
  have inside : f.isInside mv r.theta radius r.height = (f.planInside r.theta radius && f.lowEnough mv r.height) := by
    simp only [Face.isInside, h]
  have slew : ∀ start ext start' ext', f.slewLevel mv radius r.height e start ext start' ext' =
      levelOf (f.windowMeets start ext && f.lowEnough mv r.height && f.spanMeets radius e.inStop e.outStop)
        (f.windowMeets start' ext' && f.lowEnough mv r.height && f.spanMeets radius e.inSlow e.outSlow) := by
    intro start ext start' ext'
    unfold Face.slewLevel
    rw [Bool.and_right_comm, Bool.and_right_comm (f.windowMeets start' ext')]
  refine ⟨plan, ?_, ?_, ?_, ?_, ?_, ?_⟩
  · exact inside.trans (by rw [plan, low])
  · exact (slew ..).trans (by rw [low, span, span])
  · exact (slew ..).trans (by rw [low, span, span])
  · simp only [Face.state, Face.outLevel, h, low]
  · simp only [Face.state, Face.inLevel, h, low]
  · simp only [Face.state, Face.downLevel, h, inside, plan, low, below_eq]

end

/-- A face whose levels are all CLEAR and that its crane is not inside (R31). -/
theorem FaceState.isClear_iff (g : FaceState) : g.isClear = true ↔ g.inside = false ∧ g.cw = .clear ∧ g.ccw = .clear ∧
    g.outward = .clear ∧ g.inward = .clear ∧ g.down = .clear := by
  simp [FaceState.isClear, and_assoc]

/-! ## The list of an evaluation (R21 to R26) -/

/-- The extents of a report at a cycle expiry. -/
def State.extentsNow (s : State) (k : Crane) (r : Report) : Extents :=
  extents (s.craneRec k) r
    (latency (s.craneRec k) ((s.cycleNow k).getD 0) (s.line k).unfinished.missCount r.age)

theorem State.mem_faceStates {t : State} {k : Crane} {r : Report} {f : FaceState} (hf : f ∈ t.faceStates k r) :
    ∃ d a, t.faceIn k f.zone = some (d, a) ∧ f = a.state f.zone d.mv r (t.radiusOf k r) (t.extentsOf k r)
      (if t.mode = .setup then none else t.clearSince k f.zone) := by
  obtain ⟨z, -, hz⟩ := List.mem_filterMap.mp hf
  cases hi : t.faceIn k z with
  | none => simp [hi] at hz
  | some face =>
    obtain ⟨d, a⟩ := face
    simp only [hi, Option.some.injEq] at hz
    have zone : f.zone = z := by rw [← hz]; rfl
    rw [zone]
    exact ⟨d, a, hi, hz.symm⟩

section
variable {s : State} {k : Crane} {due : Moment} {r : Report} {f g : FaceState}

theorem State.extentsOf_recycled (r : Report) : (s.recycled k due).extentsOf k r = s.extentsNow k r := by
  have record : (s.recycled k due).craneRec k = s.craneRec k := by
    unfold State.craneRec State.crane
    rw [(s.recycled_within k due).same .cranes (by decide)]
  rw [State.extentsOf, record, State.recycled_line]
  rfl

theorem State.seen_zones (h : s.counted k = some r) : (s.seen k due).map FaceState.zone = s.zonesOf k := by
  rw [State.seen, h, Option.elim_some, State.faceStates_zones]
  exact State.zonesOf_of_within k ((s.recycled_within k due).mono (by decide))

theorem State.mem_seen (h : s.counted k = some r) (hf : f ∈ s.seen k due) :
    ∃ d a, s.faceIn k f.zone = some (d, a) ∧ f = a.state f.zone d.mv r (min r.radius (s.craneRec k).jib)
      (s.extentsNow k r) (if s.mode = .setup then none else s.clearSince k f.zone) := by
  have within := s.recycled_within k due
  rw [State.seen, h, Option.elim_some] at hf
  obtain ⟨d, a, face, state⟩ := State.mem_faceStates hf
  have mode : (s.recycled k due).mode = s.mode := within.same .mode (by decide)
  have radius : (s.recycled k due).radiusOf k r = min r.radius (s.craneRec k).jib := by
    unfold State.radiusOf State.craneRec State.crane
    rw [within.same .cranes (by decide)]
  have since : (s.recycled k due).clearSince k f.zone = s.clearSince k f.zone := by
    simp only [State.clearSince, State.recycled_faces]
  rw [State.faceIn_of_within k (within.mono (by decide))] at face
  rw [mode, radius, since, State.extentsOf_recycled] at state
  exact ⟨d, a, face, state⟩

/-- The evaluation writes the face with a clear-since of its own, in SETUP none. -/
theorem State.mem_facesAfter (h : s.counted k = some r) (hg : g ∈ s.facesAfter k due) : ∃ f ∈ s.seen k due,
    g = { f with clearSince := g.clearSince } ∧ (s.mode = .setup → g.clearSince = none) ∧
      (s.mode ≠ .setup →
        g = f.dwelt s (s.reach due).msCount k (s.guardCourse k (s.line k).guardEndDue f.zone)) := by
  rw [State.facesAfter, if_neg (by simp [h])] at hg
  by_cases hm : s.mode = .setup
  · rw [if_pos hm] at hg
    obtain ⟨d, a, -, state⟩ := State.mem_seen h hg
    refine ⟨g, hg, rfl, fun _ => ?_, fun hn => absurd hm hn⟩
    rw [state, if_pos hm]
    rfl
  · rw [if_neg hm] at hg
    obtain ⟨f, hf, rfl⟩ := List.mem_map.mp hg
    exact ⟨f, hf, rfl, fun hs => absurd hs hm, fun _ => rfl⟩

theorem State.facesAfter_zones (h : s.counted k = some r) :
    (s.facesAfter k due).map FaceState.zone = s.zonesOf k := by
  rw [← State.seen_zones (due := due) h, State.facesAfter, if_neg (by simp [h])]
  split
  · rfl
  · rw [List.map_map]
    rfl

theorem State.facesAfter_state (h : s.counted k = some r) (hg : g ∈ s.facesAfter k due) :
    ∃ d a, s.faceIn k g.zone = some (d, a) ∧
      g = a.state g.zone d.mv r (min r.radius (s.craneRec k).jib) (s.extentsNow k r) g.clearSince := by
  obtain ⟨f, hf, same, -⟩ := State.mem_facesAfter h hg
  obtain ⟨d, a, face, state⟩ := State.mem_seen h hf
  have zone : g.zone = f.zone := by rw [same]
  refine ⟨d, a, zone ▸ face, ?_⟩
  rw [zone]
  refine same.trans ?_
  rw [state]
  rfl

end

end Sys2Proof.Machine
end

section
/-! SUPPORT. The course of one zone through a cycle expiry, face by face (R33 to R36, R57, R60 to R62). -/

namespace Sys2Proof.Machine

section
variable {s : State} {k : Crane} {due : Moment} {z : Zone}

theorem State.clearSince_eq (s : State) (k : Crane) (z : Zone) : s.clearSince k z =
    (s.faces[k].find? (fun f => f.zone == z)).bind (fun f => f.clearSince) := by
  unfold State.clearSince
  cases s.faces[k].find? (fun f => f.zone == z) <;> rfl

/-- The face of a zone once an evaluation with zone actions is over: the one computed, with the clear-since left. -/
theorem State.find?_facesAfter (h : s.Acts k) : (s.facesAfter k due).find? (fun g => g.zone == z) =
    ((s.seen k due).find? (fun f => f.zone == z)).map fun f =>
      f.dwelt s (s.reach due).msCount k (s.guardCourse k (s.line k).guardEndDue f.zone) := by
  rw [State.facesAfter, if_neg h.1, if_neg h.2, List.find?_map]
  rfl

/-- The course of a zone without a face, or of any zone where no zone actions are taken. -/
theorem State.acted_of_idle (h : ¬ s.Acts k) : s.acted k due z = s.courseOf z := if_neg h

theorem State.acted_of_no_face (h : s.Acts k) (hz : (s.facesAfter k due).find? (fun g => g.zone == z) = none) :
    s.acted k due z = s.guardCourse k (s.line k).guardEndDue z := by
  rw [State.find?_facesAfter h, Option.map_eq_none_iff] at hz
  rw [State.acted, if_pos h, hz]
  rfl

/-- The face that the evaluation finds and the one it leaves. -/
theorem State.found_face (h : s.Acts k) {g : FaceState}
    (hz : (s.facesAfter k due).find? (fun g => g.zone == z) = some g) :
    ∃ f, (s.seen k due).find? (fun f => f.zone == z) = some f ∧ f.zone = z ∧ f.clearSince = s.clearSince k z ∧
      g = f.dwelt s (s.reach due).msCount k (s.guardCourse k (s.line k).guardEndDue z) := by
  rw [State.find?_facesAfter h, Option.map_eq_some_iff] at hz
  obtain ⟨f, found, rfl⟩ := hz
  obtain ⟨r, hr⟩ := Option.ne_none_iff_exists'.mp h.1
  have zone : f.zone = z := by simpa using List.find?_some found
  obtain ⟨d, a, -, state⟩ := State.mem_seen hr (List.mem_of_find?_eq_some found)
  refine ⟨f, found, zone, ?_, by rw [zone]⟩
  rw [state, if_neg h.2, ← zone]
  rfl

theorem State.acted_of_face (h : s.Acts k) {g : FaceState}
    (hz : (s.facesAfter k due).find? (fun g => g.zone == z) = some g) :
    s.acted k due z = (s.guardCourse k (s.line k).guardEndDue z).face s (s.reach due).msCount k
      { g with clearSince := s.clearSince k z } := by
  obtain ⟨f, found, zone, since, rfl⟩ := State.found_face h hz
  rw [State.acted, if_pos h, found, ← since]
  rfl

/-- What an evaluation does to the zone of a face, in the words of R34 to R36. -/
theorem Course.face_eq (q : Course) (now : Moment) (g : FaceState) (since : Option Moment) (hz : g.zone = z) :
    q.face s now k { g with clearSince := since } =
      if s.isShared z = false then q.inside s z k g.inside
      else if g.inside = false ∧ g.cw = .clear ∧ g.ccw = .clear ∧ g.outward = .clear ∧ g.inward = .clear ∧
          g.down = .clear then
        if (q.inside s z k g.inside).record.holder = some k ∧ s.params.release ≤ (now - since.getD now).toNat then
          ((q.inside s z k g.inside).withdraw k).release s z k
        else (q.inside s z k g.inside).withdraw k
      else if s.service[k] = .restricted then q.inside s z k g.inside
      else (q.inside s z k g.inside).request s z k := by
  subst hz
  unfold Course.face
  exact if_congr Iff.rfl rfl (if_congr (FaceState.isClear_iff { g with clearSince := since }) rfl rfl)

/-- The course of a zone through the evaluation, by the face that the evaluation leaves there. -/
theorem State.acted_eq : s.acted k due z =
    ((s.facesAfter k due).find? (fun g => g.zone == z)).elim
      (if s.Acts k ∧ (s.line k).guardEndDue = true then (s.courseOf z).guardEnd s z k else s.courseOf z)
      fun g =>
        let q := if s.Acts k ∧ (s.line k).guardEndDue = true then (s.courseOf z).guardEnd s z k else s.courseOf z
        if ¬ s.Acts k then q
        else q.face s (s.reach due).msCount k { g with clearSince := s.clearSince k z } := by
  by_cases acts : s.Acts k
  · have start : (if s.Acts k ∧ (s.line k).guardEndDue = true then (s.courseOf z).guardEnd s z k else s.courseOf z) =
        s.guardCourse k (s.line k).guardEndDue z := if_congr (and_iff_right acts) rfl rfl
    rw [start]
    cases found : (s.facesAfter k due).find? (fun g => g.zone == z) with
    | none => exact State.acted_of_no_face acts found
    | some g => exact (State.acted_of_face acts found).trans (if_neg (not_not.mpr acts)).symm
  · rw [State.acted_of_idle acts, if_neg fun h => acts h.1]
    cases (s.facesAfter k due).find? (fun g => g.zone == z) with
    | none => rfl
    | some g => exact (if_pos acts).symm

end

end Sys2Proof.Machine
end

section
/-! SUPPORT. What a cycle expiry leaves in the record of one zone: the guard set, the inside set, holder and waiting list
(R34 to R36, R45 to R49, R51, R54, R57). -/

namespace Sys2Proof.Machine

/-! ## The guard set (R57) -/

section
variable (s : State) (z : Zone) (k : Crane) (q : Course)

theorem Course.guard_inside (present : Bool) : (q.inside s z k present).record.guard = q.record.guard := by
  unfold Course.inside
  dsimp only
  split
  · split
    · rfl
    · split
      · exact (Course.act_passed ..).guard
      · rfl
  · split
    · rfl
    · split
      · exact (Course.act_passed ..).guard
      · rfl

theorem Course.guard_request : (q.request s z k).record.guard = q.record.guard := by
  unfold Course.request
  dsimp only
  split
  · rfl
  · split
    · exact (Course.act_passed ..).guard
    · rfl

theorem Course.guard_withdraw : (q.withdraw k).record.guard = q.record.guard := by
  unfold Course.withdraw
  dsimp only
  split <;> rfl

theorem Course.guard_release : (q.release s z k).record.guard = q.record.guard := by
  unfold Course.release
  split
  · exact (Course.act_passed ..).guard
  · rfl

theorem Course.guard_claim : (q.claim s z k).record.guard = q.record.guard := by
  unfold Course.claim
  dsimp only
  split
  · rfl
  split
  · rfl
  split
  · rfl
  split
  · exact (Course.act_passed ..).guard
  split
  · exact (Course.act_passed ..).guard
  · rfl

theorem Course.guard_unclaim : (q.unclaim s z k).record.guard = q.record.guard := by
  unfold Course.unclaim
  dsimp only
  split
  · exact (Course.act_passed ..).guard
  · rfl

theorem Course.guard_face (now : Moment) (f : FaceState) : (q.face s now k f).record.guard = q.record.guard := by
  unfold Course.face
  dsimp only
  split
  · exact Course.guard_inside ..
  split
  · split
    · rw [Course.guard_release, Course.guard_withdraw, Course.guard_inside]
    · rw [Course.guard_withdraw, Course.guard_inside]
  split
  · exact Course.guard_inside ..
  · rw [Course.guard_request, Course.guard_inside]

theorem Course.guard_composed : (q.composed s k z).record.guard = q.record.guard := by
  unfold Course.composed
  split
  · rfl
  split
  · exact Course.guard_claim ..
  split
  · rfl
  · exact Course.guard_unclaim ..

theorem Course.mem_guard_guardEnd (j : Crane) :
    j ∈ (q.guardEnd s z k).record.guard ↔ j ∈ q.record.guard ∧ j ≠ k := by
  unfold Course.guardEnd
  by_cases hk : k ∈ q.record.guard
  · rw [if_pos hk]
    dsimp only
    rw [(Course.act_passed ..).guard]
    simp
  · rw [if_neg hk]
    exact (and_iff_left_of_imp fun hj (e : j = k) => hk (e ▸ hj)).symm

/-- The guard set of a zone after a cycle expiry: *k* has left it where an evaluation ended the guard. -/
theorem State.mem_guard_polled {s : State} {k : Crane} {due : Moment} (z : Zone) (j : Crane) :
    j ∈ ((s.polled k due).zone z).guard ↔ j ∈ (s.zone z).guard ∧
      (j ≠ k ∨ (s.line k).guardEndDue = false ∨ s.counted k = none ∨ s.mode = .setup) := by
  have guard : ((s.acted k due z).composed s k z).record.guard =
      (if s.Acts k then s.guardCourse k (s.line k).guardEndDue z else s.courseOf z).record.guard := by
    rw [Course.guard_composed, State.acted]
    split
    · unfold Course.faceOf
      cases (s.seen k due).find? (fun f => f.zone == z) with
      | none => rfl
      | some f => exact Course.guard_face ..
    · rfl
  rw [(s.polled_came k due).record z, guard]
  by_cases acts : s.Acts k
  · rw [if_pos acts, State.guardCourse]
    obtain ⟨counted, mode⟩ := acts
    cases (s.line k).guardEndDue with
    | false => simp [State.courseOf]
    | true =>
      rw [if_pos rfl, Course.mem_guard_guardEnd]
      simp [State.courseOf, counted, mode]
  · rw [if_neg acts]
    have idle : s.counted k = none ∨ s.mode = .setup := by
      by_contra h
      exact acts (not_or.mp h)
    simp [State.courseOf, idle]

end

/-! ## The inside update (R36, R51, R54) -/

/-- From the record `b` to the record `a` crane *k* has gone inside or come out; a crane that held the zone holds it, and
one that holds it now held it or waited for it. -/
structure ZoneRt.Entered (k : Crane) (present : Bool) (b a : ZoneRt) : Prop where
  own : k ∈ a.inside ↔ present = true
  others : ∀ j, j ≠ k → (j ∈ a.inside ↔ j ∈ b.inside)
  waiting : ∀ j ∈ a.waiting, j ∈ b.waiting
  held : ∀ j, b.holder = some j → a.holder = some j
  granted : ∀ j, a.holder = some j → b.holder = some j ∨ j ∈ b.waiting

section
variable {s : State} {z : Zone} {k : Crane} {q : Course} {present : Bool}

/-- A record that differs in the inside set and the mover alone, and then perhaps a grant pass. -/
theorem ZoneRt.Passed.entered {b r a : ZoneRt} (h : r.Passed a) (hh : r.holder = b.holder) (hw : r.waiting = b.waiting)
    (own : k ∈ r.inside ↔ present = true) (others : ∀ j, j ≠ k → (j ∈ r.inside ↔ j ∈ b.inside)) :
    ZoneRt.Entered k present b a := by
  refine ⟨by rw [h.inside, own], fun j hj => by rw [h.inside, others j hj], fun j hj => hw ▸ h.waiting j hj,
    fun j hj => ?_, fun j hj => ?_⟩
  · rw [h.holder j (hh.trans hj), hh, hj]
  · rw [← hh, ← hw]
    exact h.granted j hj

theorem Course.inside_entered : ZoneRt.Entered k present q.record (q.inside s z k present).record := by
  unfold Course.inside
  dsimp only
  cases present with
  | true =>
    have own : k ∈ addTo k q.record.inside ↔ true = true := by simp [mem_addTo]
    have others : ∀ j, j ≠ k → (j ∈ addTo k q.record.inside ↔ j ∈ q.record.inside) := by
      intro j hj
      simp [mem_addTo, hj]
    rw [if_pos rfl]
    split
    · rename_i hk
      exact (ZoneRt.Passed.refl _).entered rfl rfl (by simp [hk]) fun _ _ => Iff.rfl
    split
    · exact (Course.act_passed ..).entered (by rfl) (by rfl) own others
    · exact (ZoneRt.Passed.refl _).entered rfl rfl own others
  | false =>
    have own : k ∈ q.record.inside.filter (· != k) ↔ false = true := by simp
    have others : ∀ j, j ≠ k → (j ∈ q.record.inside.filter (· != k) ↔ j ∈ q.record.inside) := by
      intro j hj
      simp [hj]
    rw [if_neg Bool.false_ne_true]
    split
    · rename_i hk
      exact (ZoneRt.Passed.refl _).entered rfl rfl (by simp [hk]) fun _ _ => Iff.rfl
    split
    · exact (Course.act_passed ..).entered (by rfl) (by rfl) own others
    · exact (ZoneRt.Passed.refl _).entered rfl rfl own others

/-- At a restricted zone the inside set alone changes. -/
theorem Course.inside_restricted (h : s.isShared z = false) :
    (q.inside s z k present).record = { q.record with inside := (q.inside s z k present).record.inside } := by
  unfold Course.inside
  dsimp only
  split
  · split
    · rfl
    · rw [if_neg (by simp [h])]
      rfl
  · split
    · rfl
    · rw [if_neg (by simp [h])]

/-! ## Request, withdraw and release (R45 to R47) -/

theorem Course.inside_request : (q.request s z k).record.inside = q.record.inside := by
  unfold Course.request
  dsimp only
  split
  · rfl
  · split
    · exact (Course.act_passed ..).inside
    · rfl

theorem Course.inside_withdraw : (q.withdraw k).record.inside = q.record.inside := by
  unfold Course.withdraw
  dsimp only
  split <;> rfl

theorem Course.inside_release : (q.release s z k).record.inside = q.record.inside := by
  unfold Course.release
  split
  · exact (Course.act_passed ..).inside
  · rfl

/-- A request leaves its crane the holder, sweeping or waiting. -/
theorem Course.request_involves : (q.request s z k).record.holder = some k ∨ k ∈ (q.request s z k).record.sweep ∨
    k ∈ (q.request s z k).record.waiting := by
  unfold Course.request
  dsimp only
  split
  · assumption
  split
  · left
    rw [(Course.act_passed ..).holder k rfl]
  · right; right
    simp [Course.set]

theorem Course.request_of_holder (h : q.record.holder = some k) : q.request s z k = q := if_pos (.inl h)

theorem Course.holder_withdraw : (q.withdraw k).record.holder = q.record.holder := by
  unfold Course.withdraw
  dsimp only
  split <;> rfl

theorem Course.mem_waiting_withdraw (j : Crane) :
    j ∈ (q.withdraw k).record.waiting ↔ j ∈ q.record.waiting ∧ j ≠ k := by
  unfold Course.withdraw
  dsimp only
  split
  · simp [Course.set]
  · rename_i hk
    exact (and_iff_left_of_imp fun hj (e : j = k) => hk (e ▸ hj)).symm

theorem Course.waiting_release {j : Crane} (hj : j ∈ (q.release s z k).record.waiting) : j ∈ q.record.waiting := by
  unfold Course.release at hj
  split at hj
  · exact (Course.act_passed _ _ _ _ { q.record with holder := none } _ _).waiting j hj
  · exact hj

/-- A crane that releases the zone and does not wait for it does not hold it. -/
theorem Course.release_holder (hk : k ∉ q.record.waiting) : (q.release s z k).record.holder ≠ some k := by
  unfold Course.release
  split
  · intro e
    rcases (Course.act_passed ..).granted k e with e | e
    · exact Option.some_ne_none k e.symm
    · exact hk e
  · assumption

end

end Sys2Proof.Machine
end

section
/-! SUPPORT. What a cycle expiry makes of the zone of one face while nothing holds the crane back (R31 to R36, R45 to
R47). -/

namespace Sys2Proof.Machine

/-! ## The actions of one face, by the state of the face (R34 to R36) -/

section
variable {s : State} {now : Moment} {k : Crane} {f : FaceState} {q : Course}

theorem Course.inside_face :
    (q.face s now k f).record.inside = (q.inside s f.zone k f.inside).record.inside := by
  unfold Course.face
  dsimp only
  split
  · rfl
  split
  · split
    · rw [Course.inside_release, Course.inside_withdraw]
    · rw [Course.inside_withdraw]
  split
  · rfl
  · rw [Course.inside_request]

theorem Course.dwelling_of_none
    (h : ¬ (s.isShared f.zone = true ∧ f.isClear = true ∧ (q.inside s f.zone k f.inside).record.holder = some k)) :
    q.dwelling s now k f = none := if_neg h

/-- At a restricted zone an evaluation does the inside update alone (R36). -/
theorem Course.face_of_restricted (h : s.isShared f.zone = false) :
    (q.face s now k f).record = { q.record with inside := (q.face s now k f).record.inside } := by
  have seen : q.face s now k f = q.inside s f.zone k f.inside := if_pos h
  rw [seen]
  exact Course.inside_restricted h

/-- At a shared zone with a face that is not CLEAR the crane asks for the zone, unless it is RESTRICTED (R34). -/
theorem Course.face_of_reaching (h : s.isShared f.zone = true) (hc : ¬ f.isClear = true) : q.face s now k f =
    if s.service[k] = .restricted then q.inside s f.zone k f.inside
    else (q.inside s f.zone k f.inside).request s f.zone k :=
  (if_neg (by simp [h])).trans (if_neg hc)

/-- At a shared zone with a CLEAR face the crane waits no longer, and gives the zone back once it has dwelt (R35). -/
theorem Course.face_of_clear (h : s.isShared f.zone = true) (hc : f.isClear = true) : q.face s now k f =
    if (q.inside s f.zone k f.inside).record.holder = some k ∧
        s.params.release ≤ (now - f.clearSince.getD now).toNat then
      ((q.inside s f.zone k f.inside).withdraw k).release s f.zone k
    else (q.inside s f.zone k f.inside).withdraw k :=
  (if_neg (by simp [h])).trans (if_pos hc)

/-- A face that is not CLEAR: the crane holds, sweeps or waits, and keeps what it holds. -/
theorem Course.reaching_face (h : s.isShared f.zone = true) (hc : ¬ f.isClear = true) :
    (s.service[k] ≠ .restricted → (q.face s now k f).record.holder = some k ∨ k ∈ (q.face s now k f).record.sweep ∨
      k ∈ (q.face s now k f).record.waiting) ∧
    (q.record.holder = some k → (q.face s now k f).record.holder = some k) ∧
    (s.service[k] = .restricted → ∀ j ∈ (q.face s now k f).record.waiting, j ∈ q.record.waiting) := by
  have entered := Course.inside_entered (s := s) (z := f.zone) (k := k) (q := q) (present := f.inside)
  rw [Course.face_of_reaching h hc]
  by_cases hr : s.service[k] = .restricted
  · rw [if_pos hr]
    exact ⟨fun hn => absurd hr hn, entered.held k, fun _ => entered.waiting⟩
  · rw [if_neg hr]
    refine ⟨fun _ => Course.request_involves, fun held => ?_, fun hn => absurd hn hr⟩
    rw [Course.request_of_holder (entered.held k held)]
    exact entered.held k held

/-- A CLEAR face: the crane does not wait, and holds the zone until it has dwelt. -/
theorem Course.clear_face (h : s.isShared f.zone = true) (hc : f.isClear = true) :
    (k ∉ (q.face s now k f).record.waiting ∧ ∀ j ∈ (q.face s now k f).record.waiting, j ∈ q.record.waiting) ∧
    (q.record.holder = some k → q.dwelling s now k f = some (f.clearSince.getD now) ∧
      ((q.face s now k f).record.holder = some k ↔ (now - f.clearSince.getD now).toNat < s.params.release)) ∧
    (q.record.holder ≠ some k → k ∉ q.record.waiting →
      q.dwelling s now k f = none ∧ (q.face s now k f).record.holder ≠ some k) := by
  have entered := Course.inside_entered (s := s) (z := f.zone) (k := k) (q := q) (present := f.inside)
  unfold Course.dwelling
  rw [Course.face_of_clear h hc]
  generalize q.inside s f.zone k f.inside = seen at *
  have away : k ∉ (seen.withdraw k).record.waiting := fun hk => ((Course.mem_waiting_withdraw k).mp hk).2 rfl
  have left : ∀ j ∈ (seen.withdraw k).record.waiting, j ∈ q.record.waiting := fun j hj =>
    entered.waiting j ((Course.mem_waiting_withdraw j).mp hj).1
  refine ⟨?_, fun held => ?_, fun free idle => ?_⟩
  · split
    · exact ⟨fun hk => away (Course.waiting_release hk), fun j hj => left j (Course.waiting_release hj)⟩
    · exact ⟨away, left⟩
  · have holds := entered.held k held
    refine ⟨if_pos ⟨h, hc, holds⟩, ?_⟩
    split
    · rename_i dwelt
      exact iff_of_false (Course.release_holder away) (Nat.not_lt.mpr dwelt.2)
    · rename_i dwells
      rw [Course.holder_withdraw]
      exact iff_of_true holds (Nat.not_le.mp fun dwelt => dwells ⟨holds, dwelt⟩)
  · have free : seen.record.holder ≠ some k := fun e => (entered.granted k e).elim free idle
    refine ⟨if_neg fun dwells => free dwells.2.2, ?_⟩
    rwa [if_neg fun dwells => free dwells.1, Course.holder_withdraw]

/-- What the evaluation of one face leaves in the record of its zone, and the clear-since it leaves in the face. -/
theorem Course.face_acts (s : State) (now : Moment) (k : Crane) (f : FaceState) (q : Course) :
    let after := (q.face s now k f).record
    let left := q.dwelling s now k f
    let since := f.clearSince.getD now
    (k ∈ after.inside ↔ f.inside = true) ∧ (∀ j, j ≠ k → (j ∈ after.inside ↔ j ∈ q.record.inside)) ∧
    (s.isShared f.zone = false → left = none ∧ after = { q.record with inside := after.inside }) ∧
    (s.isShared f.zone = true →
      (¬ f.isClear = true → left = none ∧
        (s.service[k] = .inService → after.holder = some k ∨ k ∈ after.sweep ∨ k ∈ after.waiting) ∧
        (q.record.holder = some k → after.holder = some k)) ∧
      (s.service[k] = .restricted → ∀ j ∈ after.waiting, j ∈ q.record.waiting) ∧
      (f.isClear = true → k ∉ after.waiting ∧
        (q.record.holder = some k → left = some since ∧
          (after.holder = some k ↔ (now - since).toNat < s.params.release)) ∧
        (q.record.holder ≠ some k → k ∉ q.record.waiting → left = none ∧ after.holder ≠ some k))) := by
  have entered := Course.inside_entered (s := s) (z := f.zone) (k := k) (q := q) (present := f.inside)
  intro after left since
  have inside : after.inside = (q.inside s f.zone k f.inside).record.inside := Course.inside_face
  rw [inside]
  refine ⟨entered.own, entered.others, fun hz => ?_, fun hz => ⟨fun hc => ?_, fun hr => ?_, fun hc => ?_⟩⟩
  · rw [← inside]
    exact ⟨Course.dwelling_of_none fun h => Bool.false_ne_true (hz.symm.trans h.1), Course.face_of_restricted hz⟩
  · obtain ⟨involved, kept, -⟩ := Course.reaching_face (q := q) (now := now) hz hc
    exact ⟨Course.dwelling_of_none fun h => hc h.2.1, fun hi => involved (by simp [hi]), kept⟩
  · by_cases hc : f.isClear = true
    · exact (Course.clear_face hz hc).1.2
    · exact (Course.reaching_face hz hc).2.2 hr
  · obtain ⟨⟨away, -⟩, held, free⟩ := Course.clear_face (q := q) (now := now) hz hc
    exact ⟨away, held, free⟩

end

/-! ## The zones while no weathervane episode begins, holds or ends -/

section
variable {s : State} {k : Crane} {due : Moment}

theorem State.arb_eq_of_zones {t : State} (h : ∀ z, t.zone z = s.zone z) : t.arb = s.arb :=
  Vector.ext fun i hi => h ⟨i, hi⟩

theorem Course.composed_of_setup (z : Zone) (q : Course) (h : s.mode = .setup) : q.composed s k z = q := if_pos (.inl h)

/-- The composition does nothing to the zones. -/
def State.Calm (s : State) (k : Crane) : Prop :=
  s.wind[k].level ≠ .storm ∧ s.service[k] ≠ .out ∧ s.vane[k].state = .none

theorem Course.composed_of_calm (z : Zone) (q : Course) (h : s.Calm k) : q.composed s k z = q := by
  obtain ⟨level, service, vane⟩ := h
  unfold Course.composed
  rw [if_neg (not_or.mpr ⟨level, service⟩), if_pos vane, ite_self]

/-- Without zone actions and without weathervane handling no zone changes. -/
theorem State.polled_arb (h : s.mode = .setup ∨ (s.counted k = none ∧ s.Calm k)) : (s.polled k due).arb = s.arb := by
  refine State.arb_eq_of_zones fun z => ?_
  rw [(s.polled_came k due).record]
  rcases h with hm | ⟨hr, calm⟩
  · rw [Course.composed_of_setup z _ hm, State.acted_of_idle fun acts => acts.2 hm]
    rfl
  · rw [Course.composed_of_calm z _ calm, State.acted_of_idle fun acts => acts.1 hr]
    rfl

variable (acts : s.Acts k) (started : (s.line k).guardEndDue = false) (calm : s.Calm k)
include acts started calm

theorem State.polled_zone_without_face {z : Zone} (hz : s.faceIn k z = none) :
    (s.polled k due).zone z = s.zone z := by
  obtain ⟨r, hr⟩ := Option.ne_none_iff_exists'.mp acts.1
  have absent : (s.facesAfter k due).find? (fun g => g.zone == z) = none := by
    refine find?_zone_of_not_mem ?_
    rw [State.facesAfter_zones hr, State.mem_zonesOf, not_not]
    exact hz
  rw [(s.polled_came k due).record, Course.composed_of_calm z _ calm, State.acted_of_no_face acts absent, started]
  rfl

/-- The record of the zone of a face, and the clear-since left in the face. -/
theorem State.polled_zone_of_face {g : FaceState} (hg : g ∈ s.facesAfter k due) :
    (s.polled k due).zone g.zone = ((s.courseOf g.zone).face s (s.reach due).msCount k
      { g with clearSince := s.clearSince k g.zone }).record ∧
    g.clearSince = (s.courseOf g.zone).dwelling s (s.reach due).msCount k
      { g with clearSince := s.clearSince k g.zone } := by
  obtain ⟨r, hr⟩ := Option.ne_none_iff_exists'.mp acts.1
  have nodup : ((s.facesAfter k due).map FaceState.zone).Nodup := by
    rw [State.facesAfter_zones hr]
    exact State.zonesOf_nodup ..
  have found := find?_zone_of_mem nodup hg
  have course : s.guardCourse k (s.line k).guardEndDue g.zone = s.courseOf g.zone := by rw [started]; rfl
  obtain ⟨f, -, zone, since, left⟩ := State.found_face acts found
  rw [(s.polled_came k due).record, Course.composed_of_calm _ _ calm, State.acted_of_face acts found, course]
  refine ⟨rfl, ?_⟩
  rw [course] at left
  rw [← since]
  conv_lhs => rw [left]
  rw [left]
  rfl

end

end Sys2Proof.Machine
end

section
/-! O41: a cycle expiry of an ONLINE line that stays ONLINE, clause by clause. -/

namespace Sys2Proof.Machine

/-- Settles O41. The step is the evaluation, the weathervane handling and the POLL one after another (`State.polled`);
each clause is read off one of its parts: the line (`polled_line_own`), the POLL (`polled_permit`), the faces
(`facesAfter_state`), the course of every zone (`polled_came`, `acted_eq`) and what that course leaves (`face_acts`). -/
theorem cycleExpirySendsThePermit : Obligations.CycleExpirySendsThePermit := by
  intro s k due l c hl ht hx now misses bits cycle report chunk calm
  have run := exec_cycleExpiry_polled hl ht hx
  obtain ⟨t, next, within⟩ := exec_completes_within (.cycleExpiry k) s
  obtain rfl := Host.Outcome.next.inj (run.symm.trans next)
  have faces : (s.polled k due).faces[k] = s.facesAfter k due := (s.polled_faces k due k).trans (if_pos rfl)
  refine ⟨_, run, within, fun j hj => ⟨?_, ?_, ?_, s.polled_vane k due hj⟩, ?poll, ?faces, ?zones, State.polled_arb,
    State.mem_guard_polled, ?face⟩
  · rw [s.polled_line, if_neg hj]
  · rw [s.polled_sent, if_neg hj]
  · rw [s.polled_faces, if_neg hj]
  case poll =>
    intro p
    have whole := s.polled_permit k due
    have booking : p.booking = s.pollBooking k := congrArg SentPermit.booking whole
    rw [booking]
    exact ⟨whole, State.polled_allStop, State.polled_outOfUse, fun b => State.pollBooking_of_active,
      fun hn => ⟨fun b hb hk hp hl => State.pollBooking_of_closing hb hk hp hn hl, State.pollBooking_of_none hn⟩,
      booking ▸ s.polled_line_own k due⟩
  case faces =>
    have hr : s.counted k = report := rfl
    clear_value report
    cases report with
    | none => exact faces.trans (if_pos hr)
    | some r =>
      dsimp only
      rw [faces]
      refine ⟨State.facesAfter_zones hr, fun g hg => ?_⟩
      obtain ⟨d, f, face, state⟩ := State.facesAfter_state hr hg
      obtain ⟨-, -, -, cleared, -⟩ := State.mem_facesAfter hr hg
      have extents_eq : s.extentsNow k r = extents c r (latency c (cycle.getD 0) misses r.age) := by
        rw [State.extentsNow, Line.unfinished_missCount]
        rfl
      rw [extents_eq] at state
      rw [face]
      cases hb : f.band with
      | none =>
        obtain ⟨plan, inside, cw, ccw, outward, inward, down⟩ := Face.state_of_jib state hb
        simp only [hb]
        exact ⟨plan, inside, cw, ccw, outward, inward, down, cleared⟩
      | some b =>
        obtain ⟨plan, inside, cw, ccw, outward, inward, down⟩ := Face.state_of_hook state hb
        simp only [hb]
        exact ⟨plan, inside, cw, ccw, outward, inward, down, cleared⟩
  case zones =>
    intro evaluated course guarded
    have course_eq : ∀ z, course z = (s.acted k due z).composed s k z := by
      intro z
      rw [State.acted_eq]
      dsimp only [course]
      rw [faces]
      cases found : (s.facesAfter k due).find? (fun g => g.zone == z) with
      | none => rfl
      | some g =>
        dsimp only [Option.elim_some]
        rw [Course.face_eq _ _ g _ (by simpa using List.find?_some found), State.clearSince_eq]
        rfl
    obtain ⟨new, posted, ⟨logged, notices, ran⟩, ends, kinds⟩ := (s.polled_came k due).ran
    refine ⟨new, posted, logged, notices, fun z => course_eq z ▸ ran z, ?_, kinds⟩
    rw [ends]
    by_cases acts : s.Acts k
    · rw [if_pos acts]
      exact (if_congr (and_iff_right acts) rfl rfl).symm
    · rw [if_neg acts]
      exact (if_neg fun h => acts h.1).symm
  case face =>
    intro counted mode started still
    have acts : s.Acts k := ⟨counted, mode⟩
    refine ⟨fun z hz => State.polled_zone_without_face acts started still hz, fun g hg => ?_⟩
    rw [faces] at hg
    obtain ⟨record, left⟩ := State.polled_zone_of_face acts started still hg
    have acted := Course.face_acts s now.msCount k { g with clearSince := s.clearSince k g.zone } (s.courseOf g.zone)
    dsimp only at acted
    rw [← record, ← left, FaceState.isClear_iff, State.clearSince_eq] at acted
    exact acted

end Sys2Proof.Machine
end

section
/-! SUPPORT. A request of a crane that is not involved (R45), and the grant pass step by step (R49). -/

namespace Sys2Proof.Machine

/-! ## A request (R45) -/

theorem ZoneRt.request_of_grants {r : ZoneRt} {k : Crane} (h : r.grantsNow k = true) :
    r.request k = { r with holder := some k } := if_pos h

theorem ZoneRt.request_of_waits {r : ZoneRt} {k : Crane} (h : ¬ r.grantsNow k = true) :
    r.request k = { r with waiting := r.waiting ++ [k] } := if_neg h

/-- Settles O59: the crane is granted the zone exactly where `grantsNow` says so, in the words of R45. -/
theorem aRequestIsGrantedAtOnceOrWaits : Obligations.ARequestIsGrantedAtOnceOrWaits := by
  intro r k _ free
  have grants : r.grantsNow k = true ↔ free := by
    rw [ZoneRt.grantsNow_iff]
    simp only [free, Option.map_eq_some_iff]
  exact ⟨fun h => ZoneRt.request_of_grants (grants.mpr h), fun h => ZoneRt.request_of_waits (mt grants.mp h)⟩

/-! ## The grant pass (R49) -/

section
variable {r : ZoneRt}

/-- Step 1: a held zone is left as it is. -/
theorem ZoneRt.grantPass_of_held (h : r.holder ≠ none) : r.grantPass = r :=
  if_pos (Option.isSome_iff_ne_none.mpr h)

theorem ZoneRt.activeReservation_iff : r.activeReservation = true ↔ ∃ v, r.reservation = some v ∧ v.phase = .active := by
  unfold ZoneRt.activeReservation
  cases r.reservation <;> simp

/-- Step 3: a swept zone is given to nobody. -/
theorem ZoneRt.grantNext_of_swept (h : r.sweep ≠ []) : r.grantNext = r :=
  if_pos (by simpa [List.isEmpty_iff] using h)

/-- Step 4: a guarded zone is given to nobody. -/
theorem ZoneRt.grantNext_of_guarded (h : r.guard ≠ []) : r.grantNext = r := by
  unfold ZoneRt.grantNext
  rw [if_pos (c := (!r.guard.isEmpty) = true) (by simpa [List.isEmpty_iff] using h), ite_self]

/-- Step 2: the pending claims join the sweep set, and with it the pass is over. -/
theorem ZoneRt.grantPass_of_claimed (h : r.holder = none) (hc : r.claims ≠ []) (ha : r.activeReservation = false) :
    r.grantPass = r.admitClaims := by
  have swept : r.admitClaims.sweep ≠ [] := by
    obtain ⟨k, hk⟩ := List.exists_mem_of_ne_nil _ hc
    exact List.ne_nil_of_mem ((mem_union r.sweep r.claims k).mpr (.inr hk))
  unfold ZoneRt.grantPass
  rw [if_neg (by simp [h]), if_pos (by simp [ha, hc]), ZoneRt.grantNext_of_swept swept]

theorem ZoneRt.grantPass_of_unclaimed (h : r.holder = none) (hc : r.claims = [] ∨ r.activeReservation = true) :
    r.grantPass = r.grantNext := by
  unfold ZoneRt.grantPass
  rw [if_neg (by simp [h]), if_neg (by rcases hc with hc | hc <;> simp [hc])]

section
variable (hs : r.sweep = []) (hg : r.guard = [])
include hs hg

/-- Step 5: the booking's crane alone can be given a reserved zone. -/
theorem ZoneRt.grantNext_of_reserved {v : Reservation} (hv : r.reservation = some v) :
    r.grantNext = if v.crane ∈ r.waiting then r.grant v.crane else r := by
  unfold ZoneRt.grantNext
  simp [hs, hg, hv]

/-- Step 6: the earliest waiting crane that is inside. -/
theorem ZoneRt.grantNext_of_inside (hv : r.reservation = none) {k : Crane} {before after : List Crane}
    (hw : r.waiting = before ++ k :: after) (hk : k ∈ r.inside) (hb : ∀ j ∈ before, j ∉ r.inside) :
    r.grantNext = r.grant k := by
  have found : r.waiting.find? (fun k => r.inside.contains k) = some k := by
    rw [hw, List.find?_append, List.find?_eq_none.mpr (by simpa using hb), Option.none_or]
    exact List.find?_cons_of_pos (by simpa using hk)
  unfold ZoneRt.grantNext
  simp only [hs, hg, hv, found, List.isEmpty_nil, Bool.not_true, Bool.false_eq_true, if_false]

/-- Step 7: failing one inside, the head of the waiting list, if there is one. -/
theorem ZoneRt.grantNext_of_outside (hv : r.reservation = none) (hw : ∀ j ∈ r.waiting, j ∉ r.inside) :
    r.grantNext = r.waiting.head?.elim r r.grant := by
  have missed : r.waiting.find? (fun k => r.inside.contains k) = none := List.find?_eq_none.mpr (by simpa using hw)
  unfold ZoneRt.grantNext
  simp only [hs, hg, hv, missed, List.isEmpty_nil, Bool.not_true, Bool.false_eq_true, if_false]
  cases r.waiting <;> rfl

end

end

/-- Settles O57: one lemma for each step of the pass. -/
theorem theGrantPassTakesItsSteps : Obligations.TheGrantPassTakesItsSteps := by
  intro r claimed next
  have unclaimed : ¬ claimed → r.claims = [] ∨ r.activeReservation = true := by
    intro h
    by_contra hn
    obtain ⟨hc, ha⟩ := not_or.mp hn
    exact h ⟨hc, fun v hv hp => ha (ZoneRt.activeReservation_iff.mpr ⟨v, hv, hp⟩)⟩
  refine ⟨ZoneRt.grantPass_of_held, fun hh hc => ?_, fun hh hc hs => ?_, fun hh hc hs hg => ⟨fun v hv => ?_, fun hv =>
    ⟨fun k before after hw hk hb => ?_, fun k rest hw hk => ?_, fun hw => ?_⟩⟩⟩
  · have idle : r.activeReservation = false := by
      refine Bool.eq_false_of_not_eq_true fun ha => ?_
      obtain ⟨v, hv, hp⟩ := ZoneRt.activeReservation_iff.mp ha
      exact hc.2 v hv hp
    rw [ZoneRt.grantPass_of_claimed hh hc.1 idle]
    exact ⟨fun k => mem_union .., rfl, rfl, hh, rfl, rfl, rfl, rfl⟩
  · rw [ZoneRt.grantPass_of_unclaimed hh (unclaimed hc)]
    exact hs.elim ZoneRt.grantNext_of_swept ZoneRt.grantNext_of_guarded
  all_goals rw [ZoneRt.grantPass_of_unclaimed hh (unclaimed hc)]
  · exact ZoneRt.grantNext_of_reserved hs hg hv
  · exact ZoneRt.grantNext_of_inside hs hg hv hw hk hb
  · rw [ZoneRt.grantNext_of_outside hs hg hv hk, hw]
    rfl
  · rw [ZoneRt.grantNext_of_outside hs hg hv (by simp [hw]), hw]
    rfl

end Sys2Proof.Machine
end

section
/-! SUPPORT. RESOLVE (R53): the crane its octet names, and its checks in order. -/

namespace Sys2Proof.Machine

/-! ## The request once its numbers are in range -/

theorem State.isShared_iff {s : State} {z : Zone} : s.isShared z = true ↔ ∃ d, s.zoneDef z = some d ∧ d.kind = .shared := by
  unfold State.isShared
  cases s.zoneDef z <;> simp

section
variable {s : State} {z : Zone} {m : Option Crane}

theorem State.resolveRequest_of_unknown (h : s.zoneDef z = none ∨ ∃ k, m = some k ∧ s.crane k = none) :
    s.resolveRequest z m = s.refuse .refusedRef := by
  unfold State.resolveRequest
  cases hz : s.zoneDef z with
  | none => rfl
  | some d =>
    obtain ⟨k, rfl, hk⟩ := h.resolve_left (by simp [hz])
    exact if_pos (by simp [hk])

variable (known : ∀ k, m = some k → s.crane k ≠ none)
include known

theorem State.resolveRequest_of_outside (hz : s.zoneDef z ≠ none)
    (h : s.isShared z = false ∨ ∃ k, m = some k ∧ k ∉ (s.zone z).inside) :
    s.resolveRequest z m = s.refuse .refusedState := by
  obtain ⟨d, hd⟩ := Option.ne_none_iff_exists'.mp hz
  have outside : d.kind = .restricted ∨ ∃ k, m = some k ∧ k ∉ (s.zone z).inside := by
    refine h.imp_left fun h => ?_
    cases hk : d.kind with
    | restricted => rfl
    | shared => exact absurd (State.isShared_iff.mpr ⟨d, hd, hk⟩) (by simp [h])
  unfold State.resolveRequest
  rcases outside with kind | ⟨k, rfl, out⟩
  · cases m with
    | none => simp [hd, kind]
    | some k => simp [hd, kind, known k rfl]
  · simp [hd, out, known k rfl]

theorem State.resolveRequest_of_inside (hz : s.isShared z = true) (h : ∀ k, m = some k → k ∈ (s.zone z).inside) :
    s.resolveRequest z m = (s.setZone z { s.zone z with mover := m }).done [] := by
  obtain ⟨d, hd, shared⟩ := State.isShared_iff.mp hz
  unfold State.resolveRequest
  cases m with
  | none => simp [hd, shared]
  | some k => simp [hd, shared, known k rfl, h k rfl]

end

/-! ## The request as it is taken -/

theorem resolveCrane_number (k : Crane) : resolveCrane (number k) = some (some k) := by
  have named : resolveCrane (number k) = (pick (number k)).map some := rfl
  rw [named, pick_number]
  rfl

theorem resolveCrane_of_large {n : Nat} (h : 8 < n) : resolveCrane n = none := by
  obtain ⟨n, rfl⟩ := Nat.exists_eq_add_of_lt h
  have named : resolveCrane (8 + n + 1) = (pick (8 + n + 1)).map some := rfl
  rw [named, pick_eq_none (.inr h)]
  rfl

theorem resolveCrane_of_small {n : Nat} (h : n ≤ 8) : ∃ m, resolveCrane n = some m := by
  rcases Nat.eq_zero_or_pos n with rfl | hn
  · exact ⟨none, rfl⟩
  · have named : n = number (⟨n - 1, by omega⟩ : Crane) := by simp only [number]; omega
    exact ⟨_, named ▸ resolveCrane_number _⟩

section
variable {s : State} {seq m n : Byte}

theorem exec_resolve_in_setup (ht : s.takes 0x29 seq [m, n]) (hs : s.mode = .setup) :
    exec (.resolve seq [m, n]) s = .next (s.refused 0x29 seq .refusedMode) := by
  refine congrArg _ ((State.serve_withLength _ ht rfl).trans ?_)
  rw [if_pos (show s.taken.mode = .setup from hs)]
  rfl

theorem exec_resolve_unzoned (ht : s.takes 0x29 seq [m, n]) (hs : s.mode ≠ .setup) (hm : m = 0 ∨ 32 < m.toNat) :
    exec (.resolve seq [m, n]) s = .next (s.refused 0x29 seq .refusedRange) := by
  refine congrArg _ ((State.serve_withLength _ ht rfl).trans ?_)
  rw [if_neg (show ¬ s.taken.mode = .setup from hs), withZone, oct_cons_zero, pick_octet_eq_none hm]
  rfl

variable {z : Zone} (ht : s.takes 0x29 seq [BitVec.ofNat 8 (number z), n]) (hs : s.mode ≠ .setup)
include ht hs

theorem exec_resolve_uncraned (hn : 8 < n.toNat) :
    exec (.resolve seq [BitVec.ofNat 8 (number z), n]) s = .next (s.refused 0x29 seq .refusedRange) := by
  refine congrArg _ ((State.serve_withLength _ ht rfl).trans ?_)
  rw [if_neg (show ¬ s.taken.mode = .setup from hs), oct_cons_zero, toNat_zoneNumber, withZone_number, oct_cons_succ,
    oct_cons_zero, resolveCrane_of_large hn]
  rfl

theorem exec_resolve {k : Option Crane} (hk : resolveCrane n.toNat = some k) :
    exec (.resolve seq [BitVec.ofNat 8 (number z), n]) s = .next ((s.taken.resolveRequest z k).sent 0x29 seq) := by
  refine congrArg _ ((State.serve_withLength _ ht rfl).trans ?_)
  rw [if_neg (show ¬ s.taken.mode = .setup from hs), oct_cons_zero, toNat_zoneNumber, withZone_number, oct_cons_succ,
    oct_cons_zero, hk]

end

/-- Settles O36: the checks fall one after another, first those on the octets, then those of `State.resolveRequest`. -/
theorem resolveNamesTheMover : Obligations.ResolveNamesTheMover := by
  refine ⟨fun s seq m n hm ht => ?_, fun s seq n z ht => ?_⟩
  · split
    · exact exec_resolve_in_setup ht ‹_›
    · exact exec_resolve_unzoned ht ‹_› hm
  refine ⟨exec_resolve_in_setup ht, exec_resolve_uncraned ht, fun hs hn hz => ?_, fun hs hn hz => ?_, fun hs hn hz hz' => ?_,
      fun k hs hn hz => ⟨fun hk => ?_, fun hk out => ?_, fun hk shared inside => ?_⟩⟩
  · obtain ⟨k, hk⟩ := resolveCrane_of_small hn
    rw [exec_resolve ht hs hk, State.resolveRequest_of_unknown (s := s.taken) (.inl hz)]
    rfl
  · rw [exec_resolve ht hs (k := none) (by rw [hn]; rfl), State.resolveRequest_of_inside (s := s.taken) (by simp) hz (by simp)]
    rfl
  · rw [exec_resolve ht hs (k := none) (by rw [hn]; rfl), State.resolveRequest_of_outside (s := s.taken) (by simp) hz (.inl hz')]
    rfl
  all_goals rw [exec_resolve ht hs (hn ▸ resolveCrane_number k)]
  · rw [State.resolveRequest_of_unknown (s := s.taken) (.inr ⟨k, rfl, hk⟩)]
    rfl
  · have known : ∀ j, some k = some j → s.taken.crane j ≠ none := by rintro _ ⟨⟩; exact hk
    rw [State.resolveRequest_of_outside known hz (out.imp_right fun h => ⟨k, rfl, h⟩)]
    rfl
  · have known : ∀ j, some k = some j → s.taken.crane j ≠ none := by rintro _ ⟨⟩; exact hk
    rw [State.resolveRequest_of_inside known shared (by rintro _ ⟨⟩; exact inside)]
    rfl

end Sys2Proof.Machine
end

section
/-! SUPPORT. LINE_OFF (R141): the line that is switched off, and the guards of its crane's zones (R55). -/

namespace Sys2Proof.Machine

/-- The line after it is switched off, field by field (R86, R141, R143). -/
def Line.off (l : Line) : Line :=
  { l with
    enabled := false, link := .off, exchange := none, cycleTimer := none, nextPattern := 0, attempts := 0
    readyDeadline := none, wait := .nothing
    texts := match l.link, l.texts with
      | .online, text :: rest => { text with progress := .first } :: rest
      | _, texts => texts }

/-- The state in which LINE_OFF guards the zones: the line is off, and its link notice is on its way. -/
def State.lineOff (s : State) (k : Crane) : State := (s.modLine k Line.switchedOff).setLink k .off

section
variable (s : State) (k : Crane)

theorem State.lineOff_eq : s.lineOff k = (s.modLine k Line.off).post (.link k (s.line k).link .off) := by
  have texts : (if (s.line k).link = .online ∧ LinkState.off ≠ .online then rewind (s.line k).texts
      else (s.line k).texts) = (s.line k).off.texts := by
    unfold Line.off
    cases (s.line k).link <;> cases (s.line k).texts <;> rfl
  unfold State.lineOff State.setLink
  dsimp only
  rw [State.line_modLine_self, State.modLine_modLine]
  unfold State.modLine
  rw [show (s.line k).off = { (s.line k).off with texts := (s.line k).off.texts } from rfl, ← texts]
  rfl

theorem State.lineOff_within : Within [.lines, .notices] s (s.lineOff k) :=
  ((State.modLine_within ..).mono (by decide)).trans (State.setLinkOnly_within ..)

theorem State.line_lineOff (j : Crane) : (s.lineOff k).line j = if j = k then (s.line k).off else s.line j := by
  rw [State.lineOff_eq]
  exact State.line_modLine ..

theorem State.notices_lineOff : (s.lineOff k).notices = s.notices ++ [.link k (s.line k).link .off] := by
  rw [State.lineOff_eq]
  rfl

/-- What the guards read of the state is as before. -/
theorem State.lineOff_guards : (s.lineOff k).mode = s.mode ∧ (s.lineOff k).worked k = s.worked k ∧
    (s.lineOff k).guardsAdded k = s.guardsAdded k ∧ (s.lineOff k).guardsSkipped k = s.guardsSkipped k ∧
    (s.lineOff k).clock = s.clock ∧ ∀ z, (s.lineOff k).zone z = s.zone z ∧ (s.lineOff k).isShared z = s.isShared z ∧
      (s.lineOff k).faceIn k z = s.faceIn k z ∧ (s.lineOff k).declared[k] = s.declared[k] := by
  rw [State.lineOff_eq]
  exact ⟨rfl, rfl, rfl, rfl, rfl, fun _ => ⟨rfl, rfl, rfl, rfl⟩⟩

end

/-- A crane that guards a zone already joins nothing by joining again. -/
theorem ZoneRt.guarded_of_mem {r : ZoneRt} {k : Crane} (h : k ∈ r.guard) : r.guarded k = r := by
  rw [ZoneRt.guarded, addTo, if_pos h]

/-- What guarding a crane's zones leaves in each, and appends (R55). -/
theorem State.guardUnlessSetup_guards (s : State) (k : Crane) :
    (∀ z, (s.guardUnlessSetup k).zone z =
      if s.mode ≠ .setup ∧ s.worked k = true ∧ s.isShared z = true ∧ (s.faceIn k z).isSome = true ∧ z ∉ s.declared[k]
      then (s.zone z).guarded k else s.zone z) ∧
    s.logged (s.guardUnlessSetup k) (if s.mode = .setup ∨ s.worked k = false ∨ s.guardsAdded k = [] then []
      else [s.record .guardBegin (number k) 0 0 (s.guardsAdded k).length (s.guardsSkipped k).length]) := by
  unfold State.guardUnlessSetup
  by_cases h : s.mode ≠ .setup ∧ s.worked k = true
  · rw [if_pos h]
    refine ⟨fun z => ?_, ?_⟩
    · have added : z ∈ s.guardsAdded k ↔
          (s.isShared z = true ∧ (s.faceIn k z).isSome = true) ∧ z ∉ s.declared[k] ∧ k ∉ (s.zone z).guard := by
        simp [State.guardsAdded, State.sharedZonesOf_eq, and_comm]
      rw [State.zone_guardBegin]
      by_cases hz : k ∈ (s.zone z).guard
      · rw [ZoneRt.guarded_of_mem hz, ite_self, ite_self]
      · refine if_congr (added.trans ?_) rfl rfl
        rw [← and_assoc (a := s.mode ≠ .setup), and_iff_right h, and_assoc, and_iff_left hz]
    · simpa [h] using s.guardBegin_logged k
  · have idle : s.mode = .setup ∨ s.worked k = false := by
      by_contra hn
      obtain ⟨hm, hw⟩ := not_or.mp hn
      exact h ⟨hm, by simpa using hw⟩
    rw [if_neg h, if_pos (idle.imp_right .inl)]
    exact ⟨fun z => (if_neg fun hz => h ⟨hz.1, hz.2.1⟩).symm, State.logged_refl s⟩

/-! ## The request -/

section
variable {s : State} {seq : Byte}

theorem exec_lineOff_uncraned {n : Byte} (ht : s.takes 0x21 seq [n]) (hn : n = 0 ∨ 8 < n.toNat) :
    exec (.lineOff seq [n]) s = .next (s.refused 0x21 seq .refusedRange) := by
  refine congrArg _ ((State.serve_withLength _ ht rfl).trans ?_)
  rw [withCrane, oct_cons_zero, pick_octet_eq_none hn]
  rfl

variable {k : Crane} (ht : s.takes 0x21 seq [BitVec.ofNat 8 (number k)])
include ht

theorem exec_lineOff_of_off (hl : (s.line k).link = .off) :
    exec (.lineOff seq [BitVec.ofNat 8 (number k)]) s = .next (s.taken.answered 0x21 seq .done []) := by
  refine congrArg _ ((State.serve_withLength _ ht rfl).trans ?_)
  rw [oct_cons_zero, toNat_craneNumber, withCrane_number, State.lineOffRequest,
    if_pos (show (s.taken.line k).link = .off from hl)]
  rfl

theorem exec_lineOff_of_on (hl : (s.line k).link ≠ .off) : exec (.lineOff seq [BitVec.ofNat 8 (number k)]) s =
    .next (((s.taken.lineOff k).guardUnlessSetup k).answered 0x21 seq .done []) := by
  refine congrArg _ ((State.serve_withLength _ ht rfl).trans ?_)
  rw [oct_cons_zero, toNat_craneNumber, withCrane_number, State.lineOffRequest,
    if_neg (show (s.taken.line k).link ≠ .off from hl)]
  rfl

end

/-- Settles O33: the line goes off and tells its link first, and then its crane's zones are guarded. -/
theorem lineOffGuardsTheCranesZones : Obligations.LineOffGuardsTheCranesZones := by
  refine ⟨fun s seq n hn ht => exec_lineOff_uncraned ht hn, fun s seq k ht => ⟨exec_lineOff_of_off ht, fun hl => ?_⟩⟩
  have off := s.taken.lineOff_within k
  have guards := (s.taken.lineOff k).guardUnlessSetup_within k
  obtain ⟨zones, begun⟩ := (s.taken.lineOff k).guardUnlessSetup_guards k
  obtain ⟨mode, worked, added, skipped, clock, same⟩ := s.taken.lineOff_guards k
  refine ⟨_, exec_lineOff_of_on ht hl, (off.mono (by decide)).trans (guards.mono (by decide)), fun j hj => ?_, ?_, ?_,
    ?_, fun z => ?_⟩
  · rw [State.line, guards.same .lines (by decide)]
    exact (s.taken.line_lineOff k j).trans (if_neg hj)
  · rw [State.line, guards.same .lines (by decide)]
    exact (s.taken.line_lineOff k k).trans (if_pos rfl)
  · rw [guards.same .notices (by decide)]
    exact s.taken.notices_lineOff k
  · rw [mode, worked, added, skipped, State.record, clock] at begun
    have logged := State.logged_trans
      (State.logged_of_same (off.same .events (by decide)) (off.same .overflow (by decide))) begun
    rw [← State.sharedZonesOf_eq]
    exact logged
  · obtain ⟨zone, shared, face, declared⟩ := same z
    rw [zones, mode, worked, zone, shared, face, declared]
    rfl

end Sys2Proof.Machine
end

section
/-! SUPPORT. The messages of the Booking Scheduler at one zone, each with the course it gives the zone's record (R63, R64,
R66), and what a step has made of every zone so far. -/

namespace Sys2Proof.Machine

/-! ## Reservations at one zone -/

section
variable {s t : State} (hc : t.clock = s.clock) {z : Zone} {q : Course} (h : t.zone z = q.record) (id : Nat)
include hc h

theorem State.placeReservation_step (k : Crane) :
    t.ZoneStep z q (State.placeReservation id k t z) (q.place s z id k) := by
  have waits : (q.record.waiting.contains k && q.record.holder.isNone && q.record.sweep.isEmpty &&
      q.record.guard.isEmpty) = decide (k ∈ q.record.waiting ∧ q.record.holder = none ∧ q.record.sweep = [] ∧
        q.record.guard = []) := by
    rw [Bool.eq_iff_iff]
    simp [and_assoc, List.isEmpty_iff]
  unfold State.placeReservation Course.place
  dsimp only
  rw [h, waits]
  exact .act h hc ..

omit hc h in
theorem ZoneRt.clearFor_iff (r : ZoneRt) (k : Crane) :
    r.clearFor k = true ↔ (r.holder = none ∨ r.holder = some k) ∧ r.sweep = [] := by
  simp [ZoneRt.clearFor, List.isEmpty_iff]

theorem State.phaseActive_step : t.ZoneStep z q (State.phaseActive id t z) (q.activate s z id) := by
  unfold State.phaseActive Course.activate
  dsimp only
  rw [h]
  cases q.record.reservation with
  | none => exact .refl h
  | some v =>
    dsimp only
    refine .ite Iff.rfl (fun _ => ?_) fun _ => .refl h
    have tell : (!q.record.clearFor v.crane) = decide ¬((q.record.holder = none ∨ q.record.holder = some v.crane) ∧
        q.record.sweep = []) := by
      rw [decide_not, Bool.not_inj_iff, Bool.eq_iff_iff, ZoneRt.clearFor_iff, decide_eq_true_iff]
    rw [tell]
    exact .act h hc ..

theorem State.removeReservation_step : t.ZoneStep z q (State.removeReservation id t z) (q.unreserve s z id) := by
  unfold State.removeReservation Course.unreserve
  dsimp only
  rw [h]
  cases q.record.reservation with
  | none => exact .refl h
  | some v => exact .ite Iff.rfl (fun _ => .act h hc ..) fun _ => .refl h

end

/-- A pass at a held zone, where nothing but the reservation changes, brings nothing with it. -/
theorem Course.act_held {s : State} {z : Zone} {k : Crane} {q : Course} {r : ZoneRt} (held : r.holder ≠ none)
    (hh : r.holder = q.record.holder) (hs : r.sweep = q.record.sweep) (hi : r.inside = q.record.inside) :
    q.act s z k r true false = q.set r := by
  have pass : q.act s z k r true false = q.act s z k r false false := by
    unfold Course.act
    simp only [ZoneRt.grantPass_of_held held, ite_self]
  rw [pass, Course.act_quiet hh hs hi]

theorem ZoneRt.convert_eq (r : ZoneRt) (k : Crane) : r.convert k = r.converted k := by
  simp only [ZoneRt.convert, ZoneRt.converted, ZoneRt.admitClaims, List.filter_filter]
  congr 2
  funext j
  by_cases hj : j = k <;> simp [hj]

theorem State.phaseSuspended_step {s t : State} (hc : t.clock = s.clock) {z : Zone} {q : Course}
    (h : t.zone z = q.record) (id : Nat) : t.ZoneStep z q (State.phaseSuspended id t z) (q.suspend s z id) := by
  unfold State.phaseSuspended Course.suspend
  dsimp only
  rw [h]
  cases hv : q.record.reservation with
  | none => exact .refl h
  | some v =>
    dsimp only
    by_cases hid : v.id = id
    · rw [if_pos hid, if_neg (not_not.mpr hid)]
      by_cases ha : v.phase = .active
      · rw [if_pos ha, if_neg (not_not.mpr ha)]
        cases hh : q.record.holder with
        | none => exact .act h hc ..
        | some j =>
          dsimp only
          by_cases hj : j ∈ q.record.claims
          · rw [if_pos (by simpa using hj), if_pos hj, ZoneRt.convert_eq, ← hh]
            exact .act h hc ..
          · rw [if_neg (by simpa using hj), if_neg hj, ← hh,
              ← Course.act_held (s := s) (z := z) (k := v.crane) (by simp [hh]) (by rfl) (by rfl) (by rfl)]
            exact .act h hc ..
      · rw [if_neg ha, if_pos ha]
        exact .set _
    · rw [if_neg hid, if_pos hid]
      exact .refl h

/-! ## What has come of every zone so far -/

/-- A conflict event, of whatever zone. -/
def Event.conflicts (e : Event) : Bool := e.kind == .conflictBegin || e.kind == .conflictEnd

theorem Event.conflicts_of_isConflict {z : Zone} {e : Event} (h : e.isConflict z = true) : e.conflicts = true := by
  rcases Event.isConflict_kind h with hk | hk <;> simp [Event.conflicts, hk]

/-- Going from `s` to `t` every zone has run its course, and the events that are no conflict events are `others`. -/
structure State.Went (s : State) (course : Zone → Course) (others : List Event) (t : State) : Prop where
  clock : t.clock = s.clock
  ran : ∃ new posted, s.logged t new ∧ t.notices = s.notices ++ posted ∧ (∀ z, t.ran z (course z) new posted) ∧
    new.filter (fun e => !e.conflicts) = others

section
variable {s t u : State} {c : Zone → Course} {others : List Event}

theorem State.Went.record (h : s.Went c others t) (z : Zone) : t.zone z = (c z).record := by
  obtain ⟨_, _, -, -, ran, -⟩ := h.ran
  exact (ran z).1

theorem State.Went.start (s : State) : s.Went s.courseOf [] s :=
  ⟨rfl, [], [], State.logged_refl s, by simp, fun _ => ⟨rfl, rfl, rfl⟩, rfl⟩

/-- One zone goes on. -/
theorem State.Went.step (h : s.Went c others t) {z : Zone} {p : Course} (hz : t.ZoneStep z (c z) u p) :
    s.Went (Function.update c z p) others u := by
  obtain ⟨new, posted, logged, notices, ran, rest⟩ := h.ran
  obtain ⟨new', posted', ⟨logged', events', conflicts⟩, notices', told, names⟩ := hz.brings
  refine ⟨(hz.within.same .clock (by decide)).trans h.clock, new ++ new', posted ++ posted',
    State.logged_trans logged logged', by rw [notices', notices, List.append_assoc], fun y => ?_, ?_⟩
  · obtain ⟨record, events, notes⟩ := State.ran_iff.mp (ran y)
    rw [State.ran_iff, List.filter_append, List.filter_append, events, notes,
      filter_of_agreed fun e he => Event.isConflict_iff (conflicts e he),
      filter_of_agreed fun n hn => Notice.about_iff (names n hn)]
    by_cases hy : y = z
    · subst hy
      rw [Function.update_self, if_pos rfl, if_pos rfl]
      exact ⟨hz.record, events'.symm, told.symm⟩
    · rw [Function.update_of_ne hy, if_neg hy, if_neg hy, hz.rest y hy, List.append_nil, List.append_nil]
      exact ⟨record, rfl, rfl⟩
  · have none_else : new'.filter (fun e => !e.conflicts) = [] :=
      List.filter_eq_nil_iff.mpr fun e he => by simp [Event.conflicts_of_isConflict (conflicts e he)]
    rw [List.filter_append, rest, none_else, List.append_nil]

/-- A step that leaves the zones, the notices and the clock, and appends events that are no conflict events. -/
theorem State.Went.append (h : s.Went c others t) (ha : u.arb = t.arb) (hn : u.notices = t.notices)
    (hc : u.clock = t.clock) {new' : List Event} (hl : t.logged u new') (hk : ∀ e ∈ new', e.conflicts = false) :
    s.Went c (others ++ new') u := by
  obtain ⟨new, posted, logged, notices, ran, rest⟩ := h.ran
  refine ⟨hc.trans h.clock, new ++ new', posted, State.logged_trans logged hl, hn.trans notices, fun z => ?_, ?_⟩
  · obtain ⟨record, events, notes⟩ := State.ran_iff.mp (ran z)
    have none_else : new'.filter (Event.isConflict z) = [] := by
      refine List.filter_eq_nil_iff.mpr fun e he hz => ?_
      exact absurd (Event.conflicts_of_isConflict hz) (by simp [hk e he])
    exact State.ran_iff.mpr ⟨by rw [State.zone, ha]; exact record,
      by rw [List.filter_append, events, none_else, List.append_nil], notes⟩
  · rw [List.filter_append, rest, List.filter_eq_self.mpr fun e he => by rw [hk e he]; rfl]

/-- A step that leaves zones, notices, events and the clock. -/
theorem State.Went.keep (h : s.Went c others t) {ps : List Part} (hw : Within ps t u)
    (hp : ∀ p ∈ [Part.arb, .notices, .events, .overflow, .clock], p ∉ ps) : s.Went c others u := by
  have kept := h.append (new' := []) (hw.same .arb (hp _ (by decide))) (hw.same .notices (hp _ (by decide)))
    (hw.same .clock (hp _ (by decide)))
    (State.logged_of_same (hw.same .events (hp _ (by decide))) (hw.same .overflow (hp _ (by decide)))) (by simp)
  rwa [List.append_nil] at kept

/-- One more action at the first zone of a list. -/
theorem iterate_count_cons (act : Zone → Course → Course) (y : Zone) (l : List Zone) (c : Zone → Course) :
    (fun z => (act z)^[(y :: l).count z] (c z)) =
      fun z => (act z)^[l.count z] (Function.update c y (act y (c y)) z) := by
  funext z
  by_cases hz : z = y
  · subst hz
    rw [Function.update_self, List.count_cons_self, Function.iterate_succ_apply]
  · rw [Function.update_of_ne hz, List.count_cons_of_ne (Ne.symm hz)]

/-- Actions at the zones of a list one after another: each zone acts as often as the list names it. -/
theorem State.Went.foldl {op : State → Zone → State} {act : Zone → Course → Course}
    (steps : ∀ (v : State) (z : Zone) (q : Course), v.clock = s.clock → v.zone z = q.record → v.ZoneStep z q (op v z) (act z q)) (l : List Zone) :
    ∀ {c : Zone → Course} {t : State}, s.Went c others t →
      s.Went (fun z => (act z)^[l.count z] (c z)) others (l.foldl op t) := by
  induction l with
  | nil => exact fun h => h
  | cons y l ih =>
    intro c t h
    rw [iterate_count_cons]
    exact ih (h.step (steps t y (c y) h.clock (h.record y)))

/-- The events of a kind that is none of a conflict are found among `others`. -/
theorem filter_of_filter {new others : List Event} (h : new.filter (fun e => !e.conflicts) = others) (p : Event → Bool)
    (hp : ∀ e, p e = true → e.conflicts = false) : new.filter p = others.filter p := by
  rw [← h, List.filter_filter]
  congr 1
  funext e
  cases he : p e with
  | false => rfl
  | true => simp [hp e he]

/-- Every event is a conflict event or one of `others`. -/
theorem mem_of_filter {new others : List Event} (h : new.filter (fun e => !e.conflicts) = others) {e : Event}
    (he : e ∈ new) : (e.kind = .conflictBegin ∨ e.kind = .conflictEnd) ∨ e ∈ others := by
  cases hk : e.conflicts with
  | true => exact .inl (by simpa [Event.conflicts] using hk)
  | false => exact .inr (h ▸ List.mem_filter.mpr ⟨he, by rw [hk]; rfl⟩)

end

end Sys2Proof.Machine
end

section
/-! SUPPORT. What every action of the Zone Arbiter keeps of a zone's record: it stays well formed (R42 to R44, R60), and gains
a normal holder only where nobody guards the zone (R45, R49, R55). -/

namespace Sys2Proof.Machine

/-! ## One record -/

/-- What `State.zonesOk` asks of the record of zone `z`. -/
def State.zoneFits (s : State) (z : Zone) (r : ZoneRt) : Prop :=
  r.ok ∧ (∀ k, r.names k → (s.faceIn k z).isSome) ∧
    (s.isShared z = false → r.holder = none ∧ r.claims = [] ∧ r.waiting = [] ∧ r.guard = [] ∧ r.mover = none)

/-- From the record `r` of zone `z` an action may go to the record `a`. -/
structure State.Keeps (s : State) (z : Zone) (r a : ZoneRt) : Prop where
  fits : s.zoneFits z r → s.zoneFits z a
  guard : ∀ j ∈ a.guard, j ∈ r.guard
  holder : ∀ k, a.holder = some k → r.holder = some k ∨ a.guard = []

section
variable {s : State} {z : Zone} {r a b : ZoneRt}

theorem State.Keeps.refl (r : ZoneRt) : s.Keeps z r r := ⟨fun h => h, fun _ h => h, fun _ h => .inl h⟩

theorem State.Keeps.trans (h : s.Keeps z r a) (h' : s.Keeps z a b) : s.Keeps z r b := by
  refine ⟨fun fits => h'.fits (h.fits fits), fun j hj => h.guard j (h'.guard j hj), fun k hk => ?_⟩
  rcases h'.holder k hk with hk | free
  · refine (h.holder k hk).imp_right fun free => ?_
    exact List.eq_nil_iff_forall_not_mem.mpr fun j hj => List.not_mem_nil (free ▸ h'.guard j hj)
  · exact .inr free

/-- An action that keeps the guard set, and whose holder, if there is one, was the holder before. -/
theorem State.Keeps.of_fits (fits : s.zoneFits z r → s.zoneFits z a) (guard : ∀ j ∈ a.guard, j ∈ r.guard)
    (holder : a.holder = r.holder ∨ a.holder = none) : s.Keeps z r a := by
  refine ⟨fits, guard, fun k hk => .inl ?_⟩
  rcases holder with e | e
  · exact e.symm.trans hk
  · exact absurd (e.symm.trans hk) (by simp)

/-! ## The grant pass (R49) -/

/-- Nobody who waits or claims: the pass has nobody to grant the zone to, or to let sweep. -/
theorem ZoneRt.grantPass_of_unwanted (hc : r.claims = []) (hw : r.waiting = []) : r.grantPass = r := by
  unfold ZoneRt.grantPass ZoneRt.grantNext
  cases hv : r.reservation <;> simp [hc, hw]

/-- The pass makes a crane the holder only of a zone that nobody guards. -/
theorem ZoneRt.grantNext_holder {k : Crane} (h : r.grantNext.holder = some k) : r.holder = some k ∨ r.guard = [] := by
  by_cases hg : r.guard = []
  · exact .inr hg
  · rw [ZoneRt.grantNext_of_guarded hg] at h
    exact .inl h

theorem ZoneRt.grantPass_holder {k : Crane} (h : r.grantPass.holder = some k) : r.holder = some k ∨ r.guard = [] := by
  unfold ZoneRt.grantPass at h
  split at h
  · exact .inl h
  split at h
  · exact ZoneRt.grantNext_holder (r := r.admitClaims) h
  · exact ZoneRt.grantNext_holder h

theorem State.Keeps.pass (r : ZoneRt) : s.Keeps z r r.grantPass := by
  refine ⟨fun ⟨ok, faces, plain⟩ => ⟨ZoneRt.ok_grantPass ok, fun k hk => faces k (ZoneRt.names_grantPass hk), fun hz => ?_⟩,
    fun j hj => r.grantPass_passed.guard ▸ hj, fun k hk => ?_⟩
  · obtain ⟨holder, claims, waiting, rest⟩ := plain hz
    rw [ZoneRt.grantPass_of_unwanted claims waiting]
    exact ⟨holder, claims, waiting, rest⟩
  · rw [r.grantPass_passed.guard]
    exact ZoneRt.grantPass_holder hk

/-! ## The changes that an action makes itself -/

theorem State.Keeps.reserve (r : ZoneRt) (v : Option Reservation) : s.Keeps z r { r with reservation := v } :=
  ⟨fun h => h, fun _ h => h, fun _ h => .inl h⟩

theorem State.Keeps.unguard (r : ZoneRt) (k : Crane) : s.Keeps z r { r with guard := r.guard.filter (· != k) } := by
  refine .of_fits (fun ⟨ok, faces, plain⟩ => ⟨ok, fun j hj => faces j ?_, fun hz => ?_⟩)
    (fun j hj => List.mem_of_mem_filter hj) (.inl rfl)
  · simp only [ZoneRt.names, List.mem_filter] at hj ⊢
    tauto
  · obtain ⟨holder, claims, waiting, guard, mover⟩ := plain hz
    exact ⟨holder, claims, waiting, by simp [guard], mover⟩

theorem State.Keeps.release (r : ZoneRt) : s.Keeps z r { r with holder := none } :=
  .of_fits (fun ⟨ok, faces, plain⟩ => ⟨ZoneRt.ok_release ok,
    fun j hj => faces j (.inr (hj.resolve_left (by simp))), fun hz => ⟨rfl, (plain hz).2⟩⟩) (fun _ h => h) (.inr rfl)

theorem State.Keeps.withdraw (r : ZoneRt) (k : Crane) :
    s.Keeps z r (({ r with waiting := r.waiting.filter (· != k) } : ZoneRt).dropMover k) := by
  rw [ZoneRt.dropMover_eq]
  refine .of_fits (fun ⟨ok, faces, plain⟩ => ⟨?_, fun j hj => faces j ?_, fun hz => ?_⟩) (fun _ h => h) (.inl rfl)
  · rw [← ZoneRt.dropMover_eq]
    obtain ⟨nodup, held, swept, claimed, mover⟩ := ok
    exact ZoneRt.ok_dropMover k ⟨nodup.filter _, fun j hj => ⟨fun h => (held j hj).1 (List.mem_of_mem_filter h), (held j hj).2⟩,
      fun j hj h => swept j hj (List.mem_of_mem_filter h), claimed, mover⟩
  · rw [← ZoneRt.dropMover_eq] at hj
    have := ZoneRt.names_dropMover hj
    simp only [ZoneRt.names, List.mem_filter] at this ⊢
    tauto
  · obtain ⟨holder, claims, waiting, guard, mover⟩ := plain hz
    exact ⟨holder, claims, by simp [waiting], guard, by simp [mover]⟩

theorem State.Keeps.withdrawSweep (r : ZoneRt) (k : Crane) : s.Keeps z r (r.withdrawSweep k) :=
  .of_fits (fun ⟨ok, faces, plain⟩ => ⟨ZoneRt.ok_withdrawSweep k ok, fun j hj => faces j (ZoneRt.names_withdrawSweep hj),
    fun hz => ⟨(plain hz).1, by simp [ZoneRt.withdrawSweep, (plain hz).2.1], (plain hz).2.2⟩⟩) (fun _ h => h) (.inl rfl)

theorem State.Keeps.remove (r : ZoneRt) (k : Crane) : s.Keeps z r (r.remove k) := by
  refine .of_fits (fun ⟨ok, faces, plain⟩ => ⟨ZoneRt.ok_remove k ok, fun j hj => faces j (ZoneRt.names_remove hj),
    fun hz => ?_⟩) (fun j hj => List.mem_of_mem_filter hj) ?_
  · obtain ⟨holder, claims, waiting, guard, mover⟩ := plain hz
    simp [ZoneRt.remove, holder, claims, waiting, guard, mover]
  · unfold ZoneRt.remove
    dsimp only
    split
    · exact .inr rfl
    · exact .inl rfl

theorem State.Keeps.insideRemove (r : ZoneRt) (k : Crane) :
    s.Keeps z r (({ r with inside := r.inside.filter (· != k) } : ZoneRt).dropMover k) := by
  rw [ZoneRt.dropMover_eq]
  refine .of_fits (fun ⟨ok, faces, plain⟩ => ⟨?_, fun j hj => faces j ?_, fun hz => ?_⟩) (fun _ h => h) (.inl rfl)
  · obtain ⟨nodup, held, swept, claimed, mover⟩ := ok
    refine ⟨nodup, held, swept, claimed, fun j hj => ?_⟩
    dsimp only at hj
    split at hj
    · exact absurd hj (by simp)
    · rename_i other
      exact List.mem_filter.mpr ⟨mover j hj, by simpa using fun e : j = k => other (e ▸ hj)⟩
  · rw [← ZoneRt.dropMover_eq] at hj
    have := ZoneRt.names_dropMover hj
    simp only [ZoneRt.names, List.mem_filter] at this ⊢
    tauto
  · obtain ⟨holder, claims, waiting, guard, mover⟩ := plain hz
    exact ⟨holder, claims, waiting, guard, by simp [mover]⟩

/-- What DECLARE, a sweep withdrawal and an inside-set update do at a restricted zone. -/
theorem State.Keeps.restricted (hz : s.isShared z = false) {inside sweep : List Crane}
    (hi : ∀ j ∈ inside, j ∈ r.inside ∨ (s.faceIn j z).isSome) (hs : ∀ j ∈ sweep, j ∈ r.sweep ∨ (s.faceIn j z).isSome) :
    s.Keeps z r { r with inside := inside, sweep := sweep } := by
  refine .of_fits (fun ⟨ok, faces, plain⟩ => ?_) (fun _ h => h) (.inl rfl)
  obtain ⟨holder, claims, waiting, guard, mover⟩ := plain hz
  refine ⟨⟨ok.1, by simp [holder], by simp [waiting], by simp [claims], by simp [mover]⟩, fun j hj => ?_,
    fun _ => ⟨holder, claims, waiting, guard, mover⟩⟩
  rcases hj with h | h | h | h | h | h | h
  · exact faces j (.inl h)
  · exact (hs j h).elim (fun h => faces j (.inr (.inl h))) fun h => h
  · exact faces j (.inr (.inr (.inl h)))
  · exact faces j (.inr (.inr (.inr (.inl h))))
  · exact faces j (.inr (.inr (.inr (.inr (.inl h)))))
  · exact (hi j h).elim (fun h => faces j (.inr (.inr (.inr (.inr (.inr (.inl h))))))) fun h => h
  · exact faces j (.inr (.inr (.inr (.inr (.inr (.inr h))))))

/-- A request leaves the guard set, and makes *k* the holder only of a zone that nobody guards. -/
theorem ZoneRt.request_keeps (r : ZoneRt) (k : Crane) : (r.request k).guard = r.guard ∧
    ∀ j, (r.request k).holder = some j → r.holder = some j ∨ r.guard = [] := by
  by_cases hg : r.grantsNow k = true
  · rw [ZoneRt.request_of_grants hg]
    exact ⟨rfl, fun _ _ => .inr ((ZoneRt.grantsNow_iff ..).mp hg).2.2.1⟩
  · rw [ZoneRt.request_of_waits hg]
    exact ⟨rfl, fun _ h => .inl h⟩

/-- The guard set stays, and the holder stays or is gone. -/
theorem ZoneRt.claim_keeps (r : ZoneRt) (k : Crane) :
    (r.claim k).guard = r.guard ∧ ((r.claim k).holder = r.holder ∨ (r.claim k).holder = none) := by
  unfold ZoneRt.claim
  split
  · exact ⟨rfl, .inl rfl⟩
  split
  · exact ⟨rfl, .inl rfl⟩
  split
  · exact ⟨rfl, .inl rfl⟩
  split
  · exact ⟨rfl, .inr rfl⟩
  · exact ⟨rfl, .inl rfl⟩

section
variable {k : Crane} (face : (s.faceIn k z).isSome = true)
include face

theorem State.Keeps.insideAdd (r : ZoneRt) : s.Keeps z r { r with inside := addTo k r.inside } := by
  refine .of_fits (fun ⟨ok, faces, plain⟩ => ⟨?_, fun j hj => ?_, plain⟩) (fun _ h => h) (.inl rfl)
  · obtain ⟨nodup, held, swept, claimed, mover⟩ := ok
    exact ⟨nodup, held, swept, claimed, fun j hj => (mem_addTo ..).mpr (.inr (mover j hj))⟩
  · by_cases hk : j = k
    · exact hk ▸ face
    · exact faces j (by simpa [ZoneRt.names, hk] using hj)

variable (shared : s.isShared z = true)
include shared

theorem State.Keeps.request (h : r.involves k = false) : s.Keeps z r (r.request k) :=
  ⟨fun ⟨ok, faces, _⟩ => ⟨ZoneRt.ok_request k ok h, fun j hj => (ZoneRt.names_request hj).elim (faces j) fun e => e ▸ face,
    by simp [shared]⟩, fun _ hj => (r.request_keeps k).1 ▸ hj, fun _ hj => (r.request_keeps k).1 ▸ (r.request_keeps k).2 _ hj⟩

theorem State.Keeps.claim (r : ZoneRt) : s.Keeps z r (r.claim k) :=
  .of_fits (fun ⟨ok, faces, _⟩ => ⟨ZoneRt.ok_claim k ok, fun j hj => (ZoneRt.names_claim hj).elim (faces j) fun e => e ▸ face,
    by simp [shared]⟩) (fun _ h => (ZoneRt.claim_keeps r k).1 ▸ h) (ZoneRt.claim_keeps r k).2

end

/-- The holder itself converts. -/
theorem State.Keeps.convert {k : Crane} (h : r.holder = some k) : s.Keeps z r (r.convert k) := by
  refine .of_fits (fun ⟨ok, faces, plain⟩ => ⟨ZoneRt.ok_convert k ok, fun j hj => ?_, fun hz => ?_⟩) (fun _ h => h) (.inr rfl)
  · exact (ZoneRt.names_convert hj).elim (faces j) fun e => faces j (.inl (e ▸ h))
  · exact absurd (h.symm.trans (plain hz).1) (by simp)

end

end Sys2Proof.Machine
end

section
/-! SUPPORT. The zone records through the operations of the Zone Arbiter, the evaluation, the composition and the reviews. -/

namespace Sys2Proof.Machine

/-! ## Steps that keep every zone's record -/

/-- Going from `s` to `t` every zone's record has gone where an action may take it. -/
structure State.ZonesKept (s t : State) : Prop where
  zones : t.zones = s.zones
  kept : ∀ z, s.Keeps z (s.zone z) (t.zone z)

section
variable {s t u : State}

theorem State.faceIn_congr (h : t.zones = s.zones) (k : Crane) (z : Zone) : t.faceIn k z = s.faceIn k z := by
  simp only [State.faceIn, State.zoneDef, h]

theorem State.isShared_congr (h : t.zones = s.zones) (z : Zone) : t.isShared z = s.isShared z := by
  simp only [State.isShared, State.zoneDef, h]

theorem State.zoneFits_congr (h : t.zones = s.zones) (z : Zone) (r : ZoneRt) : t.zoneFits z r ↔ s.zoneFits z r := by
  simp only [State.zoneFits, State.faceIn_congr h, State.isShared_congr h]

theorem State.Keeps.congr (h : t.zones = s.zones) {z : Zone} {r a : ZoneRt} (hk : t.Keeps z r a) : s.Keeps z r a :=
  ⟨fun fits => (State.zoneFits_congr h z a).mp (hk.fits ((State.zoneFits_congr h z r).mpr fits)), hk.guard, hk.holder⟩

theorem State.ZonesKept.of_same (hz : t.zones = s.zones) (ha : t.arb = s.arb) : s.ZonesKept t := by
  refine ⟨hz, fun z => ?_⟩
  rw [State.zone, State.zone, ha]
  exact .refl _

theorem State.ZonesKept.of_within {ps : List Part} (h : Within ps s t) (hp : ∀ p ∈ [Part.arb, .zones], p ∉ ps) :
    s.ZonesKept t := .of_same (h.same .zones (hp _ (by decide))) (h.same .arb (hp _ (by decide)))

theorem State.ZonesKept.refl (s : State) : s.ZonesKept s := .of_same rfl rfl

theorem State.ZonesKept.trans (h : s.ZonesKept t) (h' : t.ZonesKept u) : s.ZonesKept u :=
  ⟨h'.zones.trans h.zones, fun z => (h.kept z).trans ((h'.kept z).congr h.zones)⟩

theorem State.ZonesKept.ite {c : Prop} [Decidable c] (h : c → s.ZonesKept t) (h' : ¬ c → s.ZonesKept u) :
    s.ZonesKept (if c then t else u) := by
  split
  · exact h ‹_›
  · exact h' ‹_›

theorem State.ZonesKept.foldl {α : Type} {f : State → α → State} (l : List α) :
    ∀ {s : State}, (∀ v : State, v.zones = s.zones → ∀ a ∈ l, v.ZonesKept (f v a)) → s.ZonesKept (l.foldl f s) := by
  induction l with
  | nil => exact fun _ => .refl _
  | cons a l ih =>
    intro s h
    have first := h s rfl a List.mem_cons_self
    exact first.trans (ih fun v hv b hb => h v (hv.trans first.zones) b (List.mem_cons_of_mem _ hb))

end

section
variable (s : State) {z : Zone} {k : Crane}

theorem State.setZone_kept {r : ZoneRt} (h : s.Keeps z (s.zone z) r) : s.ZonesKept (s.setZone z r) := by
  refine ⟨rfl, fun y => ?_⟩
  rw [State.zone_setZone]
  split
  · rename_i hy
    exact hy ▸ h
  · exact .refl _

theorem State.settle_kept {r : ZoneRt} (h : s.Keeps z (s.zone z) r) (j : Crane) (p : ZoneRt) (pass tell : Bool) :
    s.ZonesKept (s.settle z j p r pass tell) := by
  refine ⟨(State.settle_within ..).same .zones (by decide), fun y => ?_⟩
  rw [State.zone_settle]
  split
  · rename_i hy
    subst hy
    split
    · exact h.trans (.pass r)
    · exact h
  · exact .refl _

/-! ## The actions at one zone -/

theorem State.withdrawZone_kept : s.ZonesKept (s.withdrawZone z k) :=
  .ite (fun _ => s.setZone_kept (.withdraw _ k)) fun _ => .refl s

theorem State.releaseZone_kept : s.ZonesKept (s.releaseZone z k) :=
  .ite (fun _ => s.settle_kept (.release _) ..) fun _ => .refl s

theorem State.unguardZone_kept : s.ZonesKept (State.unguardZone k s z) :=
  .ite (fun _ => s.settle_kept (.unguard _ k) ..) fun _ => .refl s

theorem State.insideRemove_kept : s.ZonesKept (s.insideRemove z k) := by
  refine .ite (fun _ => .ite (fun _ => s.settle_kept (.insideRemove _ k) ..) fun hz => ?_) fun _ => .refl s
  exact (s.setZone_kept (.restricted (by simpa using hz) (fun j hj => .inl (List.mem_of_mem_filter hj))
    fun j hj => .inl hj)).trans (.of_within (State.post_within ..) (by decide))

theorem State.withdrawSweepZone_kept : s.ZonesKept (State.withdrawSweepZone k s z) :=
  .ite (fun _ => s.settle_kept (.withdrawSweep _ k) ..) fun hz => s.setZone_kept (.restricted (by simpa using hz)
    (fun j hj => .inl hj) fun j hj => .inl (List.mem_of_mem_filter hj))

theorem State.declareZone_kept : s.ZonesKept (State.declareZone k s z) := by
  have listed : s.ZonesKept (s.setDeclared k (addTo z s.declared[k])) :=
    .of_within (State.setDeclared_within ..) (by decide)
  refine listed.trans (.ite (fun _ => State.settle_kept _ (.remove _ k) ..) fun hz => ?_)
  exact State.setZone_kept _ (.restricted (by simpa using hz) (fun j hj => .inl (List.mem_of_mem_filter hj))
    fun j hj => .inl (List.mem_of_mem_filter hj))

section
variable (face : (s.faceIn k z).isSome = true)
include face

theorem State.insideAdd_kept : s.ZonesKept (s.insideAdd z k) :=
  .ite (fun _ => .refl s) fun _ => .ite (fun _ => s.settle_kept (.insideAdd face _) ..)
    fun _ => s.setZone_kept (.insideAdd face _)

theorem State.requestZone_kept (shared : s.isShared z = true) : s.ZonesKept (s.requestZone z k) :=
  .ite (fun _ => .refl s) fun h => s.settle_kept (.request face shared (Bool.eq_false_of_not_eq_true h)) ..

theorem State.claimZone_kept : s.ZonesKept (State.claimZone k s z) := by
  refine .ite (fun shared => s.settle_kept (.claim face shared _) ..) fun hz => ?_
  refine s.setZone_kept (.restricted (by simpa using hz) (fun j hj => .inl hj) fun j hj => ?_)
  rcases (mem_addTo k j _).mp hj with rfl | hj
  · exact .inr face
  · exact .inl hj

end

/-! ## Reservations and reviews -/

theorem State.placeReservation_kept (id : Nat) : s.ZonesKept (State.placeReservation id k s z) :=
  s.settle_kept (.reserve ..) ..

theorem State.phaseActive_kept (id : Nat) : s.ZonesKept (State.phaseActive id s z) := by
  unfold State.phaseActive
  dsimp only
  split
  · exact .refl s
  · exact .ite (fun _ => s.settle_kept (.reserve ..) ..) fun _ => .refl s

theorem State.phaseSuspended_kept (id : Nat) : s.ZonesKept (State.phaseSuspended id s z) := by
  unfold State.phaseSuspended
  dsimp only
  split
  · exact .refl s
  · refine .ite (fun _ => .ite (fun _ => ?_) fun _ => s.setZone_kept (.reserve ..)) fun _ => .refl s
    split
    · exact s.settle_kept (.reserve ..) ..
    · rename_i held
      refine .ite (fun _ => s.settle_kept ?_ ..) fun _ => s.settle_kept (.reserve ..) ..
      exact (State.Keeps.reserve ..).trans (.convert held)

theorem State.removeReservation_kept (id : Nat) : s.ZonesKept (State.removeReservation id s z) := by
  unfold State.removeReservation
  dsimp only
  split
  · exact .refl s
  · exact .ite (fun _ => s.settle_kept (.reserve ..) ..) fun _ => .refl s

theorem State.move_kept (b : Booking) (state : BookingState) (cause : BookingCause) :
    s.ZonesKept (s.move b state cause) := .of_within (State.moveOnly_within ..) (by decide)

theorem State.leaveReserving_kept (b : Booking) (state : BookingState) (cause : BookingCause) :
    s.ZonesKept (s.leaveReserving b state cause) :=
  (s.move_kept b state cause).trans (.foldl _ fun v _ _ _ => v.removeReservation_kept b.id)

theorem State.activate_kept (b : Booking) (cause : BookingCause) : s.ZonesKept (s.activate b cause) :=
  (s.move_kept b .active cause).trans (.foldl _ fun v _ _ _ => v.phaseActive_kept b.id)

theorem State.reviewCalling_kept (wrap : Bool) (b : Booking) : s.ZonesKept (s.reviewCalling wrap b) :=
  .ite (fun _ => s.leaveReserving_kept ..) fun _ => .ite (fun _ => s.activate_kept ..) fun _ => .refl s

theorem State.call_kept (wrap : Bool) (b : Booking) : s.ZonesKept (s.call wrap b) :=
  ((s.move_kept b .calling .called).trans (.foldl _ fun v _ _ _ => v.placeReservation_kept b.id)).trans
    (State.reviewCalling_kept ..)

theorem State.reviewBooked_kept (wrap : Bool) (b : Booking) : s.ZonesKept (s.reviewBooked wrap b) :=
  .ite (fun _ => .refl s) fun _ => .ite (fun _ => s.move_kept ..) fun _ =>
    .ite (fun _ => s.call_kept ..) fun _ => .refl s

theorem State.reviewActive_kept (wrap : Bool) (b : Booking) : s.ZonesKept (s.reviewActive wrap b) := by
  refine .ite (fun _ => s.leaveReserving_kept ..) fun _ => ?_
  split
  · exact .refl s
  · exact (s.move_kept ..).trans (.foldl _ fun v _ _ _ => v.phaseSuspended_kept b.id)

theorem State.reviewSuspended_kept (wrap : Bool) (b : Booking) : s.ZonesKept (s.reviewSuspended wrap b) :=
  .ite (fun _ => s.leaveReserving_kept ..) fun _ => .ite (fun _ => s.activate_kept ..) fun _ => .refl s

theorem State.review_kept (wrap : Bool) (id : Nat) : s.ZonesKept (State.review wrap s id) := by
  refine .ite (fun _ => .refl s) fun _ => ?_
  split
  · exact .refl s
  · split
    · exact s.reviewBooked_kept ..
    · exact s.reviewCalling_kept ..
    · exact s.reviewActive_kept ..
    · exact s.reviewSuspended_kept ..
    · exact .ite (fun _ => .refl s) fun _ => s.move_kept ..
    all_goals exact .refl s

theorem State.reviewAll_kept (wrap : Bool) (order : List Nat) (p : Booking → Bool) :
    s.ZonesKept (s.reviewAll wrap order p) := .foldl _ fun v _ id _ => v.review_kept wrap id

theorem State.cancelBooking_kept (b : Booking) : s.ZonesKept (s.cancelBooking b) := by
  unfold State.cancelBooking
  split
  case h_1 | h_5 => exact s.move_kept ..
  case h_2 | h_3 | h_4 => exact s.leaveReserving_kept ..
  all_goals exact .refl s

/-! ## The evaluation (R33 to R36) -/

theorem State.postInside_kept {f : FaceState} (face : (s.faceIn k f.zone).isSome = true) :
    s.ZonesKept (s.postInside k f) := .ite (fun _ => s.insideAdd_kept face) fun _ => s.insideRemove_kept

theorem State.setClearSince_kept (k : Crane) (z : Zone) (v : Option Moment) : s.ZonesKept (s.setClearSince k z v) :=
  .of_within (State.setFaces_within ..) (by decide)

theorem State.dwell_kept (f : FaceState) : s.ZonesKept (s.dwell k f) :=
  .ite (fun _ => (s.setClearSince_kept ..).trans (State.releaseZone_kept _)) fun _ => s.setClearSince_kept ..

theorem State.faceActions_kept {f : FaceState} (face : (s.faceIn k f.zone).isSome = true) :
    s.ZonesKept (State.faceActions k s f) := by
  have seen := s.postInside_kept face
  have marked := seen.trans (State.setClearSince_kept _ k f.zone none)
  refine .ite (fun shared => .ite (fun _ => .ite (fun _ => ?_) fun _ => ?_) fun _ => .ite (fun _ => marked) fun _ => ?_)
    fun _ => marked
  · exact (seen.trans (State.withdrawZone_kept _)).trans (State.dwell_kept _ f)
  · exact (seen.trans (State.withdrawZone_kept _)).trans (State.setClearSince_kept ..)
  · refine marked.trans (State.requestZone_kept _ ?_ shared)
    rwa [State.faceIn_congr marked.zones]

theorem State.guardEnd_kept : s.ZonesKept (s.guardEnd k) := by
  have ended : s.ZonesKept ((allZones.filter fun z => (s.zone z).guard.contains k).foldl (State.unguardZone k) s) :=
    .foldl _ fun v _ _ _ => v.unguardZone_kept
  exact .ite (fun _ => .refl s) fun _ => ended.trans (.of_within (State.emitCrane_within ..) (by decide))

theorem State.firstEvaluation_kept : s.ZonesKept (s.firstEvaluation k) :=
  .ite (fun _ => (State.ZonesKept.of_within (State.modLine_within s k _) (by decide)).trans (State.guardEnd_kept _))
    fun _ => .refl s

theorem State.evaluate_kept (r : Report) : s.ZonesKept (s.evaluate k r) := by
  have written : s.ZonesKept (s.setFaces k (s.faceStates k r)) := .of_within (State.setFaces_within ..) (by decide)
  refine .ite (fun _ => written) fun _ => (written.trans (State.firstEvaluation_kept _)).trans (.foldl _ fun v hv f hf => ?_)
  have zone : f.zone ∈ s.zonesOf k := State.faceStates_zones s k r ▸ List.mem_map_of_mem hf
  refine State.faceActions_kept v ?_
  rw [State.faceIn_congr (hv.trans (written.trans (State.firstEvaluation_kept _)).zones)]
  exact (List.mem_filter.mp zone).2

/-! ## The composition (R77 to R80) and the cycle expiry (R136) -/

theorem State.mem_zonesOf_face {z : Zone} (h : z ∈ s.zonesOf k) : (s.faceIn k z).isSome = true := (List.mem_filter.mp h).2

theorem State.sendClaims_kept : s.ZonesKept (s.sendClaims k) := by
  refine .foldl _ fun v hv z hz => v.claimZone_kept ?_
  rw [State.faceIn_congr hv]
  exact s.mem_zonesOf_face (List.mem_filter.mp hz).1

theorem State.withdrawSweeps_kept : s.ZonesKept (s.withdrawSweeps k) :=
  .foldl _ fun v _ _ _ => v.withdrawSweepZone_kept

theorem State.VaneStep.kept {t : State} (h : State.VaneStep k s t) : s.ZonesKept t := .of_within h.within (by decide)

theorem State.weathervane_kept : s.ZonesKept (s.weathervane k) := by
  refine .ite (fun _ => ?_) fun _ => ?_
  · have begun := State.VaneStep.kept s (s.beginEpisode_step k)
    refine begun.trans (.ite (fun _ => (State.becomeActive_step ..).kept) fun _ => ?_)
    exact (State.sendClaims_kept _).trans
      (((State.VaneStep.ite (State.becomeActive_step ..) (State.becomePending_step ..)).trans
        (State.vaneAlarm_step ..)).kept)
  · refine .ite (fun _ => .refl s) fun _ => ?_
    exact State.ZonesKept.trans (.ite (fun _ => .refl s) fun _ => s.withdrawSweeps_kept)
      (State.VaneStep.emit _ _ (by decide) ..).kept

theorem State.evaluateAndPoll_kept : s.ZonesKept (s.evaluateAndPoll k) := by
  unfold State.evaluateAndPoll
  refine ((?_ : s.ZonesKept _).trans (State.weathervane_kept _)).trans (.of_within (State.sendPoll_parts ..) (by decide))
  split
  · exact .refl s
  · exact s.evaluate_kept _

theorem State.cycleExpires_kept : s.ZonesKept (s.cycleExpires k) := by
  unfold State.cycleExpires
  split
  · exact .refl s
  · rename_i due _
    refine .ite (fun _ => ?_) fun _ => .refl s
    have ended : s.ZonesKept ((s.reach due).endIncomplete k) :=
      (State.ZonesKept.of_within (s.reach_within due) (by decide)).trans
        (.of_within (State.endIncomplete_within ..) (by decide))
    exact .ite (fun _ => (ended.trans (.of_within (State.startCycle_within ..) (by decide))).trans
      (State.evaluateAndPoll_kept _)) fun _ => ended

end

end Sys2Proof.Machine
end

section
/-! SUPPORT. The zone records in SETUP, where they stay empty (R68), and through every command. -/

namespace Sys2Proof.Machine

/-! ## Steps in SETUP -/

section
variable {s t : State}

theorem State.zone_congr (h : t.arb = s.arb) (z : Zone) : t.zone z = s.zone z := by rw [State.zone, h, State.zone]

/-- An empty record holds no reservation to be removed or to change its phase. -/
theorem State.removeReservation_of_empty (h : ∀ z, s.zone z = .empty) (id : Nat) (z : Zone) :
    State.removeReservation id s z = s := by
  unfold State.removeReservation
  simp only [h z, ZoneRt.empty]

theorem State.phaseSuspended_of_empty (h : ∀ z, s.zone z = .empty) (id : Nat) (z : Zone) :
    State.phaseSuspended id s z = s := by
  unfold State.phaseSuspended
  simp only [h z, ZoneRt.empty]

/-- Steps that each leave a state with empty records as it is. -/
theorem State.foldl_of_empty {f : State → Zone → State} (hf : ∀ z, f s z = s) (l : List Zone) : l.foldl f s = s := by
  induction l with
  | nil => rfl
  | cons z l ih => rw [List.foldl_cons, hf, ih]

theorem State.move_arb (s : State) (b : Booking) (state : BookingState) (cause : BookingCause) :
    (s.move b state cause).arb = s.arb := (State.moveOnly_within ..).same .arb (by decide)

theorem State.leaveReserving_of_empty (h : ∀ z, s.zone z = .empty) (b : Booking) (state : BookingState)
    (cause : BookingCause) : (s.leaveReserving b state cause).arb = s.arb := by
  have moved : ∀ z, (s.move b state cause).zone z = .empty := fun z => (State.zone_congr (s.move_arb ..) z).trans (h z)
  unfold State.leaveReserving State.dropReservations
  rw [State.foldl_of_empty fun z => State.removeReservation_of_empty moved b.id z, State.move_arb]

theorem State.cancelBooking_of_empty (h : ∀ z, s.zone z = .empty) (b : Booking) : (s.cancelBooking b).arb = s.arb := by
  unfold State.cancelBooking
  split
  case h_1 | h_5 => exact s.move_arb ..
  case h_2 | h_3 | h_4 => exact State.leaveReserving_of_empty h ..
  all_goals rfl

/-- In SETUP no booking can be called, become ACTIVE or resume (R111): its reviews leave empty records empty. -/
theorem State.review_of_empty (hs : s.mode = .setup) (h : ∀ z, s.zone z = .empty) (wrap : Bool) (id : Nat) :
    (State.review wrap s id).arb = s.arb := by
  have hold : ∀ b, s.callFailure b = some .hold := fun b => if_pos (by simp [hs])
  unfold State.review
  split
  · rfl
  split
  · rfl
  · rename_i b _
    split
    · unfold State.reviewBooked
      rw [hold]
      split
      · rfl
      split
      · exact s.move_arb ..
      · rfl
    · unfold State.reviewCalling
      rw [hold]
      split
      · exact State.leaveReserving_of_empty h ..
      · rfl
    · unfold State.reviewActive
      rw [hold]
      split
      · exact State.leaveReserving_of_empty h ..
      · have moved : ∀ z, (s.move b .suspended .hold).zone z = .empty :=
          fun z => (State.zone_congr (s.move_arb ..) z).trans (h z)
        dsimp only
        rw [State.foldl_of_empty fun z => State.phaseSuspended_of_empty moved b.id z, State.move_arb]
    · unfold State.reviewSuspended
      rw [hold]
      split
      · exact State.leaveReserving_of_empty h ..
      · rfl
    · unfold State.reviewClosing
      split
      · rfl
      · exact s.move_arb ..
    all_goals rfl

theorem State.reviewAll_of_empty (hs : s.mode = .setup) (h : ∀ z, s.zone z = .empty) (wrap : Bool) (order : List Nat)
    (p : Booking → Bool) : (s.reviewAll wrap order p).arb = s.arb := by
  unfold State.reviewAll
  generalize inOrder order _ = l
  induction l generalizing s with
  | nil => rfl
  | cons id l ih =>
    have first := State.review_of_empty hs h wrap id
    have mode : (State.review wrap s id).mode = s.mode := (State.review_within ..).same .mode (by decide)
    rw [List.foldl_cons, ih (mode.trans hs) fun z => (State.zone_congr first z).trans (h z), first]

/-- In SETUP a cycle expiry takes no zone action (R21, R78, R80). -/
theorem State.evaluateAndPoll_of_setup (hs : s.mode = .setup) (k : Crane) : (s.evaluateAndPoll k).arb = s.arb := by
  have evaluated : ∀ r, s.evaluate k r = s.setFaces k (s.faceStates k r) := fun r => if_pos hs
  have vane : ∀ t : State, t.mode = .setup → (t.weathervane k).arb = t.arb := by
    intro t ht
    unfold State.weathervane
    split
    · have begun := (t.beginEpisode_step k).within
      unfold State.vaneHolds
      dsimp only
      rw [if_pos ((begun.same .mode (by decide)).trans ht), (State.becomeActive_step ..).within.same .arb (by decide),
        begun.same .arb (by decide)]
    · unfold State.vaneEnds
      dsimp only
      rw [if_pos ht]
      split
      · rfl
      · exact (State.VaneStep.emit _ _ (by decide) ..).within.same .arb (by decide)
  unfold State.evaluateAndPoll
  dsimp only
  rw [(State.sendPoll_parts ..).same .arb (by decide)]
  split
  · exact vane s hs
  · rw [evaluated]
    exact vane _ hs

theorem State.cycleExpires_of_setup (hs : s.mode = .setup) (k : Crane) : (s.cycleExpires k).arb = s.arb := by
  unfold State.cycleExpires
  split
  · rfl
  split
  · rename_i due _ _
    have ended : Within (.msCount :: lineParts) s ((s.reach due).endIncomplete k) :=
      ((s.reach_within due).mono (by decide)).trans ((State.endIncomplete_within ..).mono (by decide))
    have cycled := ended.trans ((State.startCycle_within ((s.reach due).endIncomplete k) k).mono (by decide))
    unfold State.expireCycle
    dsimp only
    split
    · rw [State.evaluateAndPoll_of_setup ((cycled.same .mode (by decide)).trans hs), cycled.same .arb (by decide)]
    · exact ended.same .arb (by decide)
  · rfl

end

/-! ## What every command keeps of the zones -/

/-- Going from `s` to `t` the zones are defined as before and the mode is the same; every record stays well formed, and empty
in SETUP; and no guarded zone has gained a holder. -/
structure State.ZonesSound (s t : State) : Prop where
  zones : t.zones = s.zones
  mode : t.mode = s.mode
  fits : ∀ z, s.zoneFits z (s.zone z) → s.zoneFits z (t.zone z)
  holder : ∀ z k, (t.zone z).holder = some k → (s.zone z).holder = some k ∨ (t.zone z).guard = []
  empty : s.mode = .setup → (∀ z, s.zone z = .empty) → ∀ z, t.zone z = .empty
  declared : s.mode = .setup → ∀ k : Crane, s.declared[k] = [] → t.declared[k] = []

section
variable {s t u : State}

theorem State.ZonesKept.sound (h : s.ZonesKept t) (hm : t.mode = s.mode) (hd : t.declared = s.declared)
    (ha : s.mode = .setup → (∀ z, s.zone z = .empty) → t.arb = s.arb) : s.ZonesSound t :=
  ⟨h.zones, hm, fun z => (h.kept z).fits, fun z => (h.kept z).holder,
    fun hs he z => (State.zone_congr (ha hs he) z).trans (he z), fun _ k hk => by rw [hd, hk]⟩

theorem State.ZonesSound.of_within {ps : List Part} (h : Within ps s t)
    (hp : ∀ p ∈ [Part.arb, .zones, .mode, .declared], p ∉ ps) : s.ZonesSound t :=
  have arb := h.same .arb (hp _ (by decide))
  (State.ZonesKept.of_same (h.same .zones (hp _ (by decide))) arb).sound (h.same .mode (hp _ (by decide)))
    (h.same .declared (hp _ (by decide))) fun _ _ => arb

theorem State.ZonesSound.refl (s : State) : s.ZonesSound s := .of_within (Within.refl [] s) (by decide)

/-- A step that changes no holder, and then another. -/
theorem State.ZonesSound.trans (h : s.ZonesSound t) (hh : ∀ z, (t.zone z).holder = (s.zone z).holder)
    (h' : t.ZonesSound u) : s.ZonesSound u :=
  ⟨h'.zones.trans h.zones, h'.mode.trans h.mode,
    fun z fits => (State.zoneFits_congr h.zones z _).mp (h'.fits z ((State.zoneFits_congr h.zones z _).mpr (h.fits z fits))),
    fun z k hk => hh z ▸ h'.holder z k hk, fun hs he => h'.empty (h.mode.trans hs) (h.empty hs he),
    fun hs k hk => h'.declared (h.mode.trans hs) k (h.declared hs k hk)⟩

/-- The zone invariant is kept, and no guarded zone has gained a holder. -/
structure State.ZonesHeld (s t : State) : Prop where
  ok : s.zonesOk → t.zonesOk
  holder : ∀ z k, (t.zone z).holder = some k → (s.zone z).holder = some k ∨ (t.zone z).guard = []

theorem State.ZonesSound.held (h : s.ZonesSound t) : s.ZonesHeld t := by
  refine ⟨fun ⟨records, setup⟩ => ⟨fun z => (State.zoneFits_congr h.zones z _).mpr (h.fits z (records z)), fun hm => ?_⟩,
    h.holder⟩
  have hs := h.mode.symm.trans hm
  exact ⟨h.empty hs (setup hs).1, fun k => h.declared hs k ((setup hs).2 k)⟩

theorem State.ZonesHeld.refl (s : State) : s.ZonesHeld s := (State.ZonesSound.refl s).held

/-! ## Requests and notices -/

theorem State.serve_held (s : State) (f : Frame) (own : State → Answer) (h : ∀ u : State, u.ZonesHeld (own u).state) :
    s.ZonesHeld (s.serve f own) := by
  unfold State.serve
  split
  · exact ⟨(h s.taken).ok, (h s.taken).holder⟩
  · exact .refl s

theorem Answer.ite_held {c : Prop} [Decidable c] {a b : Answer} (h : s.ZonesHeld a.state) (h' : s.ZonesHeld b.state) :
    s.ZonesHeld (if c then a else b).state := by
  split
  · exact h
  · exact h'

theorem withLength_held (n : Nat) (p : List Byte) (own : State → Answer) (h : ∀ u : State, u.ZonesHeld (own u).state)
    (s : State) : s.ZonesHeld (withLength n p own s).state := Answer.ite_held (h s) (.refl s)

theorem withCrane_held (n : Nat) (own : Crane → State → Answer) (h : ∀ k, s.ZonesHeld (own k s).state) :
    s.ZonesHeld (withCrane n own s).state := by
  unfold withCrane
  split
  · exact .refl s
  · exact h _

theorem withZone_held (n : Nat) (own : Zone → State → Answer)
    (h : ∀ z, s.ZonesHeld (own z s).state) : s.ZonesHeld (withZone n own s).state := by
  unfold withZone
  split
  · exact .refl s
  · exact h _

theorem withBooking_held (id : Nat) (own : Booking → State → Answer) (h : ∀ b (u : State), u.ZonesHeld (own b u).state)
    (s : State) : s.ZonesHeld (withBooking id own s).state := by
  unfold withBooking
  split
  · exact .refl s
  · split
    · exact .refl s
    · exact h _ s

theorem State.deliver_held (s : State) (p : Notice → Bool) (act : Notice → State → State)
    (h : ∀ n (u : State), u.ZonesHeld (act n u)) : s.ZonesHeld (s.deliver p act) := by
  unfold State.deliver
  split
  · exact .refl s
  · rename_i n rest _
    exact ⟨(h n { s with notices := rest }).ok, (h n { s with notices := rest }).holder⟩

/-! ## The commands that write zone records -/

theorem State.guardUnlessSetup_sound (s : State) (k : Crane) : s.ZonesSound (s.guardUnlessSetup k) ∧
    ∀ z, ((s.guardUnlessSetup k).zone z).holder = (s.zone z).holder := by
  have within := s.guardUnlessSetup_within k
  have zones := (s.guardUnlessSetup_guards k).1
  have holder : ∀ z, ((s.guardUnlessSetup k).zone z).holder = (s.zone z).holder := by
    intro z
    rw [zones]
    split <;> rfl
  refine ⟨⟨within.same .zones (by decide), within.same .mode (by decide), fun z fits => ?_, fun z j hj => .inl ?_,
    fun hs he z => ?_, fun _ j hj => ?_⟩, holder⟩
  · rw [zones]
    split
    · rename_i h
      obtain ⟨-, -, shared, face, -⟩ := h
      obtain ⟨ok, faces, -⟩ := fits
      refine ⟨ZoneRt.ok_guard _ ok, fun j hj => ?_, by simp [shared]⟩
      by_cases hk : j = k
      · exact hk ▸ face
      · exact faces j (by simpa [ZoneRt.names, ZoneRt.guarded, hk] using hj)
    · exact fits
  · exact holder z ▸ hj
  · rw [zones, if_neg fun h => h.1 hs, he]
  · rw [within.same .declared (by decide), hj]

theorem State.lineOffRequest_held (s : State) (k : Crane) : s.ZonesHeld (s.lineOffRequest k).state := by
  have off := s.lineOff_within k
  exact Answer.ite_held (.refl s) ((State.ZonesSound.of_within off (by decide)).trans
    (fun z => by rw [State.zone_congr (off.same .arb (by decide))]) (State.guardUnlessSetup_sound _ k).1).held

theorem State.declareRequest_held {s : State} (hs : s.mode ≠ .setup) (k : Crane) (zones : List Zone) :
    s.ZonesHeld (s.declareRequest k zones).state := by
  refine Answer.ite_held (.refl s) (Answer.ite_held (.refl s) (State.ZonesSound.held ?_))
  have declared : s.ZonesKept (s.declareZones k (ascending zones)) := by
    have taken : s.ZonesKept ((ascending zones).foldl (State.declareZone k) s) := .foldl _ fun v _ _ _ => v.declareZone_kept
    exact .ite (fun _ => taken) fun _ => taken.trans (.of_within (State.emitCrane_within ..) (by decide))
  exact ⟨declared.zones, (State.declareZones_within ..).same .mode (by decide), fun z => (declared.kept z).fits,
    fun z => (declared.kept z).holder, fun h => absurd h hs, fun h => absurd h hs⟩

/-- RESOLVE names a crane that is inside a shared zone. -/
theorem State.resolveRequest_held {s : State} (hs : s.mode ≠ .setup) (z : Zone) (m : Option Crane) :
    s.ZonesHeld (s.resolveRequest z m).state := by
  by_cases unknown : s.zoneDef z = none ∨ ∃ k, m = some k ∧ s.crane k = none
  · rw [State.resolveRequest_of_unknown unknown]
    exact .refl s
  · obtain ⟨hz, hm⟩ := not_or.mp unknown
    have known : ∀ k, m = some k → s.crane k ≠ none := fun k hk hn => hm ⟨k, hk, hn⟩
    by_cases outside : s.isShared z = false ∨ ∃ k, m = some k ∧ k ∉ (s.zone z).inside
    · rw [State.resolveRequest_of_outside known hz outside]
      exact .refl s
    · obtain ⟨shared, inside⟩ := not_or.mp outside
      have present : ∀ k, m = some k → k ∈ (s.zone z).inside := fun k hk => not_not.mp fun hn => inside ⟨k, hk, hn⟩
      rw [State.resolveRequest_of_inside known (by simpa using shared) present]
      have moved : s.ZonesKept (s.setZone z { s.zone z with mover := m }) := by
        refine s.setZone_kept (.of_fits (fun ⟨ok, faces, _⟩ => ⟨?_, fun j hj => faces j ?_, fun hn => absurd hn shared⟩)
          (fun _ h => h) (.inl rfl))
        · obtain ⟨nodup, held, swept, claimed, -⟩ := ok
          exact ⟨nodup, held, swept, claimed, present⟩
        · rcases hj with h | h | h | h | h | h | h
          · exact .inl h
          · exact .inr (.inl h)
          · exact .inr (.inr (.inl h))
          · exact .inr (.inr (.inr (.inl h)))
          · exact .inr (.inr (.inr (.inr (.inl h))))
          · exact .inr (.inr (.inr (.inr (.inr (.inl h)))))
          · exact .inr (.inr (.inr (.inr (.inr (.inl (present j h))))))
      exact State.ZonesSound.held ⟨moved.zones, rfl, fun z => (moved.kept z).fits, fun z => (moved.kept z).holder,
        fun h => absurd h hs, fun h => absurd h hs⟩

theorem State.cancelRequest_held (s : State) (b : Booking) : s.ZonesHeld (s.cancelRequest b).state := by
  have within := s.cancelBooking_within b
  exact Answer.ite_held (.refl s) ((s.cancelBooking_kept b).sound (within.same .mode (by decide))
    (within.same .declared (by decide)) fun _ he => State.cancelBooking_of_empty he b).held

theorem State.cycleExpires_sound (s : State) (k : Crane) : s.ZonesSound (s.cycleExpires k) := by
  have within := s.cycleExpires_within k
  exact s.cycleExpires_kept.sound (within.same .mode (by decide)) (within.same .declared (by decide))
    fun hs _ => State.cycleExpires_of_setup hs k

theorem State.review_sound (s : State) (wrap : Bool) (id : Nat) : s.ZonesSound (State.review wrap s id) := by
  have within := s.review_within wrap id
  exact (s.review_kept wrap id).sound (within.same .mode (by decide)) (within.same .declared (by decide))
    fun hs he => State.review_of_empty hs he wrap id

theorem State.reviewAll_sound (s : State) (wrap : Bool) (order : List Nat) (p : Booking → Bool) :
    s.ZonesSound (s.reviewAll wrap order p) := by
  have within := s.reviewAll_within wrap order p
  exact (s.reviewAll_kept wrap order p).sound (within.same .mode (by decide)) (within.same .declared (by decide))
    fun hs he => State.reviewAll_of_empty hs he wrap order p

theorem State.linkZones_sound (s : State) (k : Crane) (old new : LinkState) : s.ZonesSound (s.linkZones k old new) ∧
    ∀ z, ((s.linkZones k old new).zone z).holder = (s.zone z).holder := by
  by_cases h : new = .online
  · subst h
    rw [State.linkZones_of_online]
    have kept : s.ZonesKept (s.setDeclared k []) := .of_within (State.setDeclared_within ..) (by decide)
    refine ⟨⟨rfl, rfl, fun z => (kept.kept z).fits, fun z => (kept.kept z).holder, fun _ he => he, fun _ j hj => ?_⟩,
      fun _ => rfl⟩
    rw [State.declared_setDeclared]
    split
    · rfl
    · exact hj
  · rw [State.linkZones_of_down _ _ _ h]
    have unfaced : Within [.faces] s (s.unfaced k old new) := Within.ite (State.setFaces_within ..) (Within.refl ..)
    have same : ∀ z, (s.unfaced k old new).zone z = s.zone z := State.zone_congr (unfaced.same .arb (by decide))
    obtain ⟨sound, holder⟩ := (s.unfaced k old new).guardUnlessSetup_sound k
    refine ⟨(State.ZonesSound.of_within unfaced (by decide)).trans (fun z => by rw [same]) sound, fun z => ?_⟩
    rw [holder, same]

theorem State.linkChanged_sound (s : State) (k : Crane) (old new : LinkState) (order : List Nat) :
    s.ZonesSound (s.linkChanged k old new order) := by
  obtain ⟨zones, holder⟩ := s.linkZones_sound k old new
  have sourced := (s.linkZones k old new).sourced_within k old new
  refine zones.trans holder ((State.ZonesSound.of_within sourced (by decide)).trans
    (fun z => by rw [State.zone_congr (sourced.same .arb (by decide))]) ?_)
  unfold State.linkChanged
  dsimp only
  split
  · exact State.reviewAll_sound ..
  · exact .refl _

theorem State.secondPasses_sound (s : State) (order : List Nat) : s.ZonesSound (s.secondPasses order) := by
  have ticked : Within [.msCount, .clock, .clockDue] s { s.reach s.clockDue with
      clock := s.clockNext, clockDue := s.clockDue + BitVec.ofNat 32 Config.second } := by
    refine Within.trans ((State.reach_within s s.clockDue).mono (by decide)) ?_
    constructor
    intro p hp
    cases p <;> first | (simp at hp; done) | rfl
  exact (State.ZonesSound.of_within ticked (by decide)).trans
    (fun z => by rw [State.zone_congr (ticked.same .arb (by decide))]) (State.reviewAll_sound ..)

/-! ## The commands that clear or define zones, or change the mode -/

theorem State.zoneFits_empty (s : State) (z : Zone) : s.zoneFits z .empty :=
  ⟨ZoneRt.ok_empty, fun k hk => absurd hk (ZoneRt.not_names_empty k), fun _ => ⟨rfl, rfl, rfl, rfl, rfl⟩⟩

/-- Empty records hold, and nobody holds them. -/
theorem State.ZonesHeld.of_empty (h : ∀ z, t.zone z = .empty) (hd : t.mode = .setup → ∀ k : Crane, t.declared[k] = []) :
    s.ZonesHeld t :=
  ⟨fun _ => ⟨fun z => h z ▸ t.zoneFits_empty z, fun hm => ⟨h, hd hm⟩⟩,
    fun z _ hk => absurd hk (by rw [h]; simp [ZoneRt.empty])⟩

/-- The zones are as they were, and SETUP has not begun. -/
theorem State.ZonesHeld.of_same (hz : t.zones = s.zones) (ha : t.arb = s.arb) (hm : t.mode ≠ .setup) : s.ZonesHeld t :=
  ⟨fun ⟨records, _⟩ => ⟨fun z => State.zone_congr ha z ▸ (State.zoneFits_congr hz z _).mpr (records z), fun h => absurd h hm⟩,
    fun z _ hk => .inl (State.zone_congr ha z ▸ hk)⟩

theorem State.zone_clearZones (s : State) (z : Zone) : s.clearZones.zone z = .empty := vector_get_replicate ..

theorem State.declared_clearZones (s : State) (k : Crane) : s.clearZones.declared[k] = [] := vector_get_replicate ..

/-- After the zones are cleared: records and declared-clear lists as a clearing leaves them. -/
theorem State.ZonesHeld.of_cleared (u : State) (ha : t.arb = u.clearZones.arb) (hd : t.declared = u.clearZones.declared) :
    s.ZonesHeld t :=
  .of_empty (fun z => (State.zone_congr ha z).trans (u.zone_clearZones z)) fun _ _ => by rw [hd, State.declared_clearZones]

/-- A restart clears the zones (R169). -/
theorem State.restart_cleared (s : State) :
    ∃ u : State, Within [.lines, .mastLine, .port, .events, .overflow] u.clearZones s.restart := by
  unfold State.restart
  exact ⟨_, (((((State.restartLines_within _).mono (by decide)).trans ((State.restartMasts_within _).mono (by decide))).trans
    ((State.beginSlot_within ..).mono (by decide))).trans ((State.modPort_within ..).mono (by decide))).trans
    ((State.emit_within ..).mono (by decide))⟩

theorem State.replySent_held (s : State) : s.ZonesHeld s.replySent := by
  unfold State.replySent
  split
  · dsimp only
    split
    · obtain ⟨u, within⟩ := State.restart_cleared (s.modPort fun p => { p with sending := false, replies := p.replies.tail })
      exact .of_cleared u (within.same .arb (by decide)) (within.same .declared (by decide))
    · exact (State.ZonesSound.of_within (State.modPort_within ..) (by decide)).held
  · exact .refl s

theorem State.changeMode_held (s : State) {m : Mode} (hm : m ≠ .setup) : s.ZonesHeld ((s.setMode m).post .mode) := by
  have within := ((s.setMode_within m).mono (qs := [.mode, .events, .overflow, .notices]) (by decide)).trans
    ((State.post_within _ .mode).mono (by decide))
  exact .of_same (within.same .zones (by decide)) (within.same .arb (by decide)) (by simpa [State.setMode] using hm)

theorem State.holdRequest_held (s : State) : s.ZonesHeld s.holdRequest.state :=
  Answer.ite_held (.refl s) (s.changeMode_held (by decide))

theorem State.resumeRequest_held (s : State) : s.ZonesHeld s.resumeRequest.state :=
  Answer.ite_held (.refl s) (s.changeMode_held (by decide))

theorem State.setupRequest_held (s : State) : s.ZonesHeld s.setupRequest.state := by
  have cancelled := (s.setMode .setup).clearZones.cancelAll_within .setup true
  exact Answer.ite_held (.refl s) (.of_cleared (s.setMode .setup) (cancelled.same .arb (by decide))
    (cancelled.same .declared (by decide)))

/-- Outside SETUP, START guards a crane as LINE_OFF does. -/
theorem State.guardAtStart_sound {u : State} (hm : u.mode ≠ .setup) (k : Crane) :
    u.ZonesSound (u.guardAtStart k) ∧ ∀ z, ((u.guardAtStart k).zone z).holder = (u.zone z).holder := by
  by_cases h : (u.worked k && (u.line k).link != .online) = true
  · have worked : u.worked k = true := (Bool.and_eq_true_iff.mp h).1
    have guards : u.guardAtStart k = u.guardUnlessSetup k := (if_pos h).trans (if_pos ⟨hm, worked⟩).symm
    rw [guards]
    exact u.guardUnlessSetup_sound k
  · rw [State.guardAtStart, if_neg h]
    exact ⟨.refl u, fun _ => rfl⟩

theorem State.guardsAtStart_sound (l : List Crane) : ∀ u : State, u.mode ≠ .setup →
    u.ZonesSound (l.foldl State.guardAtStart u) ∧
      ∀ z, ((l.foldl State.guardAtStart u).zone z).holder = (u.zone z).holder := by
  induction l with
  | nil => exact fun u _ => ⟨.refl u, fun _ => rfl⟩
  | cons k l ih =>
    intro u hm
    obtain ⟨first, held⟩ := State.guardAtStart_sound hm k
    obtain ⟨rest, kept⟩ := ih (u.guardAtStart k) (first.mode ▸ hm)
    exact ⟨first.trans held rest, fun z => (kept z).trans (held z)⟩

theorem State.startRequest_held (s : State) : s.ZonesHeld s.startRequest.state := by
  unfold State.startRequest
  refine Answer.ite_held (.refl s) (Answer.ite_held (.refl s) ?_)
  rw [State.done_state]
  generalize allCranes = l
  generalize hu : (s.setMode .run).clearZones = u
  have run : u.mode ≠ .setup := by simp [← hu, State.clearZones, State.setMode]
  have cleared : s.ZonesHeld u := .of_cleared (s.setMode .run) (by rw [hu]) (by rw [hu])
  obtain ⟨guarded, held⟩ := State.guardsAtStart_sound l u run
  refine ⟨fun hs => guarded.held.ok (cleared.ok hs), fun z k hk => ?_⟩
  have empty : (u.zone z).holder = none := by rw [← hu, State.zone_clearZones]; rfl
  rw [held, empty] at hk
  cases hk

/-- In SETUP a zone is written over records that are all empty (R13, R15). -/
theorem State.writeZone_held {s : State} (hs : s.mode = .setup) (z : Zone) (d : Option ZoneDef) :
    s.ZonesHeld (s.writeZone z d) := by
  have within := ({ s with zones := s.zones.set z d }.setZone z .empty).dropFaceStates_within z
  have record : ∀ y, (s.writeZone z d).zone y = if y = z then .empty else s.zone y := fun y =>
    (State.zone_congr (within.same .arb (by decide)) y).trans (State.zone_setZone ..)
  refine ⟨fun ⟨_, setup⟩ => ?_, fun y k hk => ?_⟩
  · have empty : ∀ y, (s.writeZone z d).zone y = .empty := by
      intro y
      rw [record, (setup hs).1, ite_self]
    refine ⟨fun y => empty y ▸ State.zoneFits_empty _ y, fun _ => ⟨empty, fun k => ?_⟩⟩
    rw [show (s.writeZone z d).declared = s.declared from within.same .declared (by decide), (setup hs).2]
  · rw [record] at hk
    split at hk
    · exact absurd hk (by simp [ZoneRt.empty])
    · exact .inl hk

theorem inSetup_held (own : State → Answer) (h : ∀ u : State, u.mode = .setup → u.ZonesHeld (own u).state) (s : State) :
    s.ZonesHeld (inSetup own s).state := by
  unfold inSetup
  split
  · exact .refl s
  · exact h s (by simpa using ‹¬ s.mode ≠ .setup›)

theorem State.zoneDefRequest_held {s : State} (hs : s.mode = .setup) (z : Zone) (d : ZoneDef) :
    s.ZonesHeld (s.zoneDefRequest z d).state :=
  Answer.ite_held (.refl s) (Answer.ite_held (.refl s) (Answer.ite_held (.refl s) (Answer.ite_held (.refl s)
    (State.writeZone_held hs ..))))

theorem State.zoneDelRequest_held {s : State} (hs : s.mode = .setup) (z : Zone) :
    s.ZonesHeld (s.zoneDelRequest z).state :=
  Answer.ite_held (.refl s) (Answer.ite_held (.refl s) (State.writeZone_held hs ..))

end

end Sys2Proof.Machine
end

section
/-! SUPPORT. The zone invariant (R42 to R44, R60, R68) and the rule that a guarded zone gains no holder (R55), for every
step. -/

namespace Sys2Proof.Machine

/-- Every command keeps the zone invariant and gives no guarded zone a holder: most touch neither zones nor mode
(`touches`), and the others go through the operations of the Zone Arbiter, or clear or define the zones. -/
theorem exec_zonesHeld {c : Instr} {s t : State} (h : exec c s = .next t) : s.ZonesHeld t := by
  obtain ⟨u, hu, within⟩ := exec_completes_within c s
  obtain rfl : t = u := Host.Outcome.next.inj (h.symm.trans hu)
  by_cases apart : ∀ p ∈ [Part.arb, .zones, .mode, .declared], p ∉ touches c
  · exact (State.ZonesSound.of_within within apart).held
  cases c <;> dsimp only [touches] at within apart
  case powerOn =>
    cases h
    exact .of_empty (fun z => vector_get_replicate ..) fun _ k => vector_get_replicate ..
  case replySent =>
    cases h
    exact s.replySent_held
  case start =>
    cases h
    exact s.serve_held _ _ (withLength_held _ _ _ fun u => u.startRequest_held)
  case hold =>
    cases h
    exact s.serve_held _ _ (withLength_held _ _ _ fun u => u.holdRequest_held)
  case resume =>
    cases h
    exact s.serve_held _ _ (withLength_held _ _ _ fun u => u.resumeRequest_held)
  case setup =>
    cases h
    exact s.serve_held _ _ (withLength_held _ _ _ fun u => u.setupRequest_held)
  case zoneDef =>
    cases h
    refine s.serve_held _ _ (withLength_held _ _ _ (inSetup_held _ fun u hu => ?_))
    split
    · exact .refl u
    · exact State.zoneDefRequest_held hu ..
  case zoneDel =>
    cases h
    exact s.serve_held _ _ (withLength_held _ _ _ (inSetup_held _ fun u hu =>
      withZone_held _ _ fun z => State.zoneDelRequest_held hu z))
  case lineOff =>
    cases h
    exact s.serve_held _ _ (withLength_held _ _ _ fun u => withCrane_held _ _ fun k => u.lineOffRequest_held k)
  case declare =>
    cases h
    refine s.serve_held _ _ (withLength_held _ _ _ fun u => ?_)
    split
    · exact .refl u
    · rename_i hm
      refine withCrane_held _ _ (fun k => ?_)
      split
      · exact .refl u
      · exact State.declareRequest_held hm ..
  case resolve =>
    cases h
    refine s.serve_held _ _ (withLength_held _ _ _ fun u => ?_)
    split
    · exact .refl u
    · rename_i hm
      refine withZone_held _ _ fun z => ?_
      split
      · exact .refl u
      · exact State.resolveRequest_held hm ..
  case cancel =>
    cases h
    exact s.serve_held _ _ (withLength_held _ _ _ (withBooking_held _ _ fun b u => u.cancelRequest_held b))
  case cycleExpiry k =>
    cases h
    exact (s.cycleExpires_sound k).held
  case linkNotice k order =>
    cases h
    refine s.deliver_held _ _ fun n u => ?_
    cases n
    case link => exact (u.linkChanged_sound ..).held
    all_goals exact .refl u
  case levelNotice | serviceNotice | modeNotice | clockNotice | insideLeftNotice =>
    cases h
    exact s.deliver_held _ _ fun _ u => (u.reviewAll_sound ..).held
  case clearanceNotice =>
    cases h
    exact s.deliver_held _ _ fun _ u => (u.review_sound ..).held
  case clockSecond order =>
    cases h
    exact (s.secondPasses_sound order).held
  all_goals exact absurd (by decide) apart

theorem step_zonesHeld {s t : State} (h : step s = .next t) : s.ZonesHeld t := by
  unfold step at h
  split at h
  · cases h
    exact (State.ZonesSound.of_within s.tick_within (by decide)).held
  · rename_i rest _
    have held : ({ s with pending := rest } : State).ZonesHeld t := exec_zonesHeld h
    exact ⟨held.ok, held.holder⟩

/-- Settles O9. -/
theorem zoneRecordsStayWellFormed : Obligations.ZoneRecordsStayWellFormed :=
  fun _ _ ok h => (step_zonesHeld h).ok ok

/-- Settles O10. -/
theorem aGuardedZoneGainsNoHolder : Obligations.AGuardedZoneGainsNoHolder :=
  fun _ _ z k h hold fresh => ((step_zonesHeld h).holder z k hold).resolve_left fresh

end Sys2Proof.Machine
end

section
/-! SUPPORT. The counterexample to O52. The statement lets a reserved zone run the course of one activation, but the scheduler
sends its message once for each time the booking's list names the zone. -/

namespace Sys2Proof.Machine

/-- A CALLING booking of crane 1 whose list of reserved zones names zone 1 twice. -/
def twiceReserved : Booking :=
  { id := 1, crane := 0, start := 0, finish := 200, reserved := [0, 0], opened := [], windLimit := some 100, label := []
    state := .calling, cause := .called, deadline := 100, terminal := none, termSeq := 0 }

/-- Zone 1 held by crane 1 and reserved under the number of that booking for crane 2. -/
def heldForAnother : ZoneRt :=
  { ZoneRt.empty with holder := some 0, reservation := some { id := 1, crane := 1, phase := .calling } }

/-- The call conditions of the booking hold and its zone is clear for its crane, and a clearance notice is on its way. -/
def twiceTold : State :=
  ({ State.reset with
    mode := .run, clockValid := true, clock := 50, bookings := [twiceReserved], notices := [.clearance 0 1 true]
    lines := State.reset.lines.set 0 { Line.powerOn with link := .online }
    wind := State.reset.wind.set 0 { WindRec.fresh with values := [50], level := .calm } } : State).setZone 0 heldForAnother

/-- Refutes O52: becoming ACTIVE, the booking tells the phase of its reservation of zone 1 twice, and each message posts a
clearance notice for the crane whose reservation it is, where the statement's course has one. -/
theorem not_clearanceAndLeavingReviewTheBooking : ¬ Obligations.ClearanceAndLeavingReviewTheBooking := by
  intro h
  obtain ⟨t, run, -, -, calling, -⟩ := (h twiceTold twiceReserved (by decide) (by decide)).1 0
    ⟨.clearance 0 1 true, by decide, by decide⟩
  obtain ⟨⟨-, new, posted, -, notices, ran, -⟩, -⟩ := ((calling rfl).2 (by decide) (by decide)).1 (by decide) (by decide)
  obtain ⟨-, -, told⟩ := ran 0
  have two : posted = [.clearance 0 1 false, .clearance 0 1 false] := by
    cases run
    exact notices.symm.trans (by decide)
  rw [two] at told
  exact absurd told (by decide)

end Sys2Proof.Machine
end

section
/-! SUPPORT. DECLARE (R58): the zones it names, what it makes of each, and what it appends. -/

namespace Sys2Proof.Machine

/-! ## The zones in ascending number -/

theorem nodup_addTo {n : Nat} (a : Fin n) {l : List (Fin n)} (h : l.Nodup) : (addTo a l).Nodup := by
  unfold addTo
  split
  · exact h
  · exact (List.perm_orderedInsert (· ≤ ·) a l).nodup_iff.mpr (List.nodup_cons.mpr ⟨‹_›, h⟩)

theorem nodup_union {n : Nat} (m : List (Fin n)) : ∀ {l : List (Fin n)}, l.Nodup → (union l m).Nodup := by
  induction m with
  | nil => exact fun h => h
  | cons a m ih => exact fun h => ih (nodup_addTo a h)

theorem nodup_ascending {n : Nat} (l : List (Fin n)) : (ascending l).Nodup := nodup_union l List.nodup_nil

theorem ascending_perm {n : Nat} {l : List (Fin n)} (h : l.Nodup) : (ascending l).Perm l :=
  (List.perm_ext_iff_of_nodup (nodup_ascending l) h).mpr (mem_ascending l)

/-! ## What DECLARE makes of the zones -/

section
variable {s t : State} {k : Crane} {z : Zone}

theorem State.declared_declareZone (j : Crane) :
    (State.declareZone k t z).declared[j] = if j = k then addTo z t.declared[k] else t.declared[j] := by
  have listed : (State.declareZone k t z).declared = (t.setDeclared k (addTo z t.declared[k])).declared := by
    unfold State.declareZone
    dsimp only
    split
    · exact (State.settle_within ..).same .declared (by decide)
    · rfl
  simp only [listed, State.declared_setDeclared]

/-- The zones join the crane's declared-clear list and no other. -/
theorem State.declared_foldl_declareZone (l : List Zone) : ∀ t : State,
    (∀ y, y ∈ (l.foldl (State.declareZone k) t).declared[k] ↔ y ∈ t.declared[k] ∨ y ∈ l) ∧
      ∀ j : Crane, j ≠ k → (l.foldl (State.declareZone k) t).declared[j] = t.declared[j] := by
  induction l with
  | nil => exact fun t => ⟨by simp, fun _ _ => rfl⟩
  | cons z l ih =>
    intro t
    obtain ⟨own, others⟩ := ih (State.declareZone k t z)
    refine ⟨fun y => ?_, fun j hj => ?_⟩
    · rw [List.foldl_cons, own, State.declared_declareZone, if_pos rfl, mem_addTo, List.mem_cons, or_comm (a := y = z),
        or_assoc]
    · rw [List.foldl_cons, others j hj, State.declared_declareZone, if_neg hj]

/-- DECLARE at one zone, once the zone is on the list, is the crane's course there. -/
theorem State.Went.declare {c : Zone → Course} {others : List Event} (h : s.Went c others t) (hz : t.zones = s.zones) :
    s.Went (Function.update c z ((c z).declare s z k)) others (State.declareZone k t z) := by
  have listed : s.Went c others (t.setDeclared k (addTo z t.declared[k])) := h.keep (State.setDeclared_within ..) (by decide)
  refine listed.step ?_
  have record : (t.setDeclared k (addTo z t.declared[k])).zone z = (c z).record := listed.record z
  have removed : (c z).record.remove k =
      { holder := if (c z).record.holder = some k then none else (c z).record.holder
        sweep := (c z).record.sweep.filter (· != k), claims := (c z).record.claims.filter (· != k)
        waiting := (c z).record.waiting.filter (· != k), reservation := (c z).record.reservation
        guard := (c z).record.guard.filter (· != k), inside := (c z).record.inside.filter (· != k)
        mover := if (c z).record.mover = some k then none else (c z).record.mover } := by
    simp only [ZoneRt.remove, beq_iff_eq]
  unfold State.declareZone Course.declare
  dsimp only
  rw [show t.zone z = (c z).record from record, ← removed]
  exact .ite (by rw [← State.isShared_congr hz]; rfl) (fun _ => .act record h.clock ..) fun _ => .set _

/-- The zones of a list that names none twice each go their course. -/
theorem State.Went.declares (l : List Zone) : ∀ {c : Zone → Course} {t : State}, s.Went c [] t → t.zones = s.zones →
    s.Went (fun z => (Course.declare s z k)^[l.count z] (c z)) [] (l.foldl (State.declareZone k) t) := by
  induction l with
  | nil => exact fun h _ => h
  | cons y l ih =>
    intro c t h hz
    rw [iterate_count_cons (fun z => Course.declare s z k)]
    exact ih (h.declare hz) (((State.declareZone_within ..).same .zones (by decide)).trans hz)

/-- A crane that an action left in no place of the record has none after its grant pass. -/
theorem Course.not_names_act {r : ZoneRt} (h : ¬ r.names k) (q : Course) (pass tell : Bool) :
    ¬ (q.act s z k r pass tell).record.names k := by
  unfold Course.act
  dsimp only
  split
  · exact mt ZoneRt.names_grantPass h
  · exact h

theorem Course.declare_names {q : Course} (hz : s.isShared z = true) : ¬ (q.declare s z k).record.names k := by
  unfold Course.declare
  dsimp only
  rw [if_pos hz]
  refine fun named => absurd named (Course.not_names_act ?_ q true false)
  simp [ZoneRt.names]

/-! ## The zones a request names -/

theorem zoneList_numbers (zones : List Zone) :
    zoneList (zones.map number) = if zones.Nodup then some zones else none := by
  have read : allSome ((zones.map number).map pick) = some zones := by
    rw [allSome_eq_some_iff, List.map_map]
    exact List.map_congr_left fun z _ => pick_number z
  rw [zoneList, read]

/-- The GUARD_END of a DECLARE: the number of guard sets the crane left, and B 1 (R58). -/
def State.unguarded (s : State) (k : Crane) (zones : List Zone) : List Event :=
  let left := zones.filter (fun z => decide (k ∈ (s.zone z).guard))
  if left = [] then [] else [s.record .guardEnd (number k) 0 0 left.length 1]

/-- Each zone named goes its course, and then the GUARD_END is appended. -/
theorem State.declareZones_went (s : State) (k : Crane) {zones : List Zone} (hn : zones.Nodup) :
    s.Went (fun z => if z ∈ zones then (s.courseOf z).declare s z k else s.courseOf z) (s.unguarded k zones)
      (s.declareZones k (ascending zones)) := by
  have gone := (State.Went.start s).declares (k := k) (ascending zones) rfl
  have once : (fun z => (Course.declare s z k)^[(ascending zones).count z] (s.courseOf z)) =
      fun z => if z ∈ zones then (s.courseOf z).declare s z k else s.courseOf z := by
    funext z
    by_cases hz : z ∈ zones
    · rw [List.count_eq_one_of_mem (nodup_ascending zones) ((mem_ascending zones z).mpr hz), if_pos hz]
      rfl
    · rw [List.count_eq_zero_of_not_mem (mt (mem_ascending zones z).mp hz), if_neg hz]
      rfl
  rw [once] at gone
  have left : ((ascending zones).filter (fun z => (s.zone z).guard.contains k)).Perm
      (zones.filter fun z => decide (k ∈ (s.zone z).guard)) := by
    rw [List.filter_congr fun z _ => List.elem_eq_mem k (s.zone z).guard]
    exact (ascending_perm hn).filter _
  unfold State.declareZones State.unguarded
  dsimp only
  rw [← left.length_eq]
  by_cases none : zones.filter (fun z => decide (k ∈ (s.zone z).guard)) = []
  · rw [if_pos none, if_pos (List.isEmpty_iff.mpr ((none ▸ left).eq_nil))]
    exact gone
  · rw [if_neg none, if_neg fun h => none (((List.isEmpty_iff.mp h) ▸ left).symm.eq_nil)]
    generalize ((ascending zones).filter fun z => (s.zone z).guard.contains k).length = n
    have told := gone.append (State.emitCrane_arb ..) (State.emitCrane_notices ..)
      ((State.emitCrane_within ..).same .clock (by decide)) (State.logged_emitCrane _ .guardEnd k n 1)
      (by simp [Event.conflicts, State.record])
    simpa only [State.record, gone.clock, List.nil_append] using told

end

/-! ## The request -/

/-- A DECLARE that names crane and zones by its list, or by its all-zones choice. -/
def declareListed (k : Crane) (zones : List Zone) : List Byte :=
  BitVec.ofNat 8 (number k) :: 0 :: BitVec.ofNat 8 zones.length :: zones.map (fun z => BitVec.ofNat 8 (number z))

section
variable {s : State} {seq : Byte} {k : Crane} {zones : List Zone}

theorem declareListed_numbers : ((declareListed k zones).drop 3).map (·.toNat) = zones.map number := by
  simp only [declareListed, List.drop_succ_cons, List.drop_zero, List.map_map]
  exact List.map_congr_left fun z _ => toNat_zoneNumber z

theorem declareListed_length (h : zones.length ≤ 245) :
    (declareListed k zones).length = 3 + oct (declareListed k zones) 2 := by
  have octet : oct (declareListed k zones) 2 = zones.length % 256 := BitVec.toNat_ofNat ..
  rw [octet, Nat.mod_eq_of_lt (by omega)]
  simp only [declareListed, List.length_cons, List.length_map]
  omega

theorem State.declareNames_listed (s : State) :
    s.declareNames k (oct (declareListed k zones) 1) (((declareListed k zones).drop 3).map (·.toNat)) =
      if zones ≠ [] ∧ zones.Nodup then some zones else none := by
  rw [declareListed_numbers, State.declareNames, zoneList_numbers, show oct (declareListed k zones) 1 = 0 from rfl]
  by_cases h : zones = [] <;> simp [h]

theorem exec_declare_in_setup {p : List Byte} (hp : p.length = 3 + oct p 2) (ht : s.takes 0x25 seq p)
    (hm : s.mode = .setup) : exec (.declare seq p) s = .next (s.refused 0x25 seq .refusedMode) := by
  refine congrArg _ ((State.serve_withLength _ ht hp).trans ?_)
  rw [if_pos (show s.taken.mode = .setup from hm)]
  rfl

section
variable {p : List Byte} (hp : p.length = 3 + oct p 2) (hk : oct p 0 = number k) (ht : s.takes 0x25 seq p)
  (hm : s.mode ≠ .setup)
include hp hk ht hm

theorem exec_declare_unzoned (hz : s.declareNames k (oct p 1) ((p.drop 3).map (·.toNat)) = none) :
    exec (.declare seq p) s = .next (s.refused 0x25 seq .refusedRange) := by
  refine congrArg _ ((State.serve_withLength _ ht hp).trans ?_)
  rw [if_neg (show s.taken.mode ≠ .setup from hm), hk, withCrane_number,
    show s.taken.declareNames k (oct p 1) ((p.drop 3).map (·.toNat)) = none from hz]
  rfl

theorem exec_declare (hz : s.declareNames k (oct p 1) ((p.drop 3).map (·.toNat)) = some zones) :
    exec (.declare seq p) s = .next ((s.taken.declareRequest k zones).sent 0x25 seq) := by
  refine congrArg _ ((State.serve_withLength _ ht hp).trans ?_)
  rw [if_neg (show s.taken.mode ≠ .setup from hm), hk, withCrane_number,
    show s.taken.declareNames k (oct p 1) ((p.drop 3).map (·.toNat)) = some zones from hz]

end

/-- The first check on what the numbers name: crane and faces (R58). -/
theorem State.declareRequest_of_unknown (h : s.crane k = none ∨ ∃ z ∈ zones, s.faceIn k z = none) :
    s.declareRequest k zones = s.refuse .refusedRef := by
  refine if_pos ?_
  simpa using h

theorem State.declareRequest_of_known (known : s.crane k ≠ none) (faces : ∀ z ∈ zones, s.faceIn k z ≠ none) :
    s.declareRequest k zones = if (s.line k).link = .online then s.refuse .refusedState else (s.declareZones k (ascending zones)).done [] := by
  refine if_neg ?_
  simpa [known] using faces

/-- What a DECLARE that is done leaves. -/
theorem State.declareZones_declares (hn : zones.Nodup) :
    let t := s.declareZones k (ascending zones)
    (∀ z ∈ zones, s.isShared z = true → ¬ (t.zone z).names k) ∧
      (∃ new posted, s.logged t new ∧ t.notices = s.notices ++ posted ∧
        (∀ z, t.ran z (if z ∈ zones then (s.courseOf z).declare s z k else s.courseOf z) new posted) ∧
        new.filter (fun e => e.kind == .guardEnd) = s.unguarded k zones ∧
        ∀ e ∈ new, e.kind ∈ [EventKind.guardEnd, .conflictBegin, .conflictEnd]) ∧
      (∀ z, z ∈ t.declared[k] ↔ z ∈ s.declared[k] ∨ z ∈ zones) ∧ ∀ j : Crane, j ≠ k → t.declared[j] = s.declared[j] := by
  have went := s.declareZones_went k hn
  obtain ⟨new, posted, logged, notices, ran, others⟩ := went.ran
  have listed : (s.declareZones k (ascending zones)).declared = ((ascending zones).foldl (State.declareZone k) s).declared := by
    unfold State.declareZones
    dsimp only
    split
    · rfl
    · exact (State.emitCrane_within ..).same .declared (by decide)
  obtain ⟨own, rest⟩ := State.declared_foldl_declareZone (k := k) (ascending zones) s
  have ends : ∀ e ∈ s.unguarded k zones, e.kind = .guardEnd := by
    unfold State.unguarded
    dsimp only
    split <;> simp [State.record]
  refine ⟨fun z hz shared => ?_, ⟨new, posted, logged, notices, ran, ?_, fun e he => ?_⟩, fun z => ?_, fun j hj => ?_⟩
  · rw [went.record, if_pos hz]
    exact Course.declare_names shared
  · rw [filter_of_filter others _ fun e he => by simp [Event.conflicts, beq_iff_eq.mp he]]
    exact List.filter_eq_self.mpr fun e he => by simp [ends e he]
  · rcases mem_of_filter others he with (hk | hk) | hk
    · simp [hk]
    · simp [hk]
    · simp [ends e hk]
  · simp only [listed, own, mem_ascending]
  · simp only [listed, rest j hj]

end

/-- Settles O35: the checks fall one after another, and then every zone named goes its course. -/
theorem declareTakesTheCraneOutOfTheZones : Obligations.DeclareTakesTheCraneOutOfTheZones := by
  intro s seq k zones hl
  have length := declareListed_length (k := k) hl
  have crane : oct (declareListed k zones) 0 = number k := toNat_craneNumber k
  refine ⟨exec_declare_in_setup length, fun ht hm hz => exec_declare_unzoned length crane ht hm ?_, fun p hp ht hm => ?_⟩
  · rw [← declareListed, State.declareNames_listed, if_neg fun h => hz.elim h.1 fun dup => dup h.2]
  obtain ⟨length, crane, names, nodup⟩ : p.length = 3 + oct p 2 ∧ oct p 0 = number k ∧
      s.declareNames k (oct p 1) ((p.drop 3).map (·.toNat)) = some zones ∧ zones.Nodup := by
    rcases hp with ⟨rfl, some, nodup⟩ | ⟨rfl, all⟩
    · exact ⟨length, crane, by rw [← declareListed, State.declareNames_listed, if_pos ⟨some, nodup⟩], nodup⟩
    · exact ⟨rfl, toNat_craneNumber k, congrArg some all.symm, all ▸ allZones_nodup.filter _⟩
  have request := exec_declare length crane ht hm names
  refine ⟨fun unknown => ?_, fun known faces online => ?_, fun known faces offline => ?_⟩
  · rw [request, State.declareRequest_of_unknown (s := s.taken) unknown]
    rfl
  · rw [request, State.declareRequest_of_known (s := s.taken) known faces, if_pos (show (s.taken.line k).link = .online from online)]
    rfl
  · refine ⟨s.taken.declareZones k (ascending zones), ?_, (State.declareZones_within ..).mono (by decide),
      s.taken.declareZones_declares nodup⟩
    rw [request, State.declareRequest_of_known (s := s.taken) known faces, if_neg (show (s.taken.line k).link ≠ .online from offline)]
    rfl

end Sys2Proof.Machine
end

section
/-! SUPPORT. One change of a booking's state with the messages it sends its reserved zones (R64, R66, R117), and CANCEL
(R120). -/

namespace Sys2Proof.Machine

/-! ## The record that a change leaves -/

/-- The record after a change of state at a second of the site clock; `n` numbers the terminal records (R106, R117). -/
def Booking.changed (b : Booking) (clock n : Nat) (state : BookingState) (cause : BookingCause) : Booking :=
  { b with
    state := state, cause := cause, terminal := if state.terminal then some clock else b.terminal
    termSeq := if state.terminal then n else b.termSeq }

section
variable (t : State) (b : Booking) (state : BookingState) (cause : BookingCause)

theorem State.bookings_move : (t.move b state cause).bookings =
    t.bookings.map (fun d => if d.id = b.id then b.changed t.clock t.termSeq state cause else d) := by
  have told : (t.move b state cause).bookings = (t.changeState b state cause).bookings :=
    (State.emit_within ..).same .bookings (by decide)
  rw [told]
  unfold State.changeState Booking.changed
  cases state.terminal <;> rfl

theorem State.logged_move :
    t.logged (t.move b state cause) [t.record .bookingState (number b.crane) 0 b.id state.code cause.code] := by
  have changed := t.changeState_within b state cause
  have quiet : (t.changeState b state cause).events = t.events ∧ (t.changeState b state cause).overflow = t.overflow := by
    unfold State.changeState
    split <;> exact ⟨rfl, rfl⟩
  have told := State.logged_emit (t.changeState b state cause) .bookingState (number b.crane) 0 b.id state.code cause.code
  rw [State.record, changed.same .clock (by decide)] at told
  exact State.logged_from quiet.1 quiet.2 told

end

/-- A change is found under its id, and nothing else changes. -/
theorem State.booking_of_changed {t u : State} {b c : Booking} (hc : c.id = b.id)
    (h : u.bookings = t.bookings.map (fun d => if d.id = b.id then c else d)) (id : Nat) :
    u.booking id = (t.booking id).map (fun d => if d.id = b.id then c else d) := by
  have same : ((fun d : Booking => d.id == id) ∘ fun d => if d.id = b.id then c else d) = fun d => d.id == id := by
    funext d
    by_cases hd : d.id = b.id <;> simp [hd, hc]
  rw [State.booking, h, List.find?_map, same]
  rfl

/-! ## The change with its messages -/

/-- The message by which the booking `id` of *k* that comes from one state to another tells a reserved zone, none where it neither reserved the zones
before nor does then (R117). -/
def State.tell (id : Nat) (k : Crane) (old : BookingState) : BookingState → State → Zone → State
  | .calling => State.placeReservation id k
  | .active => State.phaseActive id
  | .suspended => State.phaseSuspended id
  | .booked | .closing | .ended | .cancelled | .lapsed =>
    if old.reserves then State.removeReservation id else fun s _ => s

/-- What that message is to the zone. -/
def Course.tell (s : State) (id : Nat) (k : Crane) (old state : BookingState) (z : Zone) (q : Course) : Course :=
  match state with
  | .calling => q.place s z id k
  | .active => q.activate s z id
  | .suspended => q.suspend s z id
  | .booked | .closing | .ended | .cancelled | .lapsed => if old.reserves then q.unreserve s z id else q

/-- A change of state with its event and its messages. -/
def State.go (t : State) (b : Booking) (state : BookingState) (cause : BookingCause) : State :=
  b.reserved.foldl (State.tell b.id b.crane b.state state) (t.move b state cause)

section
variable {s t : State} {b : Booking} {c : Zone → Course} {others : List Event}

theorem State.tell_step {z : Zone} {q : Course} (hc : t.clock = s.clock) (h : t.zone z = q.record) (id : Nat) (k : Crane)
    (old state : BookingState) : t.ZoneStep z q (State.tell id k old state t z) (q.tell s id k old state z) := by
  unfold State.tell Course.tell
  cases state
  case calling => exact State.placeReservation_step hc h ..
  case active => exact State.phaseActive_step hc h ..
  case suspended => exact State.phaseSuspended_step hc h ..
  all_goals
    by_cases reserves : old.reserves = true
    · simp only [reserves, if_true]
      exact State.removeReservation_step hc h ..
    · simp only [reserves]
      exact .refl h

theorem State.Went.move (h : s.Went c others t) (state : BookingState) (cause : BookingCause) :
    s.Went c (others ++ [s.record .bookingState (number b.crane) 0 b.id state.code cause.code])
      (t.move b state cause) := by
  have within := t.moveOnly_within b state cause
  have told := t.logged_move b state cause
  rw [State.record, h.clock] at told
  exact h.append (within.same .arb (by decide)) (within.same .notices (by decide)) (within.same .clock (by decide)) told
    (by simp [Event.conflicts, State.record])

/-- A change of state tells every reserved zone as often as the booking names it. -/
theorem State.Went.go (h : s.Went c others t) (state : BookingState) (cause : BookingCause) :
    s.Went (fun z => (Course.tell s b.id b.crane b.state state z)^[b.reserved.count z] (c z))
      (others ++ [s.record .bookingState (number b.crane) 0 b.id state.code cause.code]) (t.go b state cause) :=
  (h.move state cause).foldl (fun _ _ _ clock record => State.tell_step clock record ..) b.reserved

end

section
variable (t : State) (b : Booking) (state : BookingState) (cause : BookingCause)

theorem State.tell_within (id : Nat) (k : Crane) (old : BookingState) (z : Zone) :
    Within arbiterParts t (State.tell id k old state t z) := by
  unfold State.tell
  cases state
  case calling => exact State.placeReservation_within ..
  case active => exact State.phaseActive_within ..
  case suspended => exact State.phaseSuspended_within ..
  all_goals
    by_cases reserves : old.reserves = true
    · simp only [reserves, if_true]
      exact State.removeReservation_within ..
    · simp only [reserves]
      exact .refl ..

theorem State.tells_within : Within arbiterParts (t.move b state cause) (t.go b state cause) :=
  Within.foldl (fun s z => State.tell_within s state _ _ _ z) ..

theorem State.go_within : Within reviewParts t (t.go b state cause) :=
  (State.move_within ..).trans ((State.tells_within ..).mono (by decide))

theorem State.bookings_go : (t.go b state cause).bookings =
    t.bookings.map (fun d => if d.id = b.id then b.changed t.clock t.termSeq state cause else d) :=
  ((State.tells_within ..).same .bookings (by decide)).trans (t.bookings_move b state cause)

theorem State.leaveReserving_eq (hb : b.state.reserves = true) (hs : state.reserves = false) :
    t.leaveReserving b state cause = t.go b state cause := by
  unfold State.leaveReserving State.dropReservations State.go State.tell
  cases state <;> simp_all [BookingState.reserves]

theorem State.move_eq (hb : b.state.reserves = false) (hs : state.reserves = false) :
    t.move b state cause = t.go b state cause := by
  have idle : ∀ (l : List Zone) (u : State), l.foldl (fun s _ => s) u = u := by
    intro l
    induction l with
    | nil => exact fun u => rfl
    | cons z l ih => exact ih
  unfold State.go State.tell
  cases state <;> simp_all [BookingState.reserves]

end

/-! ## Removing a reservation -/

section
variable {s : State} {z : Zone} {q : Course} {id : Nat}

theorem Course.unreserve_reservation (v : Reservation) (h : (q.unreserve s z id).record.reservation = some v) : v.id ≠ id := by
  unfold Course.unreserve at h
  dsimp only at h
  split at h
  · simp_all
  · split at h
    · rw [(Course.act_passed ..).reservation] at h
      cases h
    · simp_all

/-- Where the reservation is not the booking's there is none to remove. -/
theorem Course.unreserve_of_other (h : ∀ v, q.record.reservation = some v → v.id ≠ id) : q.unreserve s z id = q := by
  unfold Course.unreserve
  dsimp only
  split
  · rfl
  · rename_i v hv
    exact if_neg (h v hv)

/-- Removing it again changes nothing. -/
theorem Course.iterate_unreserve (n : Nat) : (Course.unreserve s z id)^[n + 1] q = q.unreserve s z id := by
  rw [Function.iterate_succ_apply]
  exact Function.iterate_fixed (Course.unreserve_of_other Course.unreserve_reservation) n

end

/-! ## CANCEL (R120) -/

/-- The state a cancelled booking comes to. -/
def State.cancelled (s : State) (b : Booking) : BookingState :=
  if (b.state = .active ∨ b.state = .suspended) ∧ s.overOpened b = true then .closing else .cancelled

section
variable {s : State} {b : Booking}

theorem State.cancelBooking_eq (h : b.state.terminal = false) : s.cancelBooking b = s.go b (s.cancelled b) .cancel := by
  have leaves : (s.cancelled b).reserves = false := by
    unfold State.cancelled
    split <;> rfl
  have target : b.state = .booked ∨ b.state = .calling ∨ b.state = .closing → s.cancelled b = .cancelled := by
    rintro (h | h | h) <;> simp [State.cancelled, h]
  have ends : b.state = .active ∨ b.state = .suspended →
      s.cancelled b = if s.overOpened b then .closing else .cancelled := by
    intro h
    simp [State.cancelled, h]
  unfold State.cancelBooking
  cases hb : b.state
  case booked => rw [target (.inl hb)] at leaves ⊢; exact State.move_eq _ _ _ _ (by rw [hb]; rfl) leaves
  case calling => rw [target (.inr (.inl hb))] at leaves ⊢; exact State.leaveReserving_eq _ _ _ _ (by rw [hb]; rfl) leaves
  case active => rw [ends (.inl hb)] at leaves ⊢; exact State.leaveReserving_eq _ _ _ _ (by rw [hb]; rfl) leaves
  case suspended => rw [ends (.inr hb)] at leaves ⊢; exact State.leaveReserving_eq _ _ _ _ (by rw [hb]; rfl) leaves
  case closing => rw [target (.inr (.inr hb))] at leaves ⊢; exact State.move_eq _ _ _ _ (by rw [hb]; rfl) leaves
  all_goals rw [hb] at h; cases h

theorem State.overOpened_iff : s.overOpened b = true ↔ ∃ z ∈ b.opened, b.crane ∈ (s.zone z).inside := by
  simp [State.overOpened]

theorem BookingState.reserves_iff (state : BookingState) :
    state.reserves = true ↔ state = .calling ∨ state = .active ∨ state = .suspended := by
  cases state <;> simp [BookingState.reserves]

/-- A change to a state that reserves nothing takes the booking's reservations away, if it had placed them (R117). -/
theorem State.Went.leave {state : BookingState} (hs : state.reserves = false) (cause : BookingCause) :
    s.Went (fun z => if (b.state = .calling ∨ b.state = .active ∨ b.state = .suspended) ∧ z ∈ b.reserved
        then (s.courseOf z).unreserve s z b.id else s.courseOf z)
      [s.record .bookingState (number b.crane) 0 b.id state.code cause.code] (s.go b state cause) := by
  have gone := (State.Went.start s).go (b := b) state cause
  have told : ∀ z q, Course.tell s b.id b.crane b.state state z q = if b.state.reserves then q.unreserve s z b.id else q := by
    cases state <;> first | exact fun _ _ => rfl | cases hs
  have same : (fun z => (Course.tell s b.id b.crane b.state state z)^[b.reserved.count z] (s.courseOf z)) = fun z =>
      if (b.state = .calling ∨ b.state = .active ∨ b.state = .suspended) ∧ z ∈ b.reserved
        then (s.courseOf z).unreserve s z b.id else s.courseOf z := by
    funext z
    rw [show Course.tell s b.id b.crane b.state state z = fun q => if b.state.reserves then q.unreserve s z b.id else q from funext (told z)]
    by_cases hr : b.state.reserves = true
    · simp only [hr, if_true, (BookingState.reserves_iff _).mp hr, true_and]
      by_cases hz : z ∈ b.reserved
      · obtain ⟨n, hn⟩ := Nat.exists_eq_succ_of_ne_zero (List.count_pos_iff.mpr hz).ne'
        rw [hn, if_pos hz]
        exact Course.iterate_unreserve n
      · rw [List.count_eq_zero_of_not_mem hz, if_neg hz]
        rfl
    · rw [if_neg fun h => hr ((BookingState.reserves_iff _).mpr h.1)]
      simp only [hr]
      exact Function.iterate_fixed rfl _
  rwa [same] at gone

variable {seq hi lo : Byte}

theorem exec_cancel (ht : s.takes 0x39 seq [hi, lo]) : exec (.cancel seq [hi, lo]) s =
    .next ((withBooking (hi.toNat * 256 + lo.toNat) (fun b u => u.cancelRequest b) s.taken).sent 0x39 seq) :=
  congrArg _ (State.serve_withLength _ ht rfl)

theorem withBooking_absent {own : Booking → State → Answer} {id : Nat} (hid : id ≠ 0) (h : ∀ b ∈ s.bookings, b.id ≠ id) :
    withBooking id own s = s.refuse .refusedRef := by
  have none : s.booking id = none := List.find?_eq_none.mpr fun b hb => by simpa using h b hb
  rw [withBooking, if_neg hid, none]

theorem withBooking_found {own : Booking → State → Answer} {id : Nat} (hid : id ≠ 0) (h : s.booking id = some b) :
    withBooking id own s = own b s := by
  rw [withBooking, if_neg hid, h]

theorem State.cancelRequest_of_open {b : Booking} (found : s.booking b.id = some b) (h : b.state.terminal = false) :
    s.cancelRequest b = (s.go b (s.cancelled b) .cancel).done [BitVec.ofNat 8 (s.cancelled b).code] := by
  unfold State.cancelRequest
  rw [if_neg (by simp [h]), State.cancelBooking_eq h]
  dsimp only
  have after := State.booking_of_changed (b := b) (c := b.changed s.clock s.termSeq (s.cancelled b) .cancel) rfl (s.bookings_go ..) b.id
  rw [after, found, Option.map_some, if_pos rfl]
  rfl

end

/-- Settles O39: a booking in progress changes its state and tells its reserved zones. -/
theorem cancelEndsTheBooking : Obligations.CancelEndsTheBooking := by
  refine ⟨fun s seq hi lo ht => ⟨fun hid => ?_, fun hid absent => ?_⟩, fun s seq hi lo b ht hid found => ?_⟩
  · rw [exec_cancel ht, hid]
    rfl
  · rw [exec_cancel ht, withBooking_absent (s := s.taken) hid absent]
    rfl
  have named : b.id = hi.toNat * 256 + lo.toNat := by simpa using List.find?_some found
  rw [exec_cancel ht, withBooking_found (s := s.taken) hid found]
  refine ⟨fun terminal => ?_, fun running => ?_⟩
  · rw [State.cancelRequest, if_pos terminal]
    rfl
  have leaves : (s.taken.cancelled b).reserves = false := by
    unfold State.cancelled
    split <;> rfl
  have went : s.taken.Went _ _ _ := State.Went.leave (s := s.taken) (b := b) leaves .cancel
  obtain ⟨new, posted, logged, notices, ran, others⟩ := went.ran
  refine ⟨s.taken.go b (s.taken.cancelled b) .cancel, b.changed s.clock s.termSeq (s.taken.cancelled b) .cancel, ?_,
    (s.taken.go_within ..), s.taken.bookings_go .., rfl, rfl, rfl, rfl, fun busy opened => ?_, fun idle => ?_, fun idle => ?_,
    fun busy z hz v hv => ?_, new, posted, logged, notices, ran, ?_, fun e he => ?_⟩
  · rw [State.cancelRequest_of_open (s := s.taken) (named ▸ found) running]
    rfl
  · have closing : s.taken.cancelled b = .closing := if_pos ⟨busy, State.overOpened_iff.mpr opened⟩
    rw [closing]
    exact ⟨rfl, rfl⟩
  · have cancelled : s.taken.cancelled b = .cancelled := by
      refine if_neg fun h => ?_
      obtain ⟨busy, opened⟩ := h
      rcases idle with h | h | h | h
      · simp [h] at busy
      · simp [h] at busy
      · simp [h] at busy
      · exact h (State.overOpened_iff.mp opened)
    rw [cancelled]
    exact ⟨rfl, rfl⟩
  · have quiet : b.state.reserves = false := by rcases idle with h | h <;> rw [h] <;> rfl
    rw [← State.move_eq _ _ _ _ quiet leaves]
    exact ⟨(State.moveOnly_within ..).same .arb (by decide), (State.moveOnly_within ..).same .notices (by decide)⟩
  · rw [went.record, if_pos ⟨busy, hz⟩] at hv
    exact Course.unreserve_reservation v hv
  · rw [filter_of_filter others _ fun e he => by simp [Event.conflicts, beq_iff_eq.mp he]]
    rfl
  · rcases mem_of_filter others he with (hk | hk) | hk
    · simp [hk]
    · simp [hk]
    · simp [List.mem_singleton.mp hk, State.record]

end Sys2Proof.Machine
end

section
/-! SUPPORT. One review of a booking (R113 to R119): the changes it brings, as a list, and what making them does to the
table, the zones and the messages. -/

namespace Sys2Proof.Machine

/-! ## The changes a review brings -/

/-- The changes that a review brings booking `b`, in their order; `clear` says whether its reserved zones are clear for it,
at a BOOKED booking once they are placed (R113 to R116, R119). -/
def State.verdict (s : State) (wrap : Bool) (b : Booking) (clear : Bool) : List (BookingState × BookingCause) :=
  match b.state with
  | .booked =>
    if !s.atOrPast wrap b.start then []
    else if s.atOrPast wrap b.deadline || s.atOrPast wrap b.finish then [(.lapsed, .noStart)]
    else if (s.callFailure b).isNone then (.calling, .called) :: (if clear then [(.active, .cleared)] else [])
    else []
  | .calling =>
    if s.atOrPast wrap b.deadline || s.atOrPast wrap b.finish then [(.lapsed, .notClear)]
    else if (s.callFailure b).isNone && clear then [(.active, .cleared)]
    else []
  | .active =>
    if s.atOrPast wrap b.finish then [(if s.overOpened b then .closing else .ended, .finished)]
    else match s.callFailure b with
      | none => []
      | some cause => [(.suspended, cause)]
  | .suspended =>
    if s.atOrPast wrap b.finish then [(if s.overOpened b then .closing else .ended, .finished)]
    else if (s.callFailure b).isNone && clear then [(.active, .resumed)]
    else []
  | .closing => if s.overOpened b then [] else [(.ended, .left)]
  | .ended | .cancelled | .lapsed => []

/-- Whether a review finds the reserved zones clear. -/
def State.findsClear (t : State) (b : Booking) : Bool :=
  if b.state = .booked then (t.go b .calling .called).reservedClear b else t.reservedClear b

/-- The changes of a list, one after another. -/
def State.run (t : State) (b : Booking) : List (BookingState × BookingCause) → State
  | [] => t
  | (state, cause) :: rest => (t.go b state cause).run (b.changed t.clock t.termSeq state cause) rest

/-- The record after changes at a second of the site clock, but for its place among the terminal records. -/
def Booking.after (b : Booking) (clock : Nat) (steps : List (BookingState × BookingCause)) : Booking :=
  steps.foldl (fun d p => d.changed clock d.termSeq p.1 p.2) b

/-- What these changes are to a zone that the booking names `n` times. -/
def Course.tells (s : State) (id : Nat) (k : Crane) (n : Nat) (z : Zone) :
    BookingState → List (BookingState × BookingCause) → Course → Course
  | _, [], q => q
  | old, (state, _) :: rest, q => Course.tells s id k n z state rest ((Course.tell s id k old state z)^[n] q)

/-- The BOOKING_STATE events of these changes (R122). -/
def State.changes (s : State) (b : Booking) (steps : List (BookingState × BookingCause)) : List Event :=
  steps.map (fun c => s.record .bookingState (number b.crane) 0 b.id c.1.code c.2.code)

/-! ## A review makes its changes -/

section
variable {s t : State}

theorem State.atOrPast_congr (h : t.clock = s.clock) (wrap : Bool) (m : Nat) : t.atOrPast wrap m = s.atOrPast wrap m := by
  rw [State.atOrPast, h, State.atOrPast]

/-- What the call conditions read (R111). -/
theorem State.callFailure_of_within {ps : List Part} (h : Within ps s t)
    (hp : ∀ p ∈ [Part.mode, .lines, .service, .wind, .cranes], p ∉ ps) (b : Booking) : t.callFailure b = s.callFailure b := by
  have mode : t.mode = s.mode := h.same .mode (hp _ (by decide))
  have lines : t.lines = s.lines := h.same .lines (hp _ (by decide))
  have service : t.service = s.service := h.same .service (hp _ (by decide))
  have wind : t.wind = s.wind := h.same .wind (hp _ (by decide))
  have cranes : t.cranes = s.cranes := h.same .cranes (hp _ (by decide))
  simp only [State.callFailure, State.windAllows, State.craneRec, State.crane, State.line, mode, lines, service, wind, cranes]
  rfl

/-- The verdict reads the clock, the call conditions and whether the crane is over an opened zone. -/
theorem State.verdict_congr (clock : t.clock = s.clock) (failure : ∀ b, t.callFailure b = s.callFailure b)
    (opened : ∀ b, t.overOpened b = s.overOpened b) (wrap : Bool) (b : Booking) (clear : Bool) :
    t.verdict wrap b clear = s.verdict wrap b clear := by
  simp only [State.verdict, State.atOrPast_congr clock, failure, opened]

end

section
variable (t : State) (wrap : Bool) (b : Booking)

theorem State.reviewCalling_eq (h : b.state = .calling) :
    t.reviewCalling wrap b = t.run b (t.verdict wrap b (t.reservedClear b)) := by
  unfold State.reviewCalling State.verdict
  rw [h]
  dsimp only
  split
  · exact State.leaveReserving_eq _ _ _ _ (by rw [h]; rfl) rfl
  · split <;> rfl

theorem State.reviewBooked_eq (h : b.state = .booked) :
    t.reviewBooked wrap b = t.run b (t.verdict wrap b ((t.go b .calling .called).reservedClear b)) := by
  unfold State.reviewBooked State.verdict
  rw [h]
  dsimp only
  split
  · rfl
  · split
    · exact State.move_eq _ _ _ _ (by rw [h]; rfl) rfl
    · rename_i early
      split
      · rename_i conditions
        have within := t.go_within b .calling .called
        have clock : (t.go b .calling .called).clock = t.clock := within.same .clock (by decide)
        have called : t.call wrap b =
            (t.go b .calling .called).reviewCalling wrap (b.changed t.clock t.termSeq .calling .called) := rfl
        have rest : ∀ clear, (t.go b .calling .called).verdict wrap (b.changed t.clock t.termSeq .calling .called) clear =
            if clear then [(.active, .cleared)] else [] := by
          intro clear
          have same : t.callFailure (b.changed t.clock t.termSeq .calling .called) = t.callFailure b := rfl
          simp only [State.verdict, Booking.changed, State.atOrPast_congr clock, State.callFailure_of_within within (by decide)]
          rw [if_neg early]
          simp only [Booking.changed] at same
          simp only [same, conditions, Bool.true_and]
        rw [called, State.reviewCalling_eq _ _ _ rfl, rest]
        rfl
      · rfl

theorem State.finishBooking_eq (h : b.state.reserves = true) :
    t.finishBooking b = t.run b [(if t.overOpened b then .closing else .ended, .finished)] := by
  unfold State.finishBooking
  refine State.leaveReserving_eq _ _ _ _ h ?_
  split <;> rfl

theorem State.reviewActive_eq (h : b.state = .active) (clear : Bool) :
    t.reviewActive wrap b = t.run b (t.verdict wrap b clear) := by
  unfold State.reviewActive State.verdict
  rw [h]
  dsimp only
  split
  · exact t.finishBooking_eq b (by rw [h]; rfl)
  · cases t.callFailure b <;> rfl

theorem State.reviewSuspended_eq (h : b.state = .suspended) :
    t.reviewSuspended wrap b = t.run b (t.verdict wrap b (t.reservedClear b)) := by
  unfold State.reviewSuspended State.verdict
  rw [h]
  dsimp only
  split
  · exact t.finishBooking_eq b (by rw [h]; rfl)
  · split <;> rfl

theorem State.reviewClosing_eq (h : b.state = .closing) (clear : Bool) :
    t.reviewClosing b = t.run b (t.verdict wrap b clear) := by
  unfold State.reviewClosing State.verdict
  rw [h]
  dsimp only
  split
  · rfl
  · exact State.move_eq _ _ _ _ (by rw [h]; rfl) rfl

/-- A review makes the changes of its verdict. -/
theorem State.review_eq (hv : t.clockValid = true) {id : Nat} (hb : t.booking id = some b) :
    State.review wrap t id = t.run b (t.verdict wrap b (t.findsClear b)) := by
  unfold State.review
  rw [hv, hb]
  dsimp only [Bool.not_true]
  unfold State.findsClear
  cases h : b.state
  case booked => exact t.reviewBooked_eq wrap b h
  case calling => exact t.reviewCalling_eq wrap b h
  case active => exact t.reviewActive_eq wrap b h _
  case suspended => exact t.reviewSuspended_eq wrap b h
  case closing => exact t.reviewClosing_eq wrap b h _
  all_goals
    unfold State.verdict
    rw [h]
    rfl

end

/-! ## What the changes do -/

section
variable {s t : State} {b : Booking} {c : Zone → Course} {others : List Event}

theorem State.run_within (steps : List (BookingState × BookingCause)) : ∀ (t : State) (b : Booking),
    Within reviewParts t (t.run b steps) := by
  induction steps with
  | nil => exact fun t _ => Within.refl ..
  | cons p rest ih => exact fun t b => (t.go_within b p.1 p.2).trans (ih ..)

/-- Every zone hears of every change as often as the booking names it. -/
theorem State.Went.run (steps : List (BookingState × BookingCause)) : ∀ {t : State} {b : Booking} {c : Zone → Course}
    {others : List Event}, s.Went c others t →
    s.Went (fun z => Course.tells s b.id b.crane (b.reserved.count z) z b.state steps (c z)) (others ++ s.changes b steps)
      (t.run b steps) := by
  induction steps with
  | nil =>
    intro t b c others h
    rw [show s.changes b [] = [] from rfl, List.append_nil]
    exact h
  | cons p rest ih =>
    intro t b c others h
    have done := ih (b := b.changed t.clock t.termSeq p.1 p.2) (h.go (b := b) p.1 p.2)
    rwa [List.append_assoc] at done

theorem State.ids_run (steps : List (BookingState × BookingCause)) : ∀ (t : State) (b : Booking),
    (t.run b steps).bookings.map (·.id) = t.bookings.map (·.id) := by
  induction steps with
  | nil => exact fun _ _ => rfl
  | cons p rest ih =>
    intro t b
    refine (ih ..).trans ?_
    rw [State.bookings_go, List.map_map]
    refine List.map_congr_left fun d _ => ?_
    by_cases hd : d.id = b.id <;> simp [hd, Booking.changed]

theorem State.booking_run_of_ne (steps : List (BookingState × BookingCause)) {id : Nat} : ∀ (t : State) (b : Booking),
    id ≠ b.id → (t.run b steps).booking id = t.booking id := by
  induction steps with
  | nil => exact fun _ _ _ => rfl
  | cons p rest ih =>
    intro t b h
    refine (ih (t.go b p.1 p.2) (b.changed t.clock t.termSeq p.1 p.2) h).trans ?_
    rw [State.booking_of_changed (b := b) (c := b.changed t.clock t.termSeq p.1 p.2) rfl (t.bookings_go ..)]
    cases found : t.booking id with
    | none => rfl
    | some d =>
      have named : d.id = id := by simpa using List.find?_some found
      rw [Option.map_some, if_neg (named ▸ h)]

/-- What has become of a record by these changes, but for its place among the terminal records. -/
def Booking.Became (b : Booking) (clock : Nat) (steps : List (BookingState × BookingCause)) (d : Booking) : Prop :=
  (∃ n, d = { b.after clock steps with termSeq := n }) ∧ (steps = [] → d = b)

/-- The place among the terminal records plays no part in the rest. -/
theorem Booking.after_termSeq (steps : List (BookingState × BookingCause)) (clock : Nat) : ∀ (n : Nat) (b : Booking),
    ∃ m, ({ b with termSeq := n } : Booking).after clock steps = { b.after clock steps with termSeq := m } := by
  induction steps with
  | nil => exact fun n b => ⟨n, rfl⟩
  | cons p rest ih =>
    intro n b
    have first : ({ b with termSeq := n } : Booking).changed clock n p.1 p.2 =
        { b.changed clock b.termSeq p.1 p.2 with termSeq := n } := by
      unfold Booking.changed
      split <;> rfl
    obtain ⟨m, hm⟩ := ih n (b.changed clock b.termSeq p.1 p.2)
    exact ⟨m, (congrArg (Booking.after · clock rest) first).trans hm⟩

theorem State.booking_run (steps : List (BookingState × BookingCause)) : ∀ {t : State} {b : Booking}, t.clock = s.clock →
    t.booking b.id = some b → ∃ d, (t.run b steps).booking b.id = some d ∧ b.Became s.clock steps d := by
  induction steps with
  | nil => exact fun _ h => ⟨_, h, ⟨_, rfl⟩, fun _ => rfl⟩
  | cons p rest ih =>
    intro t b clock h
    have found : (t.go b p.1 p.2).booking b.id = some (b.changed t.clock t.termSeq p.1 p.2) := by
      rw [State.booking_of_changed (b := b) (c := b.changed t.clock t.termSeq p.1 p.2) rfl (t.bookings_go ..), h,
        Option.map_some, if_pos rfl]
    obtain ⟨d, hd, ⟨n, became⟩, -⟩ := ih (b := b.changed t.clock t.termSeq p.1 p.2)
      (((t.go_within ..).same .clock (by decide)).trans clock) found
    have first : b.changed t.clock t.termSeq p.1 p.2 = { b.changed s.clock b.termSeq p.1 p.2 with
        termSeq := if p.1.terminal then t.termSeq else b.termSeq } := by
      rw [clock]
      rfl
    rw [first] at became
    obtain ⟨m, hm⟩ := Booking.after_termSeq rest s.clock (if p.1.terminal then t.termSeq else b.termSeq)
      (b.changed s.clock b.termSeq p.1 p.2)
    rw [hm] at became
    exact ⟨d, hd, ⟨n, became⟩, by simp⟩

end

end Sys2Proof.Machine
end

section
/-! SUPPORT. The reviews of a list of bookings, one after another: what each has become of by then, whatever the order and
however often the list names it (R110). -/

namespace Sys2Proof.Machine

/-! ## Changes that follow changes -/

/-- The state that a list of changes ends in. -/
def BookingState.final (old : BookingState) (steps : List (BookingState × BookingCause)) : BookingState :=
  steps.foldl (fun _ p => p.1) old

theorem Course.tells_append {s : State} {id : Nat} {k : Crane} {n : Nat} {z : Zone}
    (l m : List (BookingState × BookingCause)) : ∀ (old : BookingState) (q : Course),
    Course.tells s id k n z old (l ++ m) q = Course.tells s id k n z (old.final l) m (Course.tells s id k n z old l q) := by
  induction l with
  | nil => exact fun _ _ => rfl
  | cons p l ih => exact fun old q => ih p.1 _

/-- A zone that the booking does not name hears nothing. -/
theorem Course.tells_zero {s : State} {id : Nat} {k : Crane} {z : Zone} (l : List (BookingState × BookingCause)) :
    ∀ (old : BookingState) (q : Course), Course.tells s id k 0 z old l q = q := by
  induction l with
  | nil => exact fun _ _ => rfl
  | cons p l ih => exact fun old q => ih p.1 q

theorem Course.suspend_inside (s : State) (z : Zone) (id : Nat) (q : Course) :
    (q.suspend s z id).record.inside = q.record.inside := by
  unfold Course.suspend
  dsimp only
  split
  · rfl
  · split
    · rfl
    · split
      · rfl
      · split
        · exact (Course.act_passed ..).inside
        · split
          · exact (Course.act_passed ..).inside
          · rfl

/-- No message of the Booking Scheduler changes who is inside. -/
theorem Course.tell_inside (s : State) (id : Nat) (k : Crane) (old state : BookingState) (z : Zone) (q : Course) :
    (Course.tell s id k old state z q).record.inside = q.record.inside := by
  have removed : (q.unreserve s z id).record.inside = q.record.inside := by
    unfold Course.unreserve
    dsimp only
    split
    · rfl
    · split
      · exact (Course.act_passed ..).inside
      · rfl
  have active : (q.activate s z id).record.inside = q.record.inside := by
    unfold Course.activate
    dsimp only
    split
    · rfl
    · split
      · exact (Course.act_passed ..).inside
      · rfl
  unfold Course.tell
  cases state
  case calling => exact (Course.act_passed ..).inside
  case active => exact active
  case suspended => exact q.suspend_inside ..
  all_goals
    dsimp only
    split
    · exact removed
    · rfl

theorem Course.tells_inside {s : State} {id : Nat} {k : Crane} {n : Nat} {z : Zone} (l : List (BookingState × BookingCause)) :
    ∀ (old : BookingState) (q : Course), (Course.tells s id k n z old l q).record.inside = q.record.inside := by
  have often : ∀ (n : Nat) (old state : BookingState) (q : Course),
      ((Course.tell s id k old state z)^[n] q).record.inside = q.record.inside := by
    intro n old state
    induction n with
    | zero => exact fun _ => rfl
    | succ n ih => exact fun q => (ih _).trans (Course.tell_inside ..)
  induction l with
  | nil => exact fun _ _ => rfl
  | cons p l ih => exact fun old q => (ih p.1 _).trans (often ..)

/-- Only state, cause, terminal time and the place among the terminal records change. -/
theorem Booking.after_eq (clock : Nat) (steps : List (BookingState × BookingCause)) : ∀ b : Booking, ∃ cause terminal n,
    b.after clock steps =
      { b with state := b.state.final steps, cause := cause, terminal := terminal, termSeq := n } := by
  induction steps with
  | nil => exact fun b => ⟨_, _, _, rfl⟩
  | cons p rest ih =>
    intro b
    obtain ⟨cause, terminal, n, h⟩ := ih (b.changed clock b.termSeq p.1 p.2)
    exact ⟨cause, terminal, n, h⟩

section
variable {b d e : Booking} {clock : Nat} {l m : List (BookingState × BookingCause)}

theorem Booking.Became.eq (h : b.Became clock l d) : ∃ cause terminal n,
    d = { b with state := b.state.final l, cause := cause, terminal := terminal, termSeq := n } := by
  obtain ⟨⟨n, rfl⟩, -⟩ := h
  obtain ⟨cause, terminal, _, h⟩ := b.after_eq clock l
  exact ⟨cause, terminal, n, by rw [h]⟩

theorem Booking.Became.trans (h : b.Became clock l d) (h' : d.Became clock m e) : b.Became clock (l ++ m) e := by
  obtain ⟨⟨n, rfl⟩, same⟩ := h
  obtain ⟨⟨n', rfl⟩, same'⟩ := h'
  obtain ⟨i, hi⟩ := Booking.after_termSeq m clock n (b.after clock l)
  refine ⟨⟨n', ?_⟩, fun none => ?_⟩
  · rw [hi, Booking.after, Booking.after, Booking.after, List.foldl_append]
  · obtain ⟨hl, hm⟩ := List.append_eq_nil_iff.mp none
    exact (same' hm).trans (same hl)

theorem Booking.Became.nil (b : Booking) (clock : Nat) : b.Became clock [] b := ⟨⟨_, rfl⟩, fun _ => rfl⟩

end

/-! ## A second verdict -/

section
variable {s : State} {wrap : Bool} {b d : Booking} {clock : Nat}

theorem State.verdict_of_terminal (h : b.state.terminal = true) (clear : Bool) : s.verdict wrap b clear = [] := by
  unfold State.verdict
  cases hb : b.state
  case ended | cancelled | lapsed => rfl
  all_goals rw [hb] at h; cases h

/-- What a second review finds to do is what the first would have done, had it found the zones clear as either did. -/
theorem State.verdict_again {x : Bool} (h : b.Became clock (s.verdict wrap b x) d) (y : Bool) :
    s.verdict wrap b x ++ s.verdict wrap d y = s.verdict wrap b (x || y) := by
  obtain ⟨cause, terminal, n, rfl⟩ := h.eq
  generalize hl : s.verdict wrap b x = l
  have opened : ∀ st, s.overOpened { b with state := st, cause := cause, terminal := terminal, termSeq := n } =
    s.overOpened b := fun _ => rfl
  have failure : ∀ st, s.callFailure { b with state := st, cause := cause, terminal := terminal, termSeq := n } =
    s.callFailure b := fun _ => rfl
  unfold State.verdict at hl ⊢
  cases hb : b.state
  case booked =>
    simp only [hb] at hl ⊢
    split at hl
    · subst hl; simp [BookingState.final, *]
    · split at hl
      · subst hl; simp [BookingState.final, *]
      · split at hl
        · cases x <;> subst hl <;> simp_all [BookingState.final]
        · subst hl; simp [BookingState.final, *]
  case calling =>
    simp only [hb] at hl ⊢
    split at hl
    · subst hl; simp [BookingState.final, *]
    · split at hl
      · subst hl; simp_all [BookingState.final]
      · subst hl; cases x <;> simp_all [BookingState.final]
  case active =>
    simp only [hb] at hl ⊢
    split at hl
    · cases ho : s.overOpened b <;> subst hl <;> simp [BookingState.final, *]
    · cases hf : s.callFailure b <;> rw [hf] at hl <;> subst hl <;> simp [BookingState.final, *]
  case suspended =>
    simp only [hb] at hl ⊢
    split at hl
    · cases ho : s.overOpened b <;> subst hl <;> simp [BookingState.final, *]
    · split at hl
      · subst hl; simp_all [BookingState.final]
      · subst hl; cases x <;> simp_all [BookingState.final]
  case closing =>
    simp only [hb] at hl ⊢
    cases ho : s.overOpened b <;> rw [ho] at hl <;> subst hl <;> simp [BookingState.final, *]
  all_goals
    simp only [hb] at hl ⊢
    subst hl
    simp [BookingState.final]

/-- Whether the zones are clear matters only where a first review that finds them not clear does nothing, or calls a BOOKED
booking. -/
theorem State.verdict_unclear (s : State) (wrap : Bool) (b : Booking) : s.verdict wrap b true = s.verdict wrap b false ∨
    s.verdict wrap b false = [] ∨ (b.state = .booked ∧ s.verdict wrap b false = [(.calling, .called)]) := by
  unfold State.verdict
  cases hb : b.state
  case booked =>
    dsimp only
    split
    · exact .inl rfl
    · split
      · exact .inl rfl
      · split
        · exact .inr (.inr ⟨rfl, rfl⟩)
        · exact .inl rfl
  case calling | suspended =>
    dsimp only
    split
    · exact .inl rfl
    · exact .inr (.inl (by simp))
  all_goals exact .inl rfl

end

/-! ## Whether the zones are found clear -/

/-- Whether the reserved zones are clear by these courses, at a BOOKED booking once they are placed (R112, R113). -/
def State.clearBy (s : State) (course : Zone → Course) (b : Booking) : Bool :=
  b.reserved.all fun z =>
    (if b.state = .booked then (course z).place s z b.id b.crane else course z).record.clearFor b.crane

theorem all_congr_of_mem {α : Type} {l : List α} {p q : α → Bool} (h : ∀ a ∈ l, p a = q a) : l.all p = l.all q := by
  rw [Bool.eq_iff_iff, List.all_eq_true, List.all_eq_true]
  exact forall₂_congr fun a ha => by rw [h a ha]

section
variable {s t : State} {c c' : Zone → Course} {others : List Event} {b : Booking}

theorem State.Went.findsClear (h : s.Went c others t) (nodup : b.reserved.Nodup) : t.findsClear b = s.clearBy c b := by
  unfold State.findsClear State.clearBy
  by_cases hb : b.state = .booked
  · simp only [hb, if_true, State.reservedClear]
    refine all_congr_of_mem fun z hz => ?_
    rw [(h.go (b := b) .calling .called).record, List.count_eq_one_of_mem nodup hz]
    rfl
  · simp only [hb, if_false, State.reservedClear]
    exact all_congr_of_mem fun z _ => by rw [h.record]

theorem State.clearBy_congr (h : ∀ z ∈ b.reserved, c z = c' z) : s.clearBy c b = s.clearBy c' b :=
  all_congr_of_mem fun z hz => by rw [h z hz]

/-- A booking that has been called finds its zones clear where it would have found them so once placed. -/
theorem State.clearBy_called {d : Booking} {clock : Nat} (hb : b.state = .booked) (h : b.Became clock [(.calling, .called)] d)
    (placed : ∀ z ∈ b.reserved, c z = (c' z).place s z b.id b.crane) : s.clearBy c d = s.clearBy c' b := by
  obtain ⟨cause, terminal, n, rfl⟩ := h.eq
  unfold State.clearBy
  simp only [hb, if_true]
  exact all_congr_of_mem fun z hz => by rw [placed z hz]; rfl

end

/-! ## What has become of a booking -/

/-- No other booking that is not terminal reserves one of its zones, or it reserves none. -/
def State.exact (s : State) (b : Booking) : Prop :=
  (b.reserved.Nodup ∧ ∀ d ∈ s.bookings, d.id ≠ b.id → d.state.terminal = false → ∀ z ∈ b.reserved, z ∉ d.reserved) ∨
    b.reserved = []

/-- By these courses and events the booking has gone through these changes. -/
structure State.Told (s : State) (c₀ : Zone → Course) (b : Booking) (steps : List (BookingState × BookingCause)) (t : State)
    (c : Zone → Course) (others : List Event) : Prop where
  found : ∃ d, t.booking b.id = some d ∧ b.Became s.clock steps d
  events : others.filter (fun e => e.kind == .bookingState && e.booking == b.id) = s.changes b steps
  courses : s.exact b → ∀ z ∈ b.reserved, c z = Course.tells s b.id b.crane 1 z b.state steps (c₀ z)

/-- After the reviews of the bookings `done`, which began when every zone had come to its course `c₀` and with the events
`begun`: those reviewed have
made the changes of their verdict, every other booking is as it was, and so is every zone that none of them reserves. -/
structure State.Underway (s : State) (wrap : Bool) (c₀ : Zone → Course) (begun : List Event) (done : List Nat) (t : State)
    (c : Zone → Course) (others : List Event) : Prop where
  went : s.Went c others t
  valid : t.clockValid = true
  verdict : ∀ d clear, t.verdict wrap d clear = s.verdict wrap d clear
  ids : t.bookings.map (·.id) = s.bookings.map (·.id)
  told : ∀ b, s.booking b.id = some b → ∃ steps, s.Told c₀ b steps t c others ∧ (b.id ∉ done → steps = []) ∧
    (b.id ∈ done → (∃ clear, steps = s.verdict wrap b clear) ∧ (s.exact b → steps = s.verdict wrap b (s.clearBy c₀ b)))
  free : ∀ z, (∀ d ∈ s.bookings, d.id ∈ done → d.state.terminal = false → z ∉ d.reserved) → c z = c₀ z
  begun : others.filter (fun e => decide (e.kind ≠ .bookingState)) = begun

section
variable {s t : State} {wrap : Bool} {c₀ c : Zone → Course} {done : List Nat} {begun others : List Event} {b : Booking}

theorem State.exact.nodup (h : s.exact b) : b.reserved.Nodup := by
  rcases h with ⟨nodup, -⟩ | none
  · exact nodup
  · rw [none]
    exact List.nodup_nil

theorem State.filter_changes_self (s : State) (b : Booking) (l : List (BookingState × BookingCause)) :
    (s.changes b l).filter (fun e => e.kind == .bookingState && e.booking == b.id) = s.changes b l :=
  List.filter_eq_self.mpr fun e he => by
    obtain ⟨p, -, rfl⟩ := List.mem_map.mp he
    simp [State.record]

theorem State.filter_changes_other (s : State) {b d : Booking} (h : d.id ≠ b.id) (l : List (BookingState × BookingCause)) :
    (s.changes d l).filter (fun e => e.kind == .bookingState && e.booking == b.id) = [] :=
  List.filter_eq_nil_iff.mpr fun e he => by
    obtain ⟨p, -, rfl⟩ := List.mem_map.mp he
    simp [State.record, h]

/-- A booking that was terminal has not changed. -/
theorem State.Underway.verdict_nil (h : s.Underway wrap c₀ begun done t c others) {d : Booking} (hb : s.booking b.id = some b)
    (hd : t.booking b.id = some d) (terminal : b.state.terminal = true) (clear : Bool) : s.verdict wrap d clear = [] := by
  obtain ⟨steps, told, fresh, reviewed⟩ := h.told b hb
  have none : steps = [] := by
    by_cases hdone : b.id ∈ done
    · obtain ⟨clear, rfl⟩ := (reviewed hdone).1
      exact State.verdict_of_terminal terminal _
    · exact fresh hdone
  obtain ⟨_, hd', -, same⟩ := told.found
  obtain rfl := Option.some.inj (hd.symm.trans hd')
  rw [same none]
  exact State.verdict_of_terminal terminal _

/-- One more review leaves the zones that its booking does not reserve. -/
theorem State.Underway.course_kept (h : s.Underway wrap c₀ begun done t c others) {d : Booking} (hb : s.booking b.id = some b)
    (hd : t.booking b.id = some d) (clear : Bool) {z : Zone} (hz : b.state.terminal = false → z ∉ b.reserved) :
    Course.tells s d.id d.crane (d.reserved.count z) z d.state (s.verdict wrap d clear) (c z) = c z := by
  cases terminal : b.state.terminal with
  | true =>
    rw [h.verdict_nil hb hd terminal]
    rfl
  | false =>
    obtain ⟨steps, told, -⟩ := h.told b hb
    obtain ⟨_, hd', became⟩ := told.found
    obtain rfl := Option.some.inj (hd.symm.trans hd')
    obtain ⟨cause, terminal', n, rfl⟩ := became.eq
    rw [List.count_eq_zero_of_not_mem (hz terminal)]
    exact Course.tells_zero ..

/-- What one more review makes of the booking it is a review of. -/
theorem State.Underway.verdict_exact (h : s.Underway wrap c₀ begun done t c others) {d : Booking}
    (hd : t.booking b.id = some d) {steps : List (BookingState × BookingCause)} (told : s.Told c₀ b steps t c others)
    (fresh : b.id ∉ done → steps = [])
    (reviewed : b.id ∈ done → s.exact b → steps = s.verdict wrap b (s.clearBy c₀ b)) (exact : s.exact b) :
    steps ++ s.verdict wrap d (t.findsClear d) = s.verdict wrap b (s.clearBy c₀ b) := by
  obtain ⟨_, hd', became⟩ := told.found
  obtain rfl := Option.some.inj (hd.symm.trans hd')
  have untouched : steps = [] → s.verdict wrap d (t.findsClear d) = s.verdict wrap b (s.clearBy c₀ b) := by
    rintro rfl
    rw [became.2 rfl, h.went.findsClear exact.nodup, State.clearBy_congr (told.courses exact)]
    rfl
  by_cases hdone : b.id ∈ done
  · obtain rfl := reviewed hdone exact
    rw [State.verdict_again became]
    cases hc : s.clearBy c₀ b with
    | true => rfl
    | false =>
      rw [hc] at became untouched told
      rcases s.verdict_unclear wrap b with same | none | ⟨booked, called⟩
      · cases t.findsClear d
        · rfl
        · exact same
      · rw [Bool.false_or]
        have := untouched none
        rwa [became.2 none] at this ⊢
      · have placed : ∀ z ∈ b.reserved, c z = (c₀ z).place s z b.id b.crane := by
          intro z hz
          rw [told.courses exact z hz, called]
          rfl
        rw [called] at became
        have nodup : d.reserved.Nodup := by
          obtain ⟨_, _, _, rfl⟩ := became.eq
          exact exact.nodup
        rw [h.went.findsClear nodup, State.clearBy_called booked became placed, hc]
        rfl
  · obtain rfl := fresh hdone
    exact untouched rfl

theorem State.overOpened_run (t : State) (b d : Booking) (l : List (BookingState × BookingCause)) :
    (t.run b l).overOpened d = t.overOpened d := by
  have went := (State.Went.start t).run (b := b) l
  unfold State.overOpened
  refine congrArg (d.opened.any ·) (funext fun z => ?_)
  rw [went.record, Course.tells_inside]
  rfl

/-- What one more review has made of the booking it is a review of. -/
theorem State.Told.self {steps : List (BookingState × BookingCause)} (told : s.Told c₀ b steps t c others) {d : Booking}
    (hd : t.booking b.id = some d) (clock : t.clock = s.clock) (l : List (BookingState × BookingCause)) :
    s.Told c₀ b (steps ++ l) (t.run d l)
      (fun z => Course.tells s d.id d.crane (d.reserved.count z) z d.state l (c z)) (others ++ s.changes d l) := by
  obtain ⟨_, hd', became⟩ := told.found
  obtain rfl := Option.some.inj (hd.symm.trans hd')
  obtain ⟨cause, terminal, n, fields⟩ := became.eq
  have named : d.id = b.id := by rw [fields]
  have crane : d.crane = b.crane := by rw [fields]
  have reserved : d.reserved = b.reserved := by rw [fields]
  have state : d.state = b.state.final steps := by rw [fields]
  refine ⟨?_, ?_, fun exact z hz => ?_⟩
  · obtain ⟨e, he, after⟩ := State.booking_run (s := s) l clock (named ▸ hd)
    exact ⟨e, named ▸ he, became.trans after⟩
  · have same : s.changes d l = s.changes b l := by rw [State.changes, State.changes, named, crane]
    rw [same, List.filter_append, told.events, State.filter_changes_self, State.changes, State.changes, State.changes,
      List.map_append]
  · rw [Course.tells_append, ← told.courses exact z hz, ← state, named, crane, reserved,
      List.count_eq_one_of_mem exact.nodup hz]

/-- What a review of another booking leaves of this one. -/
theorem State.Told.other {steps : List (BookingState × BookingCause)} (told : s.Told c₀ b steps t c others) {d : Booking}
    (hd : d.id ≠ b.id) (l : List (BookingState × BookingCause)) {c' : Zone → Course}
    (kept : s.exact b → ∀ z ∈ b.reserved, c' z = c z) :
    s.Told c₀ b steps (t.run d l) c' (others ++ s.changes d l) := by
  obtain ⟨e, he, became⟩ := told.found
  refine ⟨⟨e, (State.booking_run_of_ne l t d hd.symm).trans he, became⟩, ?_, fun exact z hz => ?_⟩
  · rw [List.filter_append, told.events, State.filter_changes_other s hd, List.append_nil]
  · rw [kept exact z hz, told.courses exact z hz]

/-- One more review. -/
theorem State.Underway.step (h : s.Underway wrap c₀ begun done t c others) {id : Nat} (hid : id ∈ s.bookings.map (·.id)) :
    ∃ c' others', s.Underway wrap c₀ begun (id :: done) (State.review wrap t id) c' others' := by
  obtain ⟨b, hb, rfl⟩ : ∃ b, s.booking b.id = some b ∧ b.id = id := by
    obtain ⟨e, he, rfl⟩ := List.mem_map.mp hid
    obtain ⟨b, hb⟩ := Option.isSome_iff_exists.mp (List.find?_isSome (p := fun d : Booking => d.id == e.id) |>.mpr ⟨e, he, by simp⟩)
    have named : b.id = e.id := by simpa using List.find?_some hb
    exact ⟨b, named ▸ hb, named⟩
  have mem : b ∈ s.bookings := List.mem_of_find?_eq_some hb
  obtain ⟨steps, told, fresh, reviewed⟩ := h.told b hb
  obtain ⟨d, hd, became⟩ := told.found
  have named : d.id = b.id := by
    obtain ⟨_, _, _, rfl⟩ := became.eq
    rfl
  have exactly := h.verdict_exact hd told fresh fun hdone => (reviewed hdone).2
  rw [State.review_eq t wrap d h.valid hd, h.verdict]
  have kept := fun z => h.course_kept hb hd (t.findsClear d) (z := z)
  have again : ∃ clear, steps ++ s.verdict wrap d (t.findsClear d) = s.verdict wrap b clear := by
    by_cases hdone : b.id ∈ done
    · obtain ⟨clear, rfl⟩ := (reviewed hdone).1
      exact ⟨_, State.verdict_again became _⟩
    · obtain rfl := fresh hdone
      exact ⟨_, by rw [became.2 rfl]; rfl⟩
  generalize s.verdict wrap d (t.findsClear d) = l at exactly kept again ⊢
  have within := State.run_within l t d
  refine ⟨_, _, State.Went.run (b := d) l h.went, (within.same .clockValid (by decide)).trans h.valid, fun e clear => ?_,
    (State.ids_run ..).trans h.ids, fun e he => ?_, fun z hz => ?_, ?_⟩
  · exact (State.verdict_congr (within.same .clock (by decide)) (State.callFailure_of_within within (by decide))
      (fun e => t.overOpened_run d e l) wrap e clear).trans (h.verdict e clear)
  · by_cases same : e.id = b.id
    · obtain rfl : e = b := Option.some.inj (he.symm.trans (same ▸ hb))
      exact ⟨_, told.self hd h.went.clock l, by simp, fun _ => ⟨again, exactly⟩⟩
    · obtain ⟨steps', told', fresh', reviewed'⟩ := h.told e he
      refine ⟨steps', told'.other (named ▸ Ne.symm same) l fun exact z hz => kept z fun running => ?_,
        fun hdone => fresh' fun old => hdone (List.mem_cons_of_mem _ old),
        fun hdone => reviewed' ((List.mem_cons.mp hdone).resolve_left same)⟩
      rcases exact with ⟨-, alone⟩ | none
      · exact alone b mem (Ne.symm same) running z hz
      · rw [none] at hz
        cases hz
  · rw [kept z fun running => hz b mem List.mem_cons_self running]
    exact h.free z fun e he hdone => hz e he (List.mem_cons_of_mem _ hdone)
  · have quiet : (s.changes d l).filter (fun e => decide (e.kind ≠ .bookingState)) = [] :=
      List.filter_eq_nil_iff.mpr fun e he => by
        obtain ⟨p, -, rfl⟩ := List.mem_map.mp he
        simp [State.record]
    rw [List.filter_append, h.begun, quiet, List.append_nil]

/-- The reviews of a list of bookings. -/
theorem State.Underway.foldl (l : List Nat) (hl : ∀ id ∈ l, id ∈ s.bookings.map (·.id)) : ∀ {done : List Nat} {t : State}
    {c : Zone → Course} {others : List Event}, s.Underway wrap c₀ begun done t c others →
    ∃ c' others', s.Underway wrap c₀ begun (l.reverse ++ done) (l.foldl (State.review wrap) t) c' others' := by
  induction l with
  | nil => exact fun h => ⟨_, _, h⟩
  | cons id l ih =>
    intro done t c others h
    obtain ⟨c', others', next⟩ := h.step (hl id List.mem_cons_self)
    obtain ⟨c'', others'', rest⟩ := ih (fun i hi => hl i (List.mem_cons_of_mem _ hi)) next
    refine ⟨c'', others'', ?_⟩
    rwa [List.reverse_cons, List.append_assoc]

end

end Sys2Proof.Machine
end

section
/-! SUPPORT. From the changes that the reviews made to `State.reviews`: the verdict in the words of R113 to R119. -/

namespace Sys2Proof.Machine

/-! ## The conditions of a verdict -/

section
variable {s : State} {wrap : Bool} {b : Booking} {c : Zone → Course}

theorem State.atOrPast_iff {m : Nat} : s.atOrPast wrap m = true ↔ wrap = true ∨ m ≤ s.clock := by
  simp [State.atOrPast]

theorem State.clearBy_iff : s.clearBy c b = true ↔ ∀ z ∈ b.reserved,
    let q := if b.state = .booked then (c z).place s z b.id b.crane else c z
    (q.record.holder = none ∨ q.record.holder = some b.crane) ∧ q.record.sweep = [] := by
  simp only [State.clearBy, List.all_eq_true, ZoneRt.clearFor_iff]

/-! ## The verdict, case by case -/

section
variable (hb : b.state = .booked)
include hb

theorem State.verdict_before_start (h : ¬ s.atOrPast wrap b.start = true) (clear : Bool) : s.verdict wrap b clear = [] := by
  simp [State.verdict, hb, h]

theorem State.verdict_no_start (h : s.atOrPast wrap b.start = true)
    (late : s.atOrPast wrap b.deadline = true ∨ s.atOrPast wrap b.finish = true) (clear : Bool) :
    s.verdict wrap b clear = [(.lapsed, .noStart)] := by
  simp [State.verdict, hb, h, late]

theorem State.verdict_at_start (h : s.atOrPast wrap b.start = true) (early : ¬ s.atOrPast wrap b.deadline = true)
    (early' : ¬ s.atOrPast wrap b.finish = true) (clear : Bool) : s.verdict wrap b clear =
      if s.callFailure b = none then (.calling, .called) :: (if clear then [(.active, .cleared)] else []) else [] := by
  simp [State.verdict, hb, h, early, early']

end

section
variable (hb : b.state = .calling)
include hb

theorem State.verdict_not_clear (late : s.atOrPast wrap b.deadline = true ∨ s.atOrPast wrap b.finish = true)
    (clear : Bool) : s.verdict wrap b clear = [(.lapsed, .notClear)] := by
  simp [State.verdict, hb, late]

theorem State.verdict_calling (early : ¬ s.atOrPast wrap b.deadline = true) (early' : ¬ s.atOrPast wrap b.finish = true)
    (clear : Bool) : s.verdict wrap b clear =
      if s.callFailure b = none ∧ clear = true then [(.active, .cleared)] else [] := by
  simp [State.verdict, hb, early, early']

end

theorem State.verdict_finished (hb : b.state = .active ∨ b.state = .suspended) (late : s.atOrPast wrap b.finish = true)
    (clear : Bool) : s.verdict wrap b clear = [(if s.overOpened b then .closing else .ended, .finished)] := by
  rcases hb with hb | hb <;> simp [State.verdict, hb, late]

theorem State.verdict_active (hb : b.state = .active) (early : ¬ s.atOrPast wrap b.finish = true) (clear : Bool) :
    s.verdict wrap b clear = match s.callFailure b with
      | none => []
      | some cause => [(.suspended, cause)] := by
  simp only [State.verdict, hb]
  exact if_neg early

theorem State.verdict_suspended (hb : b.state = .suspended) (early : ¬ s.atOrPast wrap b.finish = true) (clear : Bool) :
    s.verdict wrap b clear = if s.callFailure b = none ∧ clear = true then [(.active, .resumed)] else [] := by
  simp [State.verdict, hb, early]

theorem State.verdict_closing (hb : b.state = .closing) (clear : Bool) :
    s.verdict wrap b clear = if s.overOpened b then [] else [(.ended, .left)] := by
  simp only [State.verdict, hb]

end

/-! ## What has become of one booking -/

section
variable {s t : State} {wrap : Bool} {c₀ c : Zone → Course} {others new : List Event} {posted : List Notice} {b : Booking}
  {steps : List (BookingState × BookingCause)}

/-- The record, its events and its zones after its changes. -/
theorem State.Told.brought (told : s.Told c₀ b steps t c others) (ran : ∀ z, t.ran z (c z) new posted)
    (rest : new.filter (fun e => !e.conflicts) = others) :
    (∃ n, t.bookings.find? (fun d => d.id == b.id) = some { b.after s.clock steps with termSeq := n }) ∧
      (steps = [] → t.bookings.find? (fun d => d.id == b.id) = some b) ∧
      new.filter (fun e => e.kind == .bookingState && e.booking == b.id) =
        steps.map (fun c => s.record .bookingState (number b.crane) 0 b.id c.1.code c.2.code) ∧
      (s.exact b → ∀ z ∈ b.reserved, t.ran z (Course.tells s b.id b.crane 1 z b.state steps (c₀ z)) new posted) := by
  obtain ⟨d, hd, ⟨n, became⟩, same⟩ := told.found
  refine ⟨⟨n, became ▸ hd⟩, fun none => same none ▸ hd, ?_, fun exact z hz => told.courses exact z hz ▸ ran z⟩
  rw [filter_of_filter rest _ fun e he => ?_, told.events, State.changes]
  have kind : e.kind = .bookingState := by simpa using (Bool.and_eq_true_iff.mp he).1
  simp [Event.conflicts, kind]

theorem State.Told.reviewed (told : s.Told c₀ b steps t c others) (judged : ∃ clear, steps = s.verdict wrap b clear)
    (exactly : s.exact b → steps = s.verdict wrap b (s.clearBy c₀ b)) (ran : ∀ z, t.ran z (c z) new posted)
    (rest : new.filter (fun e => !e.conflicts) = others) : s.reviewed wrap c₀ b t new posted := by
  obtain ⟨becomes, stays, events, zones⟩ := told.brought ran rest
  have stayed : steps = [] → t.bookings.find? (fun d => d.id == b.id) = some b ∧
      new.filter (fun e => e.kind == .bookingState && e.booking == b.id) = [] ∧
        ((b.reserved.Nodup ∧ ∀ d ∈ s.bookings, d.id ≠ b.id → d.state.terminal = false → ∀ z ∈ b.reserved, z ∉ d.reserved) →
          ∀ z ∈ b.reserved, t.ran z (c₀ z) new posted) := by
    rintro rfl
    exact ⟨stays rfl, events, fun alone => zones (.inl alone)⟩
  have always : ∀ {l}, (∀ clear, s.verdict wrap b clear = l) → steps = l := by
    rintro l h
    obtain ⟨clear, rfl⟩ := judged
    exact h clear
  have clears : ∀ {l}, s.exact b → s.clearBy c₀ b = true → s.verdict wrap b true = l → steps = l := by
    rintro l exact clear rfl
    rw [exactly exact, clear]
  have blocked : ∀ {l}, s.exact b → ¬ s.clearBy c₀ b = true → s.verdict wrap b false = l → steps = l := by
    rintro l exact clear rfl
    rw [exactly exact, Bool.eq_false_of_not_eq_true clear]
  unfold State.reviewed
  dsimp only
  simp only [State.obstacle_eq, ← State.atOrPast_iff, ← State.overOpened_iff]
  refine ⟨fun hb => ⟨fun early => ?_, fun started late => ?_, fun started early early' => ⟨fun cause failure => ?_,
    fun met => ?_, fun met clear => ?_, fun met alone blocks => ?_⟩⟩, fun hb => ⟨fun late => ?_, fun early early' =>
    ⟨fun cause failure => ?_, fun met clear => ?_, fun met alone blocks => ?_⟩⟩, fun hb late => ⟨fun opened => ?_,
    fun left => ?_⟩, fun hb early => ⟨fun met => ?_, fun cause failure => ?_⟩, fun hb early => ⟨fun cause failure => ?_,
    fun met clear => ?_, fun met alone blocks => ?_⟩, fun hb => ⟨fun opened => ?_, fun left => ?_⟩, fun terminal => ?_⟩
  · exact stayed (always (State.verdict_before_start hb early))
  · obtain rfl := always (State.verdict_no_start hb started late)
    rw [hb] at zones
    exact ⟨becomes, events, fun alone => zones (.inl alone)⟩
  · exact stayed (always fun clear => by rw [State.verdict_at_start hb started early early', failure, if_neg nofun])
  · obtain ⟨clear, rfl⟩ := judged
    rw [State.verdict_at_start hb started early early', if_pos met] at becomes
    cases clear with
    | false => exact .inl becomes
    | true => exact .inr becomes
  · have exact : s.exact b := clear.elim .inr fun h => .inl h.1
    have found : s.clearBy c₀ b = true := by
      rw [State.clearBy_iff]
      simp only [hb, if_true]
      rcases clear with none | ⟨-, clear⟩
      · simp [none]
      · exact clear
    obtain rfl := clears exact found (by rw [State.verdict_at_start hb started early early', if_pos met])
    rw [hb] at zones
    exact ⟨becomes, events, fun alone => zones (.inl alone)⟩
  · have found : ¬ s.clearBy c₀ b = true := by
      rw [State.clearBy_iff]
      simp only [hb, if_true]
      exact blocks
    obtain rfl := blocked (.inl alone) found (by rw [State.verdict_at_start hb started early early', if_pos met])
    rw [hb] at zones
    exact ⟨becomes, events, fun alone => zones (.inl alone)⟩
  · obtain rfl := always (State.verdict_not_clear hb late)
    rw [hb] at zones
    exact ⟨becomes, events, fun alone => zones (.inl alone)⟩
  · exact stayed (always fun clear => by rw [State.verdict_calling hb early early', failure, if_neg (by simp)])
  · have exact : s.exact b := clear.elim .inr fun h => .inl h.1
    have found : s.clearBy c₀ b = true := by
      rw [State.clearBy_iff]
      simp only [hb]
      rcases clear with none | ⟨-, clear⟩
      · simp [none]
      · exact clear
    obtain rfl := clears exact found (by rw [State.verdict_calling hb early early', if_pos ⟨met, rfl⟩])
    rw [hb] at zones
    exact ⟨becomes, events, fun alone => zones (.inl alone)⟩
  · have found : ¬ s.clearBy c₀ b = true := by
      rw [State.clearBy_iff]
      simp only [hb]
      exact blocks
    exact stayed (blocked (.inl alone) found (by rw [State.verdict_calling hb early early', if_neg (by simp)]))
  · obtain rfl := always fun clear => by rw [State.verdict_finished hb late, if_pos opened]
    have removed : ∀ z q, Course.tells s b.id b.crane 1 z b.state [(.closing, .finished)] q = q.unreserve s z b.id :=
      fun z q => if_pos ((BookingState.reserves_iff b.state).mpr (.inr hb))
    simp only [removed] at zones
    exact ⟨becomes, events, fun alone => zones (.inl alone)⟩
  · obtain rfl := always fun clear => by rw [State.verdict_finished hb late, if_neg left]
    have removed : ∀ z q, Course.tells s b.id b.crane 1 z b.state [(.ended, .finished)] q = q.unreserve s z b.id :=
      fun z q => if_pos ((BookingState.reserves_iff b.state).mpr (.inr hb))
    simp only [removed] at zones
    exact ⟨becomes, events, fun alone => zones (.inl alone)⟩
  · exact stayed (always fun clear => by rw [State.verdict_active hb early, met])
  · obtain rfl := always fun clear => by rw [State.verdict_active hb early, failure]
    exact ⟨becomes, events, fun alone => zones (.inl alone)⟩
  · exact stayed (always fun clear => by rw [State.verdict_suspended hb early, failure, if_neg (by simp)])
  · have exact : s.exact b := clear.elim .inr fun h => .inl h.1
    have found : s.clearBy c₀ b = true := by
      rw [State.clearBy_iff]
      simp only [hb]
      rcases clear with none | ⟨-, clear⟩
      · simp [none]
      · exact clear
    obtain rfl := clears exact found (by rw [State.verdict_suspended hb early, if_pos ⟨met, rfl⟩])
    exact ⟨becomes, events, fun alone => zones (.inl alone)⟩
  · have found : ¬ s.clearBy c₀ b = true := by
      rw [State.clearBy_iff]
      simp only [hb]
      exact blocks
    exact stayed (blocked (.inl alone) found (by rw [State.verdict_suspended hb early, if_neg (by simp)]))
  · exact stayed (always fun clear => by rw [State.verdict_closing hb, if_pos opened])
  · obtain rfl := always fun clear => by rw [State.verdict_closing hb, if_neg left]
    rw [hb] at zones
    exact ⟨becomes, events, fun alone => zones (.inl alone)⟩
  · exact stayed (always (State.verdict_of_terminal terminal))

end

end Sys2Proof.Machine
end

section
/-! SUPPORT. The reviews of all bookings picked, in the words of `State.reviews` (R110). -/

namespace Sys2Proof.Machine

theorem mem_inOrder {α : Type} [DecidableEq α] (order : List α) : ∀ (all : List α) (a : α), a ∈ inOrder order all ↔ a ∈ all := by
  induction order with
  | nil => exact fun _ _ => Iff.rfl
  | cons x order ih =>
    intro all a
    unfold inOrder
    split
    · rename_i hx
      rw [List.mem_cons, ih]
      by_cases ha : a = x
      · simp [ha, hx]
      · simp [ha, List.mem_erase_of_ne ha]
    · exact ih all a

section
variable {s t₀ : State} {c₀ : Zone → Course} {begun : List Event} {wrap : Bool}

theorem State.review_of_unset {t : State} (h : t.clockValid = false) (wrap : Bool) (id : Nat) : State.review wrap t id = t := by
  simp [State.review, h]

/-- Without a valid clock there are no reviews (R110). -/
theorem State.reviewAll_of_unset {t : State} (h : t.clockValid = false) (wrap : Bool) (order : List Nat) (p : Booking → Bool) :
    t.reviewAll wrap order p = t := by
  unfold State.reviewAll
  generalize inOrder order _ = l
  induction l with
  | nil => rfl
  | cons id l ih => rw [List.foldl_cons, State.review_of_unset h, ih]

/-- Before the first review. -/
theorem State.Underway.start (went : s.Went c₀ begun t₀) (bookings : t₀.bookings = s.bookings) (valid : t₀.clockValid = true)
    (verdict : ∀ d clear, t₀.verdict wrap d clear = s.verdict wrap d clear) (quiet : ∀ e ∈ begun, e.kind ≠ .bookingState) :
    s.Underway wrap c₀ begun [] t₀ c₀ begun := by
  refine ⟨went, valid, verdict, by rw [bookings], fun b hb => ⟨[], ⟨⟨b, ?_, .nil ..⟩, ?_, fun _ _ _ => rfl⟩, by simp, by simp⟩,
    fun _ _ => rfl, List.filter_eq_self.mpr fun e he => by simp [quiet e he]⟩
  · rw [State.booking, bookings]
    exact hb
  · exact List.filter_eq_nil_iff.mpr fun e he => by simp [quiet e he]

/-- The reviews that a notice or a second of the clock brings: `p` picks the bookings that `picked` says, or all that are not
terminal where every booking is to be reviewed. -/
theorem State.Went.reviewAll (went : s.Went c₀ begun t₀) (bookings : t₀.bookings = s.bookings)
    (valid : t₀.clockValid = s.clockValid) (verdict : ∀ d clear, t₀.verdict wrap d clear = s.verdict wrap d clear)
    (quiet : ∀ e ∈ begun, e.kind ≠ .bookingState) {p : Booking → Bool} {picked : Booking → Prop}
    (sound : ∀ d, p d = true → picked d) (complete : (∀ d, picked d → p d = true) ∨ ∀ d, p d = true ∨ d.state.terminal = true)
    (order : List Nat) :
    ∃ new posted, s.logged (t₀.reviewAll wrap order p) new ∧ (t₀.reviewAll wrap order p).notices = s.notices ++ posted ∧
      s.reviews wrap picked c₀ (t₀.reviewAll wrap order p) new posted ∧
      new.filter (fun e => e.kind ∉ [EventKind.bookingState, .conflictBegin, .conflictEnd]) = begun := by
  have kinds : ∀ {others new : List Event}, new.filter (fun e => !e.conflicts) = others →
      others.filter (fun e => decide (e.kind ≠ .bookingState)) = begun →
      new.filter (fun e => e.kind ∉ [EventKind.bookingState, .conflictBegin, .conflictEnd]) = begun := by
    rintro others new rfl h
    rw [← h, List.filter_filter]
    exact List.filter_congr fun e _ => by rw [Bool.eq_iff_iff]; simp [Event.conflicts]
  cases hv : s.clockValid with
  | false =>
    obtain ⟨new, posted, logged, notices, ran, rest⟩ := went.ran
    rw [State.reviewAll_of_unset (valid.trans hv)]
    have none : ∀ e ∈ new, e.kind ≠ .bookingState := by
      intro e he
      rcases mem_of_filter rest he with (hk | hk) | hk
      · simp [hk]
      · simp [hk]
      · exact quiet e hk
    refine ⟨new, posted, logged, notices, ⟨by rw [bookings], fun _ => bookings, fun b hb => ⟨fun made => ?_, fun _ => ⟨?_, ?_⟩⟩,
      fun z _ => ran z⟩, kinds rest (List.filter_eq_self.mpr fun e he => by simp [quiet e he])⟩
    · rw [hv] at made
      cases made.1
    · rw [bookings]
      exact hb
    · exact fun e he hk => absurd hk (none e he)
  | true =>
    have ids : ∀ id, id ∈ inOrder order ((t₀.bookings.filter p).map (·.id)) ↔ ∃ d ∈ s.bookings, d.id = id ∧ p d = true := by
      intro id
      rw [mem_inOrder, bookings]
      simp only [List.mem_map, List.mem_filter, and_assoc]
      exact exists_congr fun d => by tauto
    unfold State.reviewAll
    generalize inOrder order ((t₀.bookings.filter p).map (·.id)) = l at ids ⊢
    obtain ⟨c, others, under⟩ := (State.Underway.start went bookings (valid.trans hv) verdict quiet).foldl l fun id hid => by
      obtain ⟨d, hd, rfl, -⟩ := (ids id).mp hid
      exact List.mem_map_of_mem hd
    rw [List.append_nil] at under
    generalize l.foldl (State.review wrap) t₀ = t at under ⊢
    obtain ⟨new, posted, logged, notices, ran, rest⟩ := under.went.ran
    refine ⟨new, posted, logged, notices, ⟨under.ids, fun h => absurd (h.symm.trans hv) nofun, fun b hb => ?_, fun z hz => ?_⟩,
      kinds rest under.begun⟩
    · obtain ⟨steps, told, fresh, reviewed⟩ := under.told b hb
      rw [List.mem_reverse] at fresh reviewed
      have mem : b ∈ s.bookings := List.mem_of_find?_eq_some hb
      have brought : steps = [] → t.bookings.find? (fun d => d.id == b.id) = some b ∧
          new.filter (fun e => e.kind == .bookingState && e.booking == b.id) = [] := by
        rintro rfl
        obtain ⟨-, stays, events, -⟩ := told.brought ran rest
        exact ⟨stays rfl, events⟩
      refine ⟨fun ⟨_, d, hd, same, hp⟩ => ?_, fun unmade => ?_⟩
      · by_cases hl : b.id ∈ l
        · exact told.reviewed (reviewed hl).1 (reviewed hl).2 ran rest
        · have left : ∀ d ∈ s.bookings, d.id = b.id → ¬ p d = true := fun d hd same hp => hl ((ids b.id).mpr ⟨d, hd, same, hp⟩)
          have terminal : b.state.terminal = true := by
            rcases complete with all | all
            · exact absurd (all d hp) (left d hd same)
            · exact (all b).resolve_left (left b mem rfl)
          have none := fun clear => State.verdict_of_terminal (s := s) (wrap := wrap) terminal clear
          rw [fresh hl] at told
          exact told.reviewed ⟨true, (none _).symm⟩ (fun _ => (none _).symm) ran rest
      · have hl : b.id ∉ l := by
          intro hl
          obtain ⟨d, hd, same, hp⟩ := (ids b.id).mp hl
          exact unmade ⟨hv, d, hd, same, sound d hp⟩
        obtain ⟨found, events⟩ := brought (fresh hl)
        refine ⟨found, fun e he kind same => ?_⟩
        exact List.filter_eq_nil_iff.mp events e he (by simp [kind, same])
    · rw [← under.free z fun d hd hid running => ?_]
      · exact ran z
      · obtain ⟨e, he, same, hp⟩ := (ids d.id).mp (List.mem_reverse.mp hid)
        exact hz d hd ⟨hv, e, he, same, sound e hp⟩ running

end

end Sys2Proof.Machine
end

section
/-! SUPPORT. The clock's second and the notices that bring reviews, each as the reviews that follow it. -/

namespace Sys2Proof.Machine

/-- Reviews without an event of another kind append no other kind. -/
theorem kinds_of_filter {ks : List EventKind} {new : List Event} (h : new.filter (fun e => decide (e.kind ∉ ks)) = []) :
    ∀ e ∈ new, e.kind ∈ ks := fun e he => by simpa using List.filter_eq_nil_iff.mp h e he

theorem State.overOpened_congr {s t : State} (h : ∀ z, (t.zone z).inside = (s.zone z).inside) (b : Booking) :
    t.overOpened b = s.overOpened b := by
  unfold State.overOpened
  exact congrArg (b.opened.any ·) (funext fun z => by rw [h])

/-! ## The second of the site clock (R170) -/

theorem State.reach_eq (s : State) (due : Moment) : ∃ m, s.reach due = { s with msCount := m } := by
  unfold State.reach
  split
  · exact ⟨due, rfl⟩
  · exact ⟨s.msCount, rfl⟩

/-- The state that the reviews of a second begin in: nothing but the time counters has moved. -/
theorem State.secondPasses_eq (s : State) (order : List Nat) : ∃ u : State,
    Within [.msCount, .clockDue] { s with clock := s.clockNext } u ∧ u.clockDue = s.clockDue + 1000 ∧
      s.secondPasses order = u.reviewAll (s.clockNext == 0) order (fun b => !b.state.terminal) := by
  obtain ⟨m, hm⟩ := s.reach_eq s.clockDue
  refine ⟨{ s with msCount := m, clock := s.clockNext, clockDue := s.clockDue + BitVec.ofNat 32 Config.second }, ?_, rfl, ?_⟩
  · constructor
    intro p hp
    cases p <;> first | (simp at hp; done) | rfl
  · unfold State.secondPasses
    rw [hm]
    rfl

/-- Settles O53: the second is counted, and the reviews follow against the new reading. -/
theorem aSecondAdvancesTheClock : Obligations.ASecondAdvancesTheClock := by
  intro s order
  obtain ⟨u, ticked, due, reviews⟩ := s.secondPasses_eq order
  have arb : u.arb = s.arb := ticked.same .arb (by decide)
  have bookings : u.bookings = s.bookings := ticked.same .bookings (by decide)
  have valid : u.clockValid = s.clockValid := ticked.same .clockValid (by decide)
  have went := (State.Went.start { s with clock := s.clockNext }).keep ticked (by decide)
  obtain ⟨new, posted, logged, notices, reviewed, kinds⟩ := went.reviewAll (wrap := s.clockNext == 0) bookings valid
    (fun d clear => State.verdict_congr (ticked.same .clock (by decide)) (State.callFailure_of_within ticked (by decide))
      (State.overOpened_congr fun z => congrArg ZoneRt.inside (State.zone_congr arb z)) ..) (by simp)
    (p := fun b => !b.state.terminal) (picked := fun _ => True)
    (fun _ _ => trivial) (.inr fun d => by cases d.state.terminal <;> simp) order
  rw [← reviews] at logged notices reviewed
  have clock : (s.secondPasses order).clock = s.clockNext := by
    rw [reviews, (State.reviewAll_within ..).same .clock (by decide)]
    exact ticked.same .clock (by decide)
  refine ⟨s.secondPasses order, new, posted, rfl, s.secondPasses_within order, clock, ?_, logged, notices,
    fun unset => ?_, ?_, kinds_of_filter kinds⟩
  · rw [reviews, (State.reviewAll_within ..).same .clockDue (by decide), due]
  · rw [reviews, State.reviewAll_of_unset (valid.trans unset)]
    exact ⟨bookings, arb, ticked.same .events (by decide)⟩
  · rw [clock]
    exact reviewed

end Sys2Proof.Machine
end

section
/-! SUPPORT. The notices that bring reviews (R102, R74, R167, R171, R139), a link notice after its zones are guarded (R55). -/

namespace Sys2Proof.Machine

/-- The notice delivered is the first that is picked. -/
theorem takeFirst_of_mem {p : Notice → Bool} {l : List Notice} (h : ∃ n ∈ l, p n = true) :
    ∃ n, takeFirst p l = some (n, l.eraseP p) := by
  induction l with
  | nil => simp at h
  | cons m l ih =>
    unfold takeFirst
    by_cases hm : p m = true
    · exact ⟨m, by rw [if_pos hm, List.eraseP_cons_of_pos hm]⟩
    · obtain ⟨n, hn⟩ := ih (by simpa [hm] using h)
      exact ⟨n, by rw [if_neg hm, hn, List.eraseP_cons_of_neg hm]⟩

theorem isMode_eq : Notice.isMode = (· == .mode) := by
  funext n
  cases n <;> rfl

theorem isClock_eq : Notice.isClock = (· == .clock) := by
  funext n
  cases n <;> rfl

/-- A notice that goes to the Booking Scheduler alone brings the reviews of the bookings picked. -/
theorem exec_reviews {s : State} {order : List Nat} {c : Instr} {delivered : Notice → Bool} {p : Booking → Bool}
    {picked : Booking → Prop}
    (run : exec c s = .next (s.deliver delivered (fun _ u => u.reviewAll false order p)))
    (on : ∃ n ∈ s.notices, delivered n = true) (sound : ∀ d, p d = true → picked d)
    (complete : (∀ d, picked d → p d = true) ∨ ∀ d, p d = true ∨ d.state.terminal = true) :
    ∃ t new posted, exec c s = .next t ∧ Within (touches c) s t ∧ s.logged t new ∧
      t.notices = s.notices.eraseP delivered ++ posted ∧ s.reviews false picked s.courseOf t new posted ∧
      new.filter (fun e => e.kind ∉ [EventKind.bookingState, .conflictBegin, .conflictEnd]) = [] := by
  obtain ⟨n, taken⟩ := takeFirst_of_mem on
  obtain ⟨t, ht, within⟩ := exec_completes_within c s
  rw [State.deliver_of_taken taken] at run
  obtain rfl := Host.Outcome.next.inj (ht.symm.trans run)
  obtain ⟨new, posted, reviewed⟩ := (State.Went.start { s with notices := s.notices.eraseP delivered }).reviewAll
    (wrap := false) rfl rfl (fun _ _ => rfl) (by simp) sound complete order
  exact ⟨_, new, posted, run, within, reviewed⟩

/-- The zones that a link notice guards (R55). -/
def State.linkGuards (s : State) (k : Crane) (new : LinkState) : List Zone :=
  (allZones.filter (fun z => s.isShared z && (s.faceIn k z).isSome)).filter (fun z => decide (new ≠ .online ∧
    s.mode ≠ .setup ∧ s.worked k = true ∧ z ∉ s.declared[k] ∧ k ∉ (s.zone z).guard))

/-- The course of a zone up to the reviews of a link notice. -/
def State.linkCourse (s : State) (k : Crane) (new : LinkState) (z : Zone) : Course :=
  if z ∈ s.linkGuards k new then (s.courseOf z).set { s.zone z with guard := addTo k (s.zone z).guard } else s.courseOf z

section
variable (s : State) (k : Crane) (old new : LinkState)

theorem State.linkGuards_eq : s.linkGuards k new =
    if new ≠ .online ∧ s.mode ≠ .setup ∧ s.worked k = true then s.guardsAdded k else [] := by
  unfold State.linkGuards State.guardsAdded
  rw [State.sharedZonesOf_eq]
  split
  · rename_i h
    exact List.filter_congr fun z _ => by simp [h]
  · rename_i h
    exact List.filter_eq_nil_iff.mpr fun z _ hz => h (by simp only [decide_eq_true_eq] at hz; tauto)

theorem State.guardsBegun_eq : s.guardsBegun k new = if s.linkGuards k new = [] then []
    else [s.record .guardBegin (number k) 0 0 (s.linkGuards k new).length
      ((allZones.filter (fun z => s.isShared z && (s.faceIn k z).isSome)).filter
        (fun z => decide (z ∈ s.declared[k]))).length] := by
  rw [← State.sharedZonesOf_eq, ← State.guardsSkipped, State.linkGuards_eq, State.guardsBegun]
  by_cases h : new ≠ .online ∧ s.mode ≠ .setup ∧ s.worked k = true
  · by_cases ha : s.guardsAdded k = [] <;> simp [h, ha]
  · simp only [if_neg h, if_true]
    exact if_neg fun hg => h hg.1

/-- The state that the reviews of a link notice begin in. -/
def State.linked : State := (s.linkZones k old new).sourced k old new

theorem State.linked_within : Within [.faces, .declared, .wind, .arb, .events, .overflow] s (s.linked k old new) :=
  ((State.linkZones_within ..).mono (by decide)).trans ((State.sourced_within ..).mono (by decide))

theorem State.linkCourse_record (z : Zone) : (s.linkCourse k new z).record =
    if (new ≠ .online ∧ s.mode ≠ .setup ∧ s.worked k = true) ∧ z ∈ s.guardsAdded k then (s.zone z).guarded k
    else s.zone z := by
  unfold State.linkCourse
  rw [State.linkGuards_eq]
  by_cases h : new ≠ .online ∧ s.mode ≠ .setup ∧ s.worked k = true
  · by_cases hz : z ∈ s.guardsAdded k <;> simp [h, hz, Course.set, ZoneRt.guarded, State.courseOf]
  · simp only [if_neg h, List.not_mem_nil, if_false]
    exact (if_neg fun hg => h hg.1).symm

/-- Up to the reviews, the zones are guarded and GUARD_BEGIN is appended. -/
theorem State.linked_went : s.Went (s.linkCourse k new) (s.guardsBegun k new) (s.linked k old new) := by
  obtain ⟨zones, logged⟩ := s.linkZones_guards k old new
  have within := s.linked_within k old new
  have sourced := (s.linkZones k old new).sourced_within k old new
  have begun : ∀ e ∈ s.guardsBegun k new, e.conflicts = false := by
    unfold State.guardsBegun
    split <;> simp [Event.conflicts, State.record]
  refine ⟨within.same .clock (by decide), s.guardsBegun k new, [], ?_, ?_, fun z => State.ran_iff.mpr ⟨?_, ?_, ?_⟩, ?_⟩
  · have told := State.logged_trans logged
      (State.logged_of_same (sourced.same .events (by decide)) (sourced.same .overflow (by decide)))
    rwa [List.append_nil] at told
  · rw [within.same .notices (by decide), List.append_nil]
  · rw [State.linkCourse_record, ← zones z]
    exact State.zone_congr (sourced.same .arb (by decide)) z
  · have quiet : (s.linkCourse k new z).events = [] := by
      unfold State.linkCourse
      split <;> rfl
    rw [quiet]
    exact List.filter_eq_nil_iff.mpr fun e he hz =>
      absurd (Event.conflicts_of_isConflict hz) (by simp [begun e he])
  · unfold State.linkCourse
    split <;> rfl
  · exact List.filter_eq_self.mpr fun e he => by rw [begun e he]; rfl

/-- The call conditions read the wind level and the closed values, which a stale own source leaves. -/
theorem State.linked_callFailure (b : Booking) : (s.linked k old new).callFailure b = s.callFailure b := by
  have zones := s.linkZones_within k old new
  have within := s.linked_within k old new
  have mode : (s.linked k old new).mode = s.mode := within.same .mode (by decide)
  have lines : (s.linked k old new).lines = s.lines := within.same .lines (by decide)
  have service : (s.linked k old new).service = s.service := within.same .service (by decide)
  have cranes : (s.linked k old new).cranes = s.cranes := within.same .cranes (by decide)
  have wind : (s.linkZones k old new).wind = s.wind := zones.same .wind (by decide)
  have values : ∀ j : Crane, (s.linked k old new).wind[j].level = s.wind[j].level ∧
      (s.linked k old new).wind[j].values = s.wind[j].values := by
    intro j
    rw [State.linked, State.wind_sourced, wind]
    split
    · rename_i h
      rw [h.1]
      exact ⟨rfl, rfl⟩
    · exact ⟨rfl, rfl⟩
  obtain ⟨level, closed⟩ := values b.crane
  rw [← State.obstacle_eq, ← State.obstacle_eq]
  simp only [State.obstacle, State.line, State.craneRec, State.crane, mode, lines, service, cranes, level, closed]
  rfl

theorem State.linked_verdict (wrap : Bool) (b : Booking) (clear : Bool) :
    (s.linked k old new).verdict wrap b clear = s.verdict wrap b clear := by
  refine State.verdict_congr ((s.linked_within k old new).same .clock (by decide)) (s.linked_callFailure k old new)
    (State.overOpened_congr fun z => ?_) ..
  rw [(s.linked_went k old new).record, State.linkCourse_record]
  split <;> rfl

end

/-- Settles O51: the notice is taken, a link notice guards its zones, and the reviews follow. -/
theorem aNoticeReviewsTheBookings : Obligations.ANoticeReviewsTheBookings := by
  intro s order
  dsimp only
  refine ⟨fun k on => ?_, fun k on => ?_, fun on => ?_, fun on => ?_, fun k old new rest taken review => ?_⟩
  · exact exec_reviews rfl on (by simp) (.inl (by simp))
  · exact exec_reviews rfl on (by simp) (.inl (by simp))
  · rw [List.erase_eq_eraseP', ← isMode_eq]
    exact exec_reviews rfl ⟨_, on, rfl⟩ (fun _ _ => trivial) (.inr fun d => by cases d.state.terminal <;> simp)
  · rw [List.erase_eq_eraseP', ← isClock_eq]
    exact exec_reviews rfl ⟨_, on, rfl⟩ (fun _ _ => trivial) (.inr fun d => by cases d.state.terminal <;> simp)
  · have run := exec_linkNotice order taken
    obtain ⟨t, ht, within⟩ := exec_completes_within (.linkNotice k order) s
    obtain rfl := Host.Outcome.next.inj (ht.symm.trans run)
    generalize hu : ({ s with notices := rest } : State) = u at run within
    have reviews : u.linkChanged k old new order = (u.linked k old new).reviewAll false order (fun b => b.crane == k) :=
      if_pos review
    have same := u.linked_within k old new
    obtain ⟨new', posted, logged, notices, reviewed, kinds⟩ := (u.linked_went k old new).reviewAll (wrap := false)
      (same.same .bookings (by decide)) (same.same .clockValid (by decide)) (u.linked_verdict k old new false) (by
        unfold State.guardsBegun
        split <;> simp [State.record]) (p := fun b => b.crane == k) (picked := fun b => b.crane = k) (by simp)
      (.inl (by simp)) order
    rw [← reviews] at logged notices reviewed
    rw [State.guardsBegun_eq] at kinds
    subst hu
    exact ⟨_, new', posted, run, within, logged, notices, reviewed, kinds⟩

end Sys2Proof.Machine
end

section
/-! SUPPORT. What the weathervane handling of a composition appends, event by event (R77 to R80); nothing before it in a
cycle expiry is an event of the weathervane. -/

namespace Sys2Proof.Machine

/-- The events of the weathervane (R172). -/
def vaneKinds : List EventKind := [.weathervaneOn, .weathervaneOff, .weathervaneBlocked]

/-- Going from `t` to `u` the weathervane events appended are `events`. -/
def State.Turns (t u : State) (events : List Event) : Prop :=
  ∃ new, t.logged u new ∧ new.filter (fun e => e.kind ∈ vaneKinds) = events

section
variable {t u v : State} {l m : List Event} {k : Crane}

theorem State.Turns.refl (t : State) : t.Turns t [] := ⟨[], State.logged_refl t, rfl⟩

theorem State.Turns.trans (h : t.Turns u l) (h' : u.Turns v m) : t.Turns v (l ++ m) := by
  obtain ⟨new, logged, rfl⟩ := h
  obtain ⟨new', logged', rfl⟩ := h'
  exact ⟨new ++ new', State.logged_trans logged logged', List.filter_append ..⟩

theorem State.Turns.of_within {ps : List Part} (h : Within ps t u) (he : Part.events ∉ ps) (ho : Part.overflow ∉ ps) :
    t.Turns u [] := ⟨[], State.logged_of_same (h.same .events he) (h.same .overflow ho), rfl⟩

theorem State.Turns.emit (t : State) {kind : EventKind} (hk : kind ∈ vaneKinds) (c z b : Nat) (x y : Int) :
    t.Turns (t.emit kind c z b x y) [t.record kind c z b x y] :=
  ⟨_, State.logged_emit t kind c z b x y, List.filter_eq_self.mpr fun e he => by simpa [List.mem_singleton.mp he, State.record] using hk⟩

/-- An action at one zone appends conflict events alone. -/
theorem State.ZoneStep.turns {z : Zone} {q p : Course} (h : t.ZoneStep z q u p) : t.Turns u [] := by
  obtain ⟨new, posted, ⟨logged, -, conflicts⟩, -⟩ := h.brings
  refine ⟨new, logged, List.filter_eq_nil_iff.mpr fun e he => ?_⟩
  rcases Event.isConflict_kind (conflicts e he) with hk | hk <;> simp [hk, vaneKinds]

theorem State.Turns.foldl {α : Type} {op : State → α → State} (quiet : ∀ (u : State) (a : α), u.Turns (op u a) []) (l : List α) :
    ∀ t : State, t.Turns (l.foldl op t) [] := by
  induction l with
  | nil => exact State.Turns.refl
  | cons a l ih => exact fun t => (quiet t a).trans (ih _)

/-! ## The evaluation and the zones of a composition -/

theorem State.guardEnd_turns (t : State) (k : Crane) : t.Turns (t.guardEnd k) [] := by
  unfold State.guardEnd
  dsimp only
  split
  · exact .refl t
  · have zones := State.Turns.foldl
      (fun u z => (State.unguardZone_step (Within.refl ..) (q := u.courseOf z) rfl k).turns)
    exact (zones _ t).trans (m := []) ⟨_, State.logged_emitCrane _ .guardEnd k _ 0, by simp [State.record, vaneKinds]⟩

theorem State.firstEvaluation_turns (t : State) (k : Crane) : t.Turns (t.firstEvaluation k) [] := by
  unfold State.firstEvaluation
  split
  · exact (State.Turns.of_within (State.modLine_within ..) (by decide) (by decide)).trans (State.guardEnd_turns ..)
  · exact .refl t

theorem State.evaluate_turns (t : State) (k : Crane) (r : Report) : t.Turns (t.evaluate k r) [] := by
  have faces : t.Turns (t.setFaces k (t.faceStates k r)) [] :=
    .of_within (State.setFaces_within ..) (by decide) (by decide)
  unfold State.evaluate
  dsimp only
  split
  · exact faces
  · exact (faces.trans (State.firstEvaluation_turns ..)).trans (State.Turns.foldl (fun u f =>
      (State.faceActions_step (Within.refl ..) k f (q := u.courseOf f.zone) rfl).1.turns) ..)

theorem State.assessed_turns (s : State) (k : Crane) (due : Moment) : s.Turns (s.assessed k due) [] := by
  have recycled : s.Turns (s.recycled k due) [] := .of_within (s.recycled_within k due) (by decide) (by decide)
  unfold State.assessed
  cases s.counted k with
  | none => exact recycled
  | some r => exact recycled.trans (State.evaluate_turns ..)

theorem State.claimZone_turns (t : State) (k : Crane) (z : Zone) : t.Turns (State.claimZone k t z) [] := by
  unfold State.claimZone
  dsimp only
  split
  · exact (State.ZoneStep.act (s := t) (q := t.courseOf z) rfl rfl ..).turns
  · exact .of_within (State.setZone_within ..) (by decide) (by decide)

theorem State.sendClaims_turns (t : State) (k : Crane) : t.Turns (t.sendClaims k) [] :=
  State.Turns.foldl (fun u z => u.claimZone_turns k z) ..

theorem State.withdrawSweeps_turns (t : State) (k : Crane) : t.Turns (t.withdrawSweeps k) [] :=
  State.Turns.foldl (fun u z => (State.withdrawSweepZone_step (Within.refl ..) (q := u.courseOf z) rfl k).turns) ..

end

/-! ## The record of the weathervane -/

/-- The record of the episode that a composition finds or begins at the moment `now` (R77). -/
def VaneRec.episode (v : VaneRec) (now : Moment) (cause : VaneCause) : VaneRec :=
  if v.state ≠ .none then v else { state := .pending, pendingSince := some now, alarm := false, cause := cause }

/-- The record that falls back to PENDING from ACTIVE (R78). -/
def VaneRec.pending (v : VaneRec) (now : Moment) : VaneRec :=
  if v.state = .active then { v with state := .pending, pendingSince := some now } else v

/-- PENDING for the sweep alarm time, the alarm not yet raised (R79). -/
def VaneRec.late (v : VaneRec) (now : Moment) (alarm : Nat) : Prop :=
  v.alarm = false ∧ ∃ since, v.pendingSince = some since ∧ alarm * 1000 ≤ (now - since).toNat

section
variable (t : State) (k : Crane)

/-- A new record with its event. -/
theorem State.vane_told (w : VaneRec) (kind : EventKind) (c z b : Nat) (x y : Int) :
    ((t.setVane k w).emit kind c z b x y).vane[k] = w := by
  simp only [State.emit_vane, State.vane_setVane, if_true]

theorem State.beginEpisode_vane : (t.beginEpisode k).vane[k] = t.vane[k].episode t.msCount (t.vaneCause k) := by
  unfold State.beginEpisode VaneRec.episode
  by_cases h : t.vane[k].state = .none
  · rw [if_neg (not_not.mpr h)]
    simp only [h, if_true, State.vane_setVane]
  · rw [if_pos h]
    simp only [h, if_false]

theorem State.beginEpisode_turns : t.Turns (t.beginEpisode k) [] := by
  unfold State.beginEpisode
  split
  · exact .of_within (State.setVane_within ..) (by decide) (by decide)
  · exact .refl t

theorem State.becomeActive_turns : t.Turns (t.becomeActive k) (if t.vane[k].state = .active then [] else
    [t.record .weathervaneOn (number k) 0 0 (t.swept k).length t.vane[k].cause.code]) := by
  unfold State.becomeActive
  split
  · exact .refl t
  · exact (State.Turns.of_within (State.setVane_within ..) (by decide) (by decide)).trans
      (.emit (t.setVane k { t.vane[k] with state := .active, pendingSince := none }) (by decide) (number k) 0 0 _ _)

theorem State.becomeActive_vane : (t.becomeActive k).vane[k] = if t.vane[k].state = .active then t.vane[k] else
    { t.vane[k] with state := .active, pendingSince := none } := by
  unfold State.becomeActive
  split
  · rfl
  · exact State.vane_told ..

theorem State.becomePending_turns : t.Turns (t.becomePending k) (if t.vane[k].state = .active then
    [t.record .weathervaneOff (number k) 0 0 0 1] else []) := by
  unfold State.becomePending
  split
  · exact (State.Turns.of_within (State.setVane_within ..) (by decide) (by decide)).trans
      (.emit (t.setVane k { t.vane[k] with state := .pending, pendingSince := some t.msCount }) (by decide) (number k) 0 0 0 1)
  · exact .refl t

theorem State.becomePending_vane : (t.becomePending k).vane[k] = t.vane[k].pending t.msCount := by
  unfold State.becomePending VaneRec.pending
  split
  · exact State.vane_told ..
  · rfl

/-- Only a record that is PENDING, and late, raises the alarm (R79). -/
theorem State.vaneAlarm_of_early (h : t.vane[k].state ≠ .pending ∨ ¬ t.vane[k].late t.msCount t.params.sweepAlarm) :
    t.vaneAlarm k = t := by
  unfold State.vaneAlarm
  dsimp only
  split
  · rename_i since state pending
    refine if_neg fun late => h.elim (· state) fun early => early ?_
    simp only [Bool.and_eq_true, Bool.not_eq_true', decide_eq_true_eq] at late
    exact ⟨late.1, since, pending, late.2⟩
  · rfl

theorem State.vaneAlarm_of_late (h : t.vane[k].state = .pending) (late : t.vane[k].late t.msCount t.params.sweepAlarm)
    {z : Zone} {rest : List Zone} (hz : t.unswept k = z :: rest) :
    (t.vaneAlarm k).vane[k] = { t.vane[k] with alarm := true } ∧ t.Turns (t.vaneAlarm k)
      [t.record .weathervaneBlocked (number k) (number z) 0 (t.unswept k).length
        ((t.unswept k).filter (fun y => decide (k ∈ (t.zone y).claims))).length] := by
  obtain ⟨quiet, since, pending, past⟩ := late
  have raised : t.vaneAlarm k = (t.setVane k { t.vane[k] with alarm := true }).emit .weathervaneBlocked (number k)
      (number z) 0 (t.unswept k).length ((t.unswept k).filter (fun y => decide (k ∈ (t.zone y).claims))).length := by
    unfold State.vaneAlarm
    simp only [h, pending, quiet, hz]
    refine (if_pos (decide_eq_true past)).trans ?_
    simp [numberOr0]
  rw [raised]
  exact ⟨State.vane_told ..,
    (State.Turns.of_within (State.setVane_within ..) (by decide) (by decide)).trans (.emit _ (by decide) ..)⟩

end

end Sys2Proof.Machine
end

section
/-! SUPPORT. A composition at the zones of its crane and at its weathervane record (R60 to R62, R77 to R80), and the miss
limit that it does not reach (R138). -/

namespace Sys2Proof.Machine

/-! ## Sweeps and claims through an action -/

/-- A grant pass adds to the sweep set those that claim, and to the claims nobody (R49). -/
theorem ZoneRt.grantPass_sweeps (r : ZoneRt) (j : Crane) :
    (j ∈ r.grantPass.sweep → j ∈ r.sweep ∨ j ∈ r.claims) ∧ (j ∈ r.grantPass.claims → j ∈ r.claims) ∧
      (j ∈ r.sweep → j ∈ r.grantPass.sweep) ∧ (j ∈ r.claims → j ∈ r.grantPass.sweep ∨ j ∈ r.grantPass.claims) := by
  rcases r.grantPass_cases with e | ⟨-, e | ⟨i, -, e | e⟩⟩ <;> rw [e]
  · simp_all
  · simp_all [ZoneRt.admitClaims]
  · simp_all [ZoneRt.grant]
  · simp_all [ZoneRt.admitClaims, ZoneRt.grant]

section
variable {s : State} {z : Zone} {k : Crane} {q : Course} {r : ZoneRt} {pass tell : Bool}

theorem Course.act_sweeps (i j : Crane) :
    (j ∈ (q.act s z i r pass tell).record.sweep → j ∈ r.sweep ∨ j ∈ r.claims) ∧
      (j ∈ (q.act s z i r pass tell).record.claims → j ∈ r.claims) ∧
      (j ∈ r.sweep → j ∈ (q.act s z i r pass tell).record.sweep) := by
  obtain ⟨sweep, claims, kept, -⟩ := r.grantPass_sweeps j
  unfold Course.act
  dsimp only
  split
  · exact ⟨sweep, claims, kept⟩
  · exact ⟨.inl, id, id⟩

/-- A sweep claim makes the crane a sweep member or a claimant (R60, R61). -/
theorem Course.claim_joins : k ∈ (q.claim s z k).record.sweep ∨ k ∈ (q.claim s z k).record.claims := by
  have swept : ∀ {r : ZoneRt}, k ∈ r.sweep → k ∈ (q.act s z k r false false).record.sweep :=
    fun h => (Course.act_sweeps k k).2.2 h
  unfold Course.claim
  dsimp only
  split
  · assumption
  · split
    · exact .inl (by simp [Course.set])
    · split
      · exact .inr (by simp [Course.set])
      · split
        · exact .inl (swept (by simp))
        · split
          · exact .inl (swept (by simp [ZoneRt.converted]))
          · exact .inr (by simp [Course.set])

/-- A sweep withdrawal takes the crane out of the sweep set, and of the claims of a shared zone (R62). -/
theorem Course.unclaim_leaves : k ∉ (q.unclaim s z k).record.sweep ∧
    (s.isShared z = true → k ∉ (q.unclaim s z k).record.claims) := by
  unfold Course.unclaim
  dsimp only
  split
  · obtain ⟨sweep, claims, -⟩ := Course.act_sweeps (s := s) (z := z) (q := q) (pass := decide (q.record.sweep ≠ [] ∧
      q.record.sweep.filter (· != k) = [])) (tell := false)
      (r := { q.record with sweep := q.record.sweep.filter (· != k), claims := q.record.claims.filter (· != k) }) k k
    exact ⟨fun h => by simpa using sweep h, fun _ h => by simpa using claims h⟩
  · exact ⟨by simp [Course.set], fun h => absurd h ‹_›⟩

end

/-! ## The state that a composition decides in -/

/-- The state after the evaluation, an episode begun and the claims sent, where the condition holds. -/
def State.readied (s : State) (k : Crane) (due : Moment) : State :=
  if s.mode = .setup then (s.assessed k due).beginEpisode k else ((s.assessed k due).beginEpisode k).sendClaims k

section
variable (s : State) (k : Crane) (due : Moment)

theorem State.assessed_within : Within (.msCount :: cycleParts) s (s.assessed k due) := State.assessed_assessed.came.within

theorem State.assessed_msCount : (s.assessed k due).msCount = (s.reach due).msCount := by
  rw [State.assessed_assessed.within.same .msCount (by decide)]
  exact State.modLine_msCount ..

theorem State.assessed_vane : (s.assessed k due).vane = s.vane :=
  (State.assessed_assessed.within.same .vane (by decide)).trans ((s.recycled_within k due).same .vane (by decide))

theorem State.readied_within : Within vaneParts (s.assessed k due) (s.readied k due) := by
  unfold State.readied
  exact Within.ite (State.beginEpisode_within ..) ((State.beginEpisode_within ..).trans ((State.sendClaims_within ..).mono (by decide)))

theorem State.readied_turns : s.Turns (s.readied k due) [] := by
  have begun := (s.assessed_turns k due).trans ((s.assessed k due).beginEpisode_turns k)
  unfold State.readied
  split
  · exact begun
  · exact begun.trans (State.sendClaims_turns ..)

theorem State.readied_vane :
    (s.readied k due).vane[k] = s.vane[k].episode (s.reach due).msCount (s.vaneCause k) := by
  have within := s.assessed_within k due
  have wind : (s.assessed k due).wind = s.wind := within.same .wind (by decide)
  have service : (s.assessed k due).service = s.service := within.same .service (by decide)
  have kept : (s.readied k due).vane = ((s.assessed k due).beginEpisode k).vane := by
    unfold State.readied
    split
    · rfl
    · exact (State.sendClaims_within ..).same .vane (by decide)
  have cause : (s.assessed k due).vaneCause k = s.vaneCause k := by simp only [State.vaneCause, wind, service]
  simp only [kept, State.beginEpisode_vane, State.assessed_vane, State.assessed_msCount, cause]

/-! ## What the composition makes of the record -/

/-- The zones of the crane in which it is no sweep member at last. -/
def State.unsweptAfter : List Zone :=
  (s.zonesOf k).filter (fun z => decide (k ∉ ((s.polled k due).zone z).sweep))

/-- The record of the weathervane after the composition, and the events it appends (R77 to R80). -/
def State.vaneOutcome : VaneRec × List Event :=
  let v := s.vane[k]
  let now := (s.reach due).msCount
  let unswept := s.unsweptAfter k due
  let episode := v.episode now (s.vaneCause k)
  let pending := episode.pending now
  let fall := if episode.state = .active then [s.record .weathervaneOff (number k) 0 0 0 1] else []
  if ¬ (s.wind[k].level = .storm ∨ s.service[k] = .out) then
    if v.state = .none then (v, [])
    else ({ v with state := .none, pendingSince := none, alarm := false },
      [s.record .weathervaneOff (number k) 0 0 1 (if v.state = .active then 1 else 0)])
  else if s.mode = .setup ∨ unswept = [] then
    if episode.state = .active then (episode, [])
    else ({ episode with state := .active, pendingSince := none },
      [s.record .weathervaneOn (number k) 0 0 ((s.zonesOf k).length - unswept.length : Nat) episode.cause.code])
  else if pending.alarm = false ∧ ∃ since, pending.pendingSince = some since ∧
      s.params.sweepAlarm * 1000 ≤ (now - since).toNat then
    ({ pending with alarm := true }, fall ++ [s.record .weathervaneBlocked (number k) (numberOr0 unswept.head?) 0
      unswept.length (unswept.filter (fun y => decide (k ∈ ((s.polled k due).zone y).claims))).length])
  else (pending, fall)

theorem State.vaneCondition_iff : (s.assessed k due).vaneCondition k = true ↔
    s.wind[k].level = .storm ∨ s.service[k] = .out := by
  have within := s.assessed_within k due
  have wind : (s.assessed k due).wind = s.wind := within.same .wind (by decide)
  have service : (s.assessed k due).service = s.service := within.same .service (by decide)
  simp [State.vaneCondition, wind, service]

theorem State.polled_vane_own : (s.polled k due).vane[k] = (s.composing k due).vane[k] :=
  congrArg (fun v : Vector VaneRec 8 => v[k]) ((s.polled_within k due).same .vane (by decide))

theorem State.polled_turns {events : List Event} (h : s.Turns (s.composing k due) events) : s.Turns (s.polled k due) events := by
  simpa using h.trans (.of_within (s.polled_within k due) (by decide) (by decide))

theorem State.zone_polled (z : Zone) : (s.polled k due).zone z = (s.composing k due).zone z :=
  State.zone_congr ((s.polled_within k due).same .arb (by decide)) z

section
variable {s k due} (hc : ¬ (s.wind[k].level = .storm ∨ s.service[k] = .out))
include hc

theorem State.composing_of_calm : s.composing k due = (s.assessed k due).vaneEnds k := by
  unfold State.composing State.weathervane
  exact if_neg (mt (s.vaneCondition_iff k due).mp hc)

/-- Without the condition an episode ends (R80). -/
theorem State.vaneOutcome_of_calm : (s.polled k due).vane[k] = (s.vaneOutcome k due).1 ∧
    s.Turns (s.polled k due) (s.vaneOutcome k due).2 := by
  have within := s.assessed_within k due
  have clock : (s.assessed k due).clock = s.clock := within.same .clock (by decide)
  have quiet := s.assessed_turns k due
  have vane := s.assessed_vane k due
  rw [State.polled_vane_own]
  suffices h : (s.composing k due).vane[k] = (s.vaneOutcome k due).1 ∧
      s.Turns (s.composing k due) (s.vaneOutcome k due).2 from ⟨h.1, s.polled_turns k due h.2⟩
  unfold State.vaneOutcome
  dsimp only
  rw [if_pos hc, State.composing_of_calm hc]
  unfold State.vaneEnds
  simp only [vane]
  by_cases idle : s.vane[k].state = .none
  · simp only [idle, if_true]
    exact ⟨congrArg (fun v : Vector VaneRec 8 => v[k]) vane, quiet⟩
  · simp only [idle, if_false]
    have withdrawn : ∃ u, u = (if (s.assessed k due).mode = .setup then s.assessed k due
        else (s.assessed k due).withdrawSweeps k) ∧ u.clock = s.clock ∧ s.Turns u [] := by
      refine ⟨_, rfl, ?_⟩
      split
      · exact ⟨clock, quiet⟩
      · exact ⟨((State.withdrawSweeps_within ..).same .clock (by decide)).trans clock,
          quiet.trans (State.withdrawSweeps_turns ..)⟩
    obtain ⟨u, hu, clock, quiet⟩ := withdrawn
    rw [← hu]
    refine ⟨State.vane_told .., ?_⟩
    have told := (quiet.trans (.of_within (u.setVane_within k { s.vane[k] with state := .none, pendingSince := none, alarm := false })
      (by decide) (by decide))).trans (.emit _ (kind := .weathervaneOff) (by decide) (number k) 0 0 1
        (if s.vane[k].state = .active then 1 else 0))
    rw [State.record, show (u.setVane k _).clock = s.clock from clock] at told
    exact told

end

/-- An episode is PENDING or ACTIVE. -/
theorem VaneRec.pending_state (v : VaneRec) (now : Moment) (cause : VaneCause) :
    ((v.episode now cause).pending now).state = .pending := by
  have begun : (v.episode now cause).state ≠ .none := by
    unfold VaneRec.episode
    split
    · assumption
    · simp
  unfold VaneRec.pending
  split
  · rfl
  · cases h : (v.episode now cause).state <;> simp_all

/-! ### While the condition holds -/

section
variable {s k due} (hc : s.wind[k].level = .storm ∨ s.service[k] = .out)
include hc

theorem State.composing_of_setup (hm : s.mode = .setup) : s.composing k due = (s.readied k due).becomeActive k := by
  have mode : ((s.assessed k due).beginEpisode k).mode = .setup :=
    ((State.beginEpisode_within ..).same .mode (by decide)).trans (((s.assessed_within k due).same .mode (by decide)).trans hm)
  unfold State.composing State.weathervane State.readied State.vaneHolds
  rw [if_pos ((s.vaneCondition_iff k due).mpr hc), if_pos hm]
  exact if_pos mode

theorem State.composing_of_run (hm : s.mode ≠ .setup) : s.composing k due =
    (if ((s.readied k due).unswept k).isEmpty then (s.readied k due).becomeActive k
      else (s.readied k due).becomePending k).vaneAlarm k := by
  have mode : ((s.assessed k due).beginEpisode k).mode = s.mode :=
    ((State.beginEpisode_within ..).same .mode (by decide)).trans ((s.assessed_within k due).same .mode (by decide))
  unfold State.composing State.weathervane State.readied State.vaneHolds
  rw [if_pos ((s.vaneCondition_iff k due).mpr hc), if_neg hm]
  exact if_neg (mode ▸ hm)

/-- Once the claims are sent the zones stay. -/
theorem State.zone_composing (z : Zone) : (s.composing k due).zone z = (s.readied k due).zone z := by
  by_cases hm : s.mode = .setup
  · rw [State.composing_of_setup hc hm]
    exact State.zone_congr ((State.becomeActive_step ..).within.same .arb (by decide)) z
  · rw [State.composing_of_run hc hm]
    have moved := (State.VaneStep.ite (c := ((s.readied k due).unswept k).isEmpty = true) (State.becomeActive_step k _)
      (State.becomePending_step k (s.readied k due))).trans (State.vaneAlarm_step k _)
    exact State.zone_congr (moved.within.same .arb (by decide)) z

theorem State.unswept_readied : (s.readied k due).unswept k = s.unsweptAfter k due := by
  have within := (s.assessed_within k due).trans (((s.readied_within k due).mono (by decide)))
  unfold State.unswept State.unsweptAfter
  rw [State.zonesOf_of_within k within]
  refine List.filter_congr fun z _ => ?_
  rw [State.zone_polled, State.zone_composing hc]
  simp

theorem State.swept_readied : ((s.readied k due).swept k).length = (s.zonesOf k).length - (s.unsweptAfter k due).length := by
  have within := (s.assessed_within k due).trans (((s.readied_within k due).mono (by decide)))
  rw [← State.unswept_readied hc, State.swept, State.unswept, State.zonesOf_of_within k within,
    ← List.countP_eq_length_filter, ← List.countP_eq_length_filter]
  have total := List.length_eq_countP_add_countP (l := s.zonesOf k) (fun z => ((s.readied k due).zone z).sweep.contains k)
  simp only [Bool.not_eq_true, Bool.decide_eq_false] at total
  omega

/-- In SETUP, or when the crane sweeps all its zones, the state becomes ACTIVE (R78). -/
theorem State.becomeActive_outcome (ha : s.mode = .setup ∨ s.unsweptAfter k due = []) :
    ((s.readied k due).becomeActive k).vane[k] = (s.vaneOutcome k due).1 ∧
      s.Turns ((s.readied k due).becomeActive k) (s.vaneOutcome k due).2 := by
  have clock : (s.readied k due).clock = s.clock :=
    ((s.readied_within k due).same .clock (by decide)).trans ((s.assessed_within k due).same .clock (by decide))
  have turned := (s.readied_turns k due).trans ((s.readied k due).becomeActive_turns k)
  rw [State.readied_vane, State.record, clock, State.swept_readied hc, List.nil_append] at turned
  rw [State.becomeActive_vane, State.readied_vane]
  unfold State.vaneOutcome
  dsimp only
  rw [if_neg (not_not.mpr hc), if_pos ha]
  split
  · rename_i active
    rw [if_pos active] at turned
    exact ⟨rfl, turned⟩
  · rename_i idle
    rw [if_neg idle] at turned
    exact ⟨rfl, turned⟩

/-- Otherwise it becomes or stays PENDING, and a late one raises the alarm (R78, R79). -/
theorem State.becomePending_outcome (hm : s.mode ≠ .setup) (hu : s.unsweptAfter k due ≠ []) :
    (((s.readied k due).becomePending k).vaneAlarm k).vane[k] = (s.vaneOutcome k due).1 ∧
      s.Turns (((s.readied k due).becomePending k).vaneAlarm k) (s.vaneOutcome k due).2 := by
  have within := (s.assessed_within k due).trans (((s.readied_within k due).mono (by decide)))
  have pends := (State.becomePending_step k (s.readied k due)).within
  have clock : (s.readied k due).clock = s.clock := within.same .clock (by decide)
  have time : (s.readied k due).msCount = (s.reach due).msCount :=
    ((s.readied_within k due).same .msCount (by decide)).trans (s.assessed_msCount k due)
  have turned := (s.readied_turns k due).trans ((s.readied k due).becomePending_turns k)
  have vane := (s.readied k due).becomePending_vane k
  have zone : ∀ y, ((s.readied k due).becomePending k).zone y = (s.polled k due).zone y := fun y => by
    rw [State.zone_polled, State.zone_composing hc]
    exact State.zone_congr (pends.same .arb (by decide)) y
  have unswept : ((s.readied k due).becomePending k).unswept k = s.unsweptAfter k due := by
    unfold State.unswept State.unsweptAfter
    rw [State.zonesOf_of_within k (within.trans (pends.mono (by decide)))]
    exact List.filter_congr fun z _ => by rw [zone]; simp
  have clock' : ((s.readied k due).becomePending k).clock = s.clock := (pends.same .clock (by decide)).trans clock
  have time' : ((s.readied k due).becomePending k).msCount = (s.reach due).msCount :=
    (pends.same .msCount (by decide)).trans time
  have params : ((s.readied k due).becomePending k).params = s.params :=
    (pends.same .params (by decide)).trans (within.same .params (by decide))
  rw [State.readied_vane, time] at vane
  rw [State.readied_vane, State.record, clock, List.nil_append] at turned
  have state := s.vane[k].pending_state (s.reach due).msCount (s.vaneCause k)
  rw [← vane] at state
  generalize (s.readied k due).becomePending k = w at *
  unfold State.vaneOutcome
  dsimp only
  rw [if_neg (not_not.mpr hc), if_neg (by simp [hm, hu])]
  rw [← vane, ← time', ← params]
  rw [← time'] at turned
  by_cases late : w.vane[k].late w.msCount w.params.sweepAlarm
  · obtain ⟨z, rest, hz⟩ := List.exists_cons_of_ne_nil hu
    obtain ⟨alarmed, told⟩ := State.vaneAlarm_of_late w k state late (unswept.trans hz)
    unfold VaneRec.late at late
    rw [if_pos late]
    refine ⟨alarmed, ?_⟩
    have both := turned.trans told
    rw [unswept, hz, State.record, clock'] at both
    simp only [zone] at both
    rw [hz]
    exact both
  · rw [State.vaneAlarm_of_early w k (.inr late)]
    unfold VaneRec.late at late
    rw [if_neg late]
    exact ⟨rfl, turned⟩

theorem State.vaneOutcome_of_condition : (s.polled k due).vane[k] = (s.vaneOutcome k due).1 ∧
    s.Turns (s.polled k due) (s.vaneOutcome k due).2 := by
  rw [State.polled_vane_own]
  suffices h : (s.composing k due).vane[k] = (s.vaneOutcome k due).1 ∧
      s.Turns (s.composing k due) (s.vaneOutcome k due).2 from ⟨h.1, s.polled_turns k due h.2⟩
  by_cases hm : s.mode = .setup
  · rw [State.composing_of_setup hc hm]
    exact State.becomeActive_outcome hc (.inl hm)
  · rw [State.composing_of_run hc hm, State.unswept_readied hc]
    by_cases hu : s.unsweptAfter k due = []
    · have active : ((s.readied k due).becomeActive k).vane[k].state ≠ .pending := by
        rw [State.becomeActive_vane]
        split
        · rename_i active
          rw [active]
          decide
        · simp
      rw [if_pos (List.isEmpty_iff.mpr hu), State.vaneAlarm_of_early _ k (.inl active)]
      exact State.becomeActive_outcome hc (.inr hu)
    · rw [if_neg (mt List.isEmpty_iff.mp hu)]
      exact State.becomePending_outcome hc hm hu

end

/-- What a composition makes of the record, and appends. -/
theorem State.polled_vaneOutcome : (s.polled k due).vane[k] = (s.vaneOutcome k due).1 ∧
    s.Turns (s.polled k due) (s.vaneOutcome k due).2 := by
  by_cases hc : s.wind[k].level = .storm ∨ s.service[k] = .out
  · exact State.vaneOutcome_of_condition hc
  · exact State.vaneOutcome_of_calm hc

end

end Sys2Proof.Machine
end

section
/-! SUPPORT. The brake (R60, R62, R77 to R80): a cycle expiry below the miss limit and at it, and O42. -/

namespace Sys2Proof.Machine

/-! ## At the miss limit (R138) -/

section
variable {s : State} {k : Crane} {due : Moment}

theorem State.link_setLink (s : State) (k : Crane) (new : LinkState) : ((s.setLink k new).line k).link = new := by
  unfold State.setLink
  dsimp only
  rw [State.line, (State.post_within ..).same .lines (by decide), ← State.line, State.line_modLine_self]

theorem State.endIncomplete_at_limit {x : Exchange} (hl : (s.line k).link = .online) (hx : (s.line k).exchange = some x)
    (limit : (s.craneRec k).missLimit ≤ (s.line k).missCount + 1) : ((s.endIncomplete k).line k).link = .lost := by
  have online : ((s.dropExchange k).line k).link = .online := by simp [State.dropExchange, hl]
  have counted : (((s.dropExchange k).setFaults k (x.endedFaults .sizeOnly)).line k).missCount =
      (s.line k).missCount := by simp [State.dropExchange, State.setFaults]
  unfold State.endIncomplete State.exchangeFailed
  simp only [hx, online]
  unfold State.countMiss
  dsimp only
  rw [counted]
  exact (congrArg (fun u : State => (u.line k).link) (if_pos limit)).trans (State.link_setLink ..)

/-- A cycle expiry that leaves the line ONLINE is one below the miss limit. -/
theorem exec_cycleExpiry_online {t : State} (h : exec (.cycleExpiry k) s = .next t) (hl : (s.line k).link = .online)
    (ht : (s.line k).cycleTimer = some due) (still : (t.line k).link = .online) : t = s.polled k due := by
  by_cases hx : (s.line k).exchange = none ∨ (s.line k).missCount + 1 < (s.craneRec k).missLimit
  · exact Host.Outcome.next.inj (h.symm.trans (exec_cycleExpiry_polled hl ht hx))
  · obtain ⟨some, limit⟩ := not_or.mp hx
    obtain ⟨x, hx⟩ := Option.ne_none_iff_exists'.mp some
    have lost : (((s.reach due).endIncomplete k).line k).link = .lost :=
      State.endIncomplete_at_limit (by rw [State.line_reach, hl]) (by rw [State.line_reach, hx])
        (by rw [State.line_reach, State.craneRec_reach]; exact Nat.le_of_not_lt limit)
    have run : exec (.cycleExpiry k) s = .next ((s.reach due).endIncomplete k) := by
      refine congrArg Host.Outcome.next (?_ : s.cycleExpires k = _)
      unfold State.cycleExpires State.expireCycle
      simp only [ht, hl, if_true]
      exact if_neg (by rw [lost]; decide)
    obtain rfl := Host.Outcome.next.inj (h.symm.trans run)
    rw [lost] at still
    cases still

/-! ## The zones after a composition -/

theorem State.polled_unclaims {z : Zone} (hm : s.mode ≠ .setup) (hc : ¬ (s.wind[k].level = .storm ∨ s.service[k] = .out))
    (hv : s.vane[k].state ≠ .none) (hz : z ∈ s.zonesOf k) :
    k ∉ ((s.polled k due).zone z).sweep ∧ (s.isShared z = true → k ∉ ((s.polled k due).zone z).claims) := by
  rw [(s.polled_came k due).record, Course.composed, if_neg (not_or.mpr ⟨hm, (State.mem_zonesOf k).mp hz⟩), if_neg hc, if_neg hv]
  exact Course.unclaim_leaves

theorem State.polled_claims {z : Zone} (hm : s.mode ≠ .setup) (hc : s.wind[k].level = .storm ∨ s.service[k] = .out)
    (hz : z ∈ s.zonesOf k) : k ∈ ((s.polled k due).zone z).sweep ∨ k ∈ ((s.polled k due).zone z).claims := by
  rw [(s.polled_came k due).record, Course.composed, if_neg (not_or.mpr ⟨hm, (State.mem_zonesOf k).mp hz⟩), if_pos hc]
  exact Course.claim_joins

theorem State.vaneCause_eq (hc : s.wind[k].level = .storm ∨ s.service[k] = .out) : s.vaneCause k =
    if s.wind[k].level = .storm ∧ s.service[k] = .out then .both else if s.wind[k].level = .storm then .wind else .service := by
  unfold State.vaneCause
  by_cases storm : s.wind[k].level = .storm <;> by_cases out : s.service[k] = .out <;> simp_all

section
variable {e : VaneRec} (he : s.vane[k].episode (s.reach due).msCount (s.vaneCause k) = e)
  (hc : s.wind[k].level = .storm ∨ s.service[k] = .out)
include he hc

/-- In SETUP, or when the crane sweeps all its zones (R78). -/
theorem State.vaneOutcome_of_swept (h : s.mode = .setup ∨ s.unsweptAfter k due = []) : s.vaneOutcome k due =
    if e.state = .active then (e, []) else ({ e with state := .active, pendingSince := none },
      [s.record .weathervaneOn (number k) 0 0 ((s.zonesOf k).length - (s.unsweptAfter k due).length : Nat) e.cause.code]) := by
  unfold State.vaneOutcome
  dsimp only
  rw [if_neg (not_not.mpr hc), if_pos h, he]

/-- When there is a zone that it does not sweep (R78, R79). -/
theorem State.vaneOutcome_of_unswept (hm : s.mode ≠ .setup) {z : Zone} {rest : List Zone}
    (hz : s.unsweptAfter k due = z :: rest) : s.vaneOutcome k due =
    let pending := e.pending (s.reach due).msCount
    let fall := if e.state = .active then [s.record .weathervaneOff (number k) 0 0 0 1] else []
    if pending.alarm = false ∧ ∃ since, pending.pendingSince = some since ∧
        s.params.sweepAlarm * 1000 ≤ ((s.reach due).msCount - since).toNat then
      ({ pending with alarm := true }, fall ++ [s.record .weathervaneBlocked (number k) (number z) 0
        (s.unsweptAfter k due).length
        ((s.unsweptAfter k due).filter (fun y => decide (k ∈ ((s.polled k due).zone y).claims))).length])
    else (pending, fall) := by
  have some : ¬ (s.mode = .setup ∨ s.unsweptAfter k due = []) := by simp [hm, hz]
  unfold State.vaneOutcome
  dsimp only
  rw [if_neg (not_not.mpr hc), if_neg some, he, hz]
  rfl

end

/-- In RUN and HOLD a composition leaves the state ACTIVE only when the crane sweeps all its zones. -/
theorem State.polled_active (hm : s.mode ≠ .setup) (active : (s.polled k due).vane[k].state = .active) :
    s.unsweptAfter k due = [] := by
  rw [(s.polled_vaneOutcome k due).1] at active
  by_contra swept
  have pending := s.vane[k].pending_state (s.reach due).msCount (s.vaneCause k)
  unfold State.vaneOutcome at active
  dsimp only at active
  split at active
  · split at active
    · simp_all
    · cases active
  · rw [if_neg (not_or.mpr ⟨hm, swept⟩)] at active
    split at active <;> simp_all

end

/-- Settles O42: the flag is ACTIVE alone, and the record and its events are those of the composition. -/
theorem theBrakeIsReleasedOnlyWhenEveryZoneIsSwept : Obligations.TheBrakeIsReleasedOnlyWhenEveryZoneIsSwept := by
  refine ⟨fun s t k run hm timer hl still flag z hz => ?_, fun s k due hl timer below => ?_⟩
  · obtain ⟨due, timer⟩ := Option.ne_none_iff_exists'.mp timer
    obtain rfl := exec_cycleExpiry_online run hl timer still
    rw [State.polled_permit] at flag
    have swept := State.polled_active hm (beq_iff_eq.mp flag)
    by_contra out
    have mem : z ∈ s.unsweptAfter k due :=
      List.mem_filter.mpr ⟨(State.mem_zonesOf k).mpr (Option.isSome_iff_ne_none.mp hz), by simpa using out⟩
    rw [swept] at mem
    cases mem
  · obtain ⟨vane, new, logged, events⟩ := s.polled_vaneOutcome k due
    refine ⟨s.polled k due, new, exec_cycleExpiry_polled hl timer below, logged, by rw [State.polled_permit],
      fun calm inUse => ?_, fun hc => ⟨fun hm z hz => State.polled_claims hm hc hz, fun all => ?_, fun hm z rest hz => ?_⟩⟩
    · have hc : ¬ (s.wind[k].level = .storm ∨ s.service[k] = .out) := not_or.mpr ⟨calm, inUse⟩
      refine ⟨fun idle => ?_, fun busy => ⟨?_, fun hm z hz => State.polled_unclaims hm hc busy hz⟩⟩
      · rw [State.vaneOutcome, if_pos hc, if_pos idle] at vane events
        exact ⟨vane, events⟩
      · rw [State.vaneOutcome, if_pos hc, if_neg busy] at vane events
        exact ⟨vane, events⟩
    · have outcome := State.vaneOutcome_of_swept (congrArg (s.vane[k].episode (s.reach due).msCount) (State.vaneCause_eq hc))
        hc all
      refine ⟨fun active => ?_, fun idle => ?_⟩
      · rw [outcome.trans (if_pos active)] at vane events
        exact ⟨vane, events⟩
      · rw [outcome.trans (if_neg idle)] at vane events
        exact ⟨vane, events⟩
    · have outcome := State.vaneOutcome_of_unswept
        (congrArg (s.vane[k].episode (s.reach due).msCount) (State.vaneCause_eq hc)) hc hm hz
      refine ⟨fun early => ?_, fun late => ?_⟩
      · rw [outcome.trans (if_neg early)] at vane events
        exact ⟨vane, events⟩
      · rw [outcome.trans (if_pos late)] at vane events
        exact ⟨vane, events⟩

end Sys2Proof.Machine
end

section
/-! SUPPORT. An exchange of an ONLINE line that ends as a miss (R132, R138), and the link that a miss at the limit loses
(R139, R155, R86). -/

namespace Sys2Proof.Machine

/-! ## What a miss leaves of the line -/

/-- The line once its exchange has ended as a miss that sets these flags (R132, R134, R138). -/
def Line.missed (l : Line) (f : Faults) : Line :=
  { l with exchange := none, missCount := l.missCount + 1, faults := l.faults.or f }

/-- The line that leaves ONLINE for LOST by its misses, to wake again at `due` (R86, R138, R143, R155). -/
def Line.lostByMisses (l : Line) (due : Moment) : Line :=
  { l with
    link := .lost, linkCause := .misses, cycleTimer := none, nextPattern := 0, attempts := 0, readyDeadline := none
    wait := .lost due, texts := rewind l.texts }

section
variable {s : State} {k : Crane} {f : Faults}

/-- A change of a line and an event appended may be taken in either order. -/
theorem State.modLine_emit (s : State) (k : Crane) (g : Line → Line) (kind : EventKind) (c z b : Nat) (x y : Int) :
    (s.emit kind c z b x y).modLine k g = (s.modLine k g).emit kind c z b x y := by
  have split : ∀ e : Event, (s.append e).modLine k g = (s.modLine k g).append e := by
    intro e
    unfold State.append
    rw [State.modLine_events]
    split <;> rfl
  exact split _

/-- The loss of an ONLINE link: the line, the event, the notice (R139, R155). -/
theorem State.enterLost_online (hl : (s.line k).link = .online) : s.enterLost k .misses =
    ((s.modLine k (fun l => { l with exchange := none }.lostByMisses (s.later 1000))).emitCrane .linkLost k 1
      (s.line k).missCount).post (.link k .online .lost) := by
  have link : ({ (s.line k).clearEnrolment with
      exchange := none, cycleTimer := none, linkCause := .misses
      wait := .lost (s.later Config.lostTime) } : Line).link = .online := hl
  unfold State.enterLost State.setLink
  dsimp only
  rw [State.emitCrane, State.emit_line, State.line_modLine_self, State.modLine_emit, State.modLine_modLine, link]
  rfl

/-- An exchange of an ONLINE line that fails is a miss, and at the miss limit the link becomes LOST (R138). -/
theorem State.exchangeFailed_online (hl : (s.line k).link = .online) :
    s.exchangeFailed k f = if (s.craneRec k).missLimit ≤ (s.line k).missCount + 1
      then ((s.modLine k (fun l => (l.missed f).lostByMisses (s.later 1000))).emitCrane .linkLost k 1
        (((s.line k).missCount + 1 : Nat) : Int)).post (.link k .online .lost)
      else s.modLine k (Line.missed · f) := by
  have online : ((s.dropExchange k).line k).link = .online := by simp [State.dropExchange, hl]
  have counted : (((s.dropExchange k).setFaults k f).line k).missCount = (s.line k).missCount := by
    simp [State.dropExchange, State.setFaults]
  have missed : ((s.dropExchange k).setFaults k f).modLine k
      (fun l => { l with missCount := (s.line k).missCount + 1 }) = s.modLine k (Line.missed · f) := by
    unfold State.setFaults State.dropExchange
    rw [State.modLine_modLine, State.modLine_modLine]
    rfl
  have lost : (s.modLine k (Line.missed · f)).enterLost k .misses =
      ((s.modLine k (fun l => (l.missed f).lostByMisses (s.later 1000))).emitCrane .linkLost k 1
        (((s.line k).missCount + 1 : Nat) : Int)).post (.link k .online .lost) := by
    rw [State.enterLost_online (by rw [State.line_modLine_self]; exact hl), State.modLine_modLine,
      State.line_modLine_self]
    rfl
  unfold State.exchangeFailed
  dsimp only
  rw [online]
  dsimp only
  unfold State.countMiss
  dsimp only
  rw [counted, missed, lost]
  rfl

end

/-! ## A change of a line, told by an event and a notice -/

section
variable {s now : State} (hn : Within [.msCount] s now) (k : Crane) (g : Line → Line) (kind : EventKind) (a b : Int)
  (n : Notice)
include hn

theorem State.told_within : Within [.msCount, .lines, .notices, .events, .overflow] s
    (((now.modLine k g).emitCrane kind k a b).post n) :=
  (hn.mono (by decide)).trans (((State.modLine_within ..).mono (by decide)).trans
    (((State.emitCrane_within ..).mono (by decide)).trans ((State.post_within ..).mono (by decide))))

theorem State.line_told (j : Crane) : (((now.modLine k g).emitCrane kind k a b).post n).line j =
    if j = k then g (s.line k) else s.line j := by
  have same : now.lines = s.lines := hn.same .lines (by decide)
  rw [State.line, State.post_lines, State.emitCrane_lines, ← State.line, State.line_modLine]
  simp only [State.line, same]

theorem State.notices_told : (((now.modLine k g).emitCrane kind k a b).post n).notices = s.notices ++ [n] := by
  rw [State.notices_post, State.emitCrane_notices, State.modLine_notices, hn.same .notices (by decide)]

theorem State.told_logged : s.logged (((now.modLine k g).emitCrane kind k a b).post n)
    [s.record kind (number k) 0 0 a b] := by
  refine State.logged_from (u := now.modLine k g) (hn.same .events (by decide)) (hn.same .overflow (by decide)) ?_
  rw [State.record, ← hn.same .clock (by decide)]
  exact State.logged_emitCrane (now.modLine k g) kind k a b

end

/-! ## The miss as a step -/

/-- The command ends the exchange of line *k* as a miss at the time of `now`, its receiver then `rx` and its flags
`faults`: the miss is counted, and at the miss limit the link becomes LOST (R132, R138, R139, R155). -/
def State.Misses (s : State) (k : Crane) (cmd : Instr) (now : State) (rx : Receiver) (faults : Faults) : Prop :=
  ((s.line k).missCount + 1 < (s.craneRec k).missLimit → exec cmd s = .next (now.modLine k (fun l =>
    { l with rx := rx, exchange := none, missCount := l.missCount + 1, faults := faults }))) ∧
  ((s.craneRec k).missLimit ≤ (s.line k).missCount + 1 → ∃ t, exec cmd s = .next t ∧
    Within [.msCount, .lines, .notices, .events, .overflow] s t ∧ t.msCount = now.msCount ∧
    (∀ j, j ≠ k → t.line j = s.line j) ∧
    t.line k = { s.line k with
      rx := rx, exchange := none, missCount := (s.line k).missCount + 1, faults := faults, link := .lost
      linkCause := .misses, cycleTimer := none, nextPattern := 0, attempts := 0, readyDeadline := none
      wait := .lost (now.later 1000), texts := rewind (s.line k).texts } ∧
    t.notices = s.notices ++ [.link k .online .lost] ∧
    s.logged t [s.record .linkLost (number k) 0 0 1 ((s.line k).missCount + 1)])

/-- An exchange that fails, once its receiver and its progress have changed and time may have passed, is a miss. -/
theorem State.misses_of_failed {s now : State} {k : Crane} {cmd : Instr} {rx : Receiver} {f faults : Faults}
    {x : Option Exchange} (hl : (s.line k).link = .online) (hn : Within [.msCount] s now)
    (he : exec cmd s = .next ((now.modLine k (fun l => { l with rx := rx, exchange := x })).exchangeFailed k f))
    (hf : (s.line k).faults.or f = faults) : s.Misses k cmd now rx faults := by
  have same : now.line k = s.line k := by rw [State.line, hn.same .lines (by decide), State.line]
  have record : (now.modLine k (fun l => { l with rx := rx, exchange := x })).craneRec k = s.craneRec k := by
    rw [State.craneRec, State.crane, State.modLine_cranes, hn.same .cranes (by decide), State.craneRec, State.crane]
  have own : (now.modLine k (fun l => { l with rx := rx, exchange := x })).line k =
      { s.line k with rx := rx, exchange := x } := by rw [State.line_modLine_self, same]
  rw [State.exchangeFailed_online (by rw [own]; exact hl), record, own, State.modLine_modLine, State.modLine_modLine] at he
  refine ⟨fun below => ?_, fun limit => ?_⟩
  · rw [he, if_neg (Nat.not_le.mpr below)]
    simp only [State.modLine, same, Line.missed, hf]
  · rw [if_pos limit] at he
    refine ⟨_, he, State.told_within hn .., ?_, fun j hj => ?_, ?_, State.notices_told hn ..,
      State.told_logged hn _ _ _ _ _ _⟩
    · rw [State.post_msCount, State.emitCrane_msCount, State.modLine_msCount]
    · rw [State.line_told hn, if_neg hj]
    · rw [State.line_told hn, if_pos rfl]
      simp only [Line.lostByMisses, Line.missed, hf]
      rfl

end Sys2Proof.Machine
end

section
/-! SUPPORT. The receiver of a crane line, whatever the samples beside the middle of each bit are (R128), and a character that it
brings to a reply (R126, R132). -/

namespace Sys2Proof.Machine

/-! ## The samples of one bit -/

/-- The majority of samples 7, 8 and 9 of a bit (R128). -/
def majority (w : Samples) : Bool := decide (2 ≤ (((w.drop 6).take 3).filter id).length)

/-- Samples 7 and 8 of a bit, counted (R128). -/
def onesBefore (w : Samples) : Nat := 0 + (w.getD 6 false).toNat + (w.getD 7 false).toNat

/-- The majority once sample 9 is taken. -/
theorem majority_eq (w : Samples) (h : 9 ≤ w.length) :
    majority w = decide (2 ≤ onesBefore w + (w.getD 8 false).toNat) := by
  obtain ⟨e, he⟩ : ∃ e, w.drop 6 = e := ⟨_, rfl⟩
  have at6 : w.getD 6 false = e.getD 0 false ∧ w.getD 7 false = e.getD 1 false ∧ w.getD 8 false = e.getD 2 false := by
    subst he
    simp
  have long : 3 ≤ e.length := by rw [← he, List.length_drop]; omega
  unfold majority onesBefore
  rw [he, at6.1, at6.2.1, at6.2.2]
  match e, long with
  | a :: b :: c :: _, _ => cases a <;> cases b <;> cases c <;> rfl

section
variable {size : Nat} {bits : List Bool} {w : Samples}

/-- The first eight samples of a start bit, whose first is at 0. -/
theorem Receiver.startBit_begins (h : w.length = 8) (h0 : w.head? = some false) :
    (Receiver.hunt true).quiet size w = true ∧
      (Receiver.hunt true).after size w = .char 8 (onesBefore w) [] := by
  match w, h with
  | [a, b, c, d, e, f, g, i], _ =>
    obtain rfl : a = false := by simpa using h0
    exact ⟨rfl, rfl⟩

/-- The first eight samples of a later bit. -/
theorem Receiver.bit_begins (h : w.length = 8) :
    (Receiver.char 16 0 bits).quiet size w = true ∧
      (Receiver.char 16 0 bits).after size w = .char 8 (onesBefore w) bits := by
  match w, h with
  | [a, b, c, d, e, f, g, i], _ => exact ⟨rfl, rfl⟩

/-- The last seven samples of a bit that has been decided. -/
theorem Receiver.bit_ends (h : w.length = 7) :
    (Receiver.char 9 0 bits).quiet size w = true ∧ (Receiver.char 9 0 bits).after size w = .char 16 0 bits := by
  match w, h with
  | [a, b, c, d, e, f, g], _ => exact ⟨rfl, rfl⟩

/-- Sample 9 of a bit, the majority of its three being `m`. -/
theorem Receiver.sample_nine (n : Nat) (b m : Bool) (hm : m = decide (2 ≤ n + b.toNat)) :
    (Receiver.char 8 n bits).sample size b =
      if bits.isEmpty && m then (.hunt b, .nothing)
      else if bits.length + 1 = size then (.hunt b, .character (bits ++ [m]))
      else (.char 9 0 (bits ++ [m]), if bits.isEmpty then .start else .nothing) := by
  subst hm
  rfl

/-- A bit cut at its sample 9. -/
theorem exists_cut (h : 9 ≤ w.length) : ∃ x y, w = x ++ w.getD 8 false :: y ∧ x.length = 8 ∧ y.length + 9 = w.length ∧
    x.head? = w.head? ∧ majority w = decide (2 ≤ onesBefore x + (w.getD 8 false).toNat) := by
  have long : 8 < w.length := by omega
  refine ⟨w.take 8, w.drop 9, ?_, ?_, ?_, ?_, ?_⟩
  · rw [List.getD_eq_getElem _ _ long, List.cons_getElem_drop_succ, List.take_append_drop]
  · rw [List.length_take]; omega
  · rw [List.length_drop]; omega
  · rw [List.head?_take, if_neg (by omega)]
  · rw [majority_eq w h]
    simp [onesBefore]

/-- One whole bit within a character, before the stop bit (R128). -/
theorem Receiver.bit_decided (hb : bits ≠ []) (hs : bits.length + 1 ≠ size) (h : w.length = 16) :
    (Receiver.char 16 0 bits).quiet size w = true ∧
      (Receiver.char 16 0 bits).after size w = .char 16 0 (bits ++ [majority w]) := by
  obtain ⟨x, y, cut, hx, hy, -, hm⟩ := exists_cut (w := w) (by omega)
  obtain ⟨quiet, after⟩ := Receiver.bit_begins (size := size) (bits := bits) hx
  obtain ⟨quiet', after'⟩ := Receiver.bit_ends (size := size) (bits := bits ++ [majority w]) (w := y) (by omega)
  have nine := Receiver.sample_nine (size := size) (bits := bits) _ _ _ hm
  rw [if_neg (by simp [hb]), if_neg hs, if_neg (by simp [hb])] at nine
  rw [cut, Receiver.quiet_append, Receiver.after_append, quiet, after, Receiver.quiet, Receiver.after_cons, ← cut, nine]
  exact ⟨by simpa using quiet', after'⟩

/-- The bits of a character between its start bit and its stop bit. -/
theorem Receiver.bits_decided (ws : List Samples) : ∀ {bits : List Bool}, bits ≠ [] → bits.length + ws.length < size →
    (∀ w ∈ ws, w.length = 16) → (Receiver.char 16 0 bits).quiet size ws.flatten = true ∧
      (Receiver.char 16 0 bits).after size ws.flatten = .char 16 0 (bits ++ ws.map majority) := by
  induction ws with
  | nil => exact fun _ _ _ => ⟨rfl, by simp [Receiver.after]⟩
  | cons w ws ih =>
    intro bits hb hs hw
    rw [List.length_cons] at hs
    obtain ⟨quiet, after⟩ := Receiver.bit_decided (size := size) hb (by omega) (hw w List.mem_cons_self)
    obtain ⟨quiet', after'⟩ := ih (bits := bits ++ [majority w]) (by simp) (by simp; omega)
      fun v hv => hw v (List.mem_cons_of_mem _ hv)
    rw [List.flatten_cons, Receiver.quiet_append, Receiver.after_append, quiet, after, quiet', after']
    exact ⟨rfl, by simp⟩

/-- A start bit that is not confirmed: the receiver hunts again (R128). -/
theorem Receiver.startBit_noise (h : w.length = 9) (h0 : w.head? = some false) (hm : majority w = true) :
    (Receiver.hunt true).quiet size w = true ∧ (Receiver.hunt true).after size w = .hunt (w.getD 8 false) := by
  obtain ⟨x, y, cut, hx, hy, head, maj⟩ := exists_cut (w := w) (by omega)
  obtain rfl : y = [] := List.length_eq_zero_iff.mp (by omega)
  obtain ⟨quiet, after⟩ := Receiver.startBit_begins (size := size) hx (head.trans h0)
  have nine := Receiver.sample_nine (size := size) (bits := []) _ _ _ maj
  rw [hm] at nine
  replace nine := nine.trans (if_pos rfl)
  rw [cut, Receiver.quiet_append, Receiver.after_append, quiet, after, Receiver.quiet, Receiver.after_cons, ← cut, nine]
  exact ⟨rfl, rfl⟩

/-- A start bit that is confirmed at its sample 9 (R128). -/
theorem Receiver.startBit_confirmed (hs : 1 < size) (h : 9 ≤ w.length) (h0 : w.head? = some false)
    (hm : majority w = false) : ∃ x y, w = x ++ w.getD 8 false :: y ∧ y.length + 9 = w.length ∧
      (Receiver.hunt true).quiet size x = true ∧ (Receiver.hunt true).after size x = .char 8 (onesBefore x) [] ∧
      (Receiver.char 8 (onesBefore x) []).sample size (w.getD 8 false) = (.char 9 0 [false], .start) := by
  obtain ⟨x, y, cut, hx, hy, head, maj⟩ := exists_cut h
  obtain ⟨quiet, after⟩ := Receiver.startBit_begins (size := size) hx (head.trans h0)
  refine ⟨x, y, cut, hy, quiet, after, ?_⟩
  rw [Receiver.sample_nine (size := size) (bits := []) _ _ _ maj, hm, if_neg (by decide),
    if_neg (by rw [List.length_nil]; omega)]
  rfl

/-! ## A whole character -/

/-- The samples `z` are those of a character that a hunting receiver hears (R128): `x` up to sample 8 of the start bit,
sample 9 of it, `y` up to sample 8 of the stop bit, and sample 9 of that, `b`. -/
structure Receiver.Hears (size : Nat) (z x : Samples) (a : Bool) (y : Samples) (b : Bool) (heard : List Bool) : Prop where
  cut : z = x ++ a :: (y ++ [b])
  start : ∃ n, ((Receiver.hunt true).quiet size x = true ∧ (Receiver.hunt true).after size x = .char 8 n []) ∧
    (Receiver.char 8 n []).sample size a = (.char 9 0 [false], .start)
  rest : ∃ n bits, ((Receiver.char 9 0 [false]).quiet size y = true ∧
    (Receiver.char 9 0 [false]).after size y = .char 8 n bits) ∧
    (Receiver.char 8 n bits).sample size b = (.hunt b, .character heard)

/-- A character is heard by the majorities of its bits, whatever its other samples are: `v` is the start bit, `ws` are the
bits up to the stop bit, and of that `w` holds samples 1 to 9 (R128). -/
theorem Receiver.hears_bits {v w : Samples} {ws : List Samples} (hs : ws.length + 2 = size) (hv : v.length = 16)
    (hws : ∀ u ∈ ws, u.length = 16) (hw : w.length = 9) (h0 : v.head? = some false) (hm : majority v = false) :
    ∃ x a y, Receiver.Hears size (v ++ (ws.flatten ++ w)) x a y (w.getD 8 false) (false :: (ws ++ [w]).map majority) := by
  obtain ⟨x, y, cut, hy, quiet, after, start⟩ := Receiver.startBit_confirmed (size := size) (by omega) (by omega) h0 hm
  obtain ⟨x', y', cut', hx', hy', -, maj⟩ := exists_cut (w := w) (by omega)
  obtain rfl : y' = [] := List.length_eq_zero_iff.mp (by omega)
  obtain ⟨quiet₁, after₁⟩ := Receiver.bit_ends (size := size) (bits := [false]) (w := y) (by omega)
  obtain ⟨quiet₂, after₂⟩ := Receiver.bits_decided (size := size) ws (bits := [false]) (by simp) (by simp; omega) hws
  obtain ⟨quiet₃, after₃⟩ := Receiver.bit_begins (size := size) (bits := [false] ++ ws.map majority) hx'
  refine ⟨x, v.getD 8 false, y ++ (ws.flatten ++ x'), ⟨?_, ⟨_, ⟨quiet, after⟩, start⟩,
    onesBefore x', [false] ++ ws.map majority, ⟨?_, ?_⟩, ?_⟩⟩
  · conv_lhs => rw [cut, cut']
    simp only [List.append_assoc, List.cons_append]
  · rw [Receiver.quiet_append, Receiver.quiet_append, quiet₁, after₁, quiet₂, after₂, quiet₃]
    rfl
  · rw [Receiver.after_append, Receiver.after_append, after₁, after₂, after₃]
  · rw [Receiver.sample_nine (size := size) _ _ _ maj, if_neg (by simp), if_pos (by simp; omega)]
    simp

/-- The only character that completes in these samples. -/
theorem Receiver.Hears.characters {z x y : Samples} {a b : Bool} {heard : List Bool}
    (h : Receiver.Hears size z x a y b heard) : (Receiver.hunt true).characters size z = [heard] := by
  have skips : ∀ (u t : Samples) (r : Receiver), r.quiet size u = true →
      r.characters size (u ++ t) = (r.after size u).characters size t := by
    intro u t
    induction u with
    | nil => exact fun _ _ => rfl
    | cons c u ih =>
      intro r hq
      simp only [Receiver.quiet, Bool.and_eq_true, beq_iff_eq] at hq
      rw [List.cons_append, Receiver.characters, hq.1]
      exact ih _ hq.2
  obtain ⟨n, ⟨quiet, after⟩, start⟩ := h.start
  obtain ⟨m, bits, ⟨quiet', after'⟩, stop⟩ := h.rest
  rw [h.cut, skips _ _ _ quiet, after, Receiver.characters, start]
  dsimp only
  rw [skips _ _ _ quiet', after', Receiver.characters, stop]
  rfl

end

/-! ## A character on a crane line (R126, R132) -/

/-- A line that listens, after a start bit has begun the reply, if one was awaited. -/
theorem State.replyBegins_listens {s : State} {k : Crane} (h : (s.line k).listens = true) :
    ((s.replyBegins k).line k).listens = true := by
  unfold State.replyBegins
  revert h
  unfold Line.listens Line.de
  cases hx : (s.line k).exchange with
  | none => simp [hx]
  | some x => cases hp : x.progress <;> simp [hx, hp]

/-- The receiver and the progress of the exchange change apart. -/
theorem State.replyBegins_withRx (s : State) (k : Crane) (r : Receiver) :
    (s.modLine k (fun l => { l with rx := r })).replyBegins k = (s.replyBegins k).modLine k (fun l => { l with rx := r }) := by
  unfold State.replyBegins
  rw [State.line_modLine_self]
  dsimp only
  cases (s.line k).exchange with
  | none => rfl
  | some x => dsimp only; cases x.progress <;> simp only [State.modLine_modLine]

/-- A character that a crane line hears begins the reply, if none has begun, and is then taken. -/
theorem State.sampleLines_hears {s : State} {k : Crane} {z x y : Samples} {a b : Bool} {heard : List Bool}
    (h : Receiver.Hears Config.lineBits z x a y b heard) (hl : (s.line k).listens = true)
    (hr : (s.line k).rx = .hunt true) :
    s.sampleLines k z =
      ((s.replyBegins k).modLine k (fun l => { l with rx := .hunt b })).takeChar k (lineChar heard) := by
  obtain ⟨n, quiet, start⟩ := h.start
  obtain ⟨m, bits, quiet', stop⟩ := h.rest
  have begun := State.replyBegins_listens hl
  rw [h.cut, State.sampleLines_append, State.sampleLines_quiet _ hl hr quiet, State.sampleLines_cons,
    State.sampleLine_eq (by simpa [Line.listens, Line.de] using hl) (by simp) start, State.modLine_modLine, State.hear,
    State.replyBegins_withRx, State.sampleLines_append,
    State.sampleLines_quiet _ (by simpa [Line.listens, Line.de] using begun) (by simp) quiet', State.sampleLines_cons,
    State.sampleLine_eq (by simpa [Line.listens, Line.de] using begun) (by simp) stop, State.hear]
  simp only [State.modLine_modLine]
  rfl

end Sys2Proof.Machine
end

section
/-! SUPPORT. A character of a reply on a crane line: what the exchange has gathered with it, and how the whole reply is judged
(R126 to R128, R132, R133). -/

namespace Sys2Proof.Machine

/-! ## The samples of a character (R128) -/

/-- The ones among an octet's bits and its tenth bit are even, against R127. -/
def parityFails (o : Byte) (tenth : Bool) : Bool := ((octetBits o ++ [tenth]).filter id).length % 2 == 0

theorem LineChar.parity_eq (o : Byte) (tenth framing : Bool) :
    LineChar.parity { octet := o, tenth := tenth, framing := framing } = parityFails o tenth := by
  have count : ∀ l : List Nat, ((l.map (fun i => o.getLsbD i)).filter id).length =
      (l.map (fun i => (o.getLsbD i).toNat)).sum := by
    intro l
    induction l with
    | nil => rfl
    | cons i l ih => cases h : o.getLsbD i <;> simp [h, ih, Nat.add_comm]
  have ones : ((octetBits o).filter id).length = ones o := count _
  unfold parityFails
  rw [List.filter_append, List.length_append, ones]
  unfold LineChar.parity parityBit
  dsimp only
  rcases Nat.mod_two_eq_zero_or_one (Machine.ones o) with h | h <;> cases tenth <;> simp [h, Nat.add_mod]

/-- The line takes samples exactly while it drives nothing and has a rate (R126, R129). -/
theorem Line.listens_iff (l : Line) : l.listens = true ↔
    l.rate ≠ none ∧ (∀ x, l.exchange = some x → x.progress ≠ .sending) ∧ ∀ due, l.wait ≠ .pulse due := by
  unfold Line.listens Line.de
  rw [Bool.and_eq_true, Bool.not_eq_true', Bool.or_eq_false_iff, Option.isSome_iff_ne_none, and_comm]
  refine and_congr_right' (and_congr ?_ ?_)
  · cases l.exchange <;> simp
  · cases l.wait <;> simp

/-- The samples of eleven bits, up to sample 9 of the last, are heard as the character of the majorities. -/
theorem exists_hears {ws : List Samples} {ch : Byte} {tenth stop : Bool} (hl : ws.length = 11)
    (hw : ∀ w ∈ ws, w.length = 16) (h0 : ws.flatten.head? = some false) (hm : ws.map majority = charBits ch tenth stop) :
    ∃ x a y, Receiver.Hears Config.lineBits (ws.flatten.take 169) x a y ((ws.flatten.take 169).getLastD true)
      (charBits ch tenth stop) := by
  obtain ⟨v, ws, rfl⟩ := List.exists_cons_of_length_eq_add_one hl
  obtain ⟨mid, w, rfl⟩ := List.eq_nil_or_concat' ws |>.resolve_left (by rintro rfl; simp at hl)
  have midLength : mid.length = 9 := by simpa using hl
  have vLength : v.length = 16 := hw v (by simp)
  have wLength : w.length = 16 := hw w (by simp)
  have midEach : ∀ u ∈ mid, u.length = 16 := fun u hu => hw u (by simp [hu])
  have midFlat : mid.flatten.length = 144 := by
    rw [List.length_flatten, List.map_congr_left midEach, List.map_const', List.sum_replicate, midLength]; rfl
  have cut : ((v :: (mid ++ [w])).flatten.take 169) = v ++ (mid.flatten ++ w.take 9) := by
    simp [List.take_append, vLength, midFlat, List.take_of_length_le]
  have last : (v ++ (mid.flatten ++ w.take 9)).getLastD true = (w.take 9).getD 8 false := by
    match w, wLength with
    | [_, _, _, _, _, _, _, _, _, _, _, _, _, _, _, _], _ => simp [List.getLastD_eq_getLast?]
  have same : majority (w.take 9) = majority w := by
    rw [majority, majority, List.drop_take, List.take_take]; rfl
  have first : v.head? = some false ∧ majority v = false := by
    refine ⟨?_, (List.cons_eq_cons.mp hm).1⟩
    match v, vLength with
    | _ :: _, _ => exact h0
  obtain ⟨x, a, y, h⟩ := Receiver.hears_bits (size := Config.lineBits) (w := w.take 9) (ws := mid)
    (by rw [midLength]; rfl) vLength midEach (by simp [wLength]) first.1 first.2
  refine ⟨x, a, y, ?_⟩
  rw [cut, last, ← hm]
  rw [List.map_append, List.map_singleton, same] at h
  simpa [first.2] using h

/-! ## The character joins the reply (R126, R132) -/

/-- The exchange has these octets of its reply, with these errors of their characters: none while no start bit has come. -/
def Exchange.gathered (e : Exchange) (before : List Byte) (p f : Bool) : Prop :=
  e.progress = .receiving before p f ∨ ∃ due, e.progress = .waiting due ∧ before = [] ∧ p = false ∧ f = false

section
variable {s : State} {k : Crane} {z x y : Samples} {a b : Bool} {ch : Byte} {tenth stop : Bool}
  (h : Receiver.Hears Config.lineBits z x a y b (charBits ch tenth stop)) (hl : (s.line k).listens = true)
  (hr : (s.line k).rx = .hunt true)
include h hl hr

/-- A character with no exchange in flight is discarded (R126). -/
theorem State.sampleLines_discarded (hx : (s.line k).exchange = none) :
    s.sampleLines k z = s.modLine k (fun l => { l with rx := .hunt b }) := by
  have begins : s.replyBegins k = s := by
    unfold State.replyBegins
    rw [hx]
  rw [State.sampleLines_hears h hl hr, begins, State.takeChar, State.line_modLine_self]
  dsimp only
  rw [hx]

/-- A character of a reply: the reply goes on with its octet and its errors (R132). -/
theorem State.sampleLines_extends {e : Exchange} {before : List Byte} {p f : Bool} (hx : (s.line k).exchange = some e)
    (hp : e.gathered before p f) : s.sampleLines k z =
      (s.modLine k (fun l =>
        { l with rx := .hunt b, exchange := some { e with progress := .receiving before p f } })).extendReply k
        { e with progress := .receiving before p f } (before ++ [ch])
        (p || parityFails ch tenth) (f || !stop) := by
  have begun : (s.replyBegins k).modLine k (fun l => { l with rx := .hunt b }) = s.modLine k (fun l =>
      { l with rx := .hunt b, exchange := some { e with progress := .receiving before p f } }) := by
    unfold State.replyBegins
    rw [hx]
    rcases hp with hp | ⟨due, hp, rfl, rfl, rfl⟩
    · dsimp only
      rw [hp]
      have same : { e with progress := .receiving before p f } = e := by rw [← hp]
      simp only [same, ← hx]
      unfold State.modLine
      rfl
    · dsimp only
      rw [hp]
      exact State.modLine_modLine ..
  rw [State.sampleLines_hears h hl hr, begun, State.takeChar, State.line_modLine_self, lineChar_charBits]
  dsimp only
  rw [LineChar.parity_eq]

end

/-! ## The reply with its new octet (R132, R133) -/

theorem replyComplete_iff (o : List Byte) : replyComplete o = true ↔ 3 ≤ o.length ∧ o.length = 4 + oct o 2 := by
  simp [replyComplete]

/-- The flags that a REPORT's frame gives (R133). -/
theorem frameFaults_poll (m : ChunkMarker) (tag : Byte) (o : List Byte) (parity framing : Bool) :
    frameFaults (.poll m) tag o parity framing =
      { timeout := false, parity := parity, framing := framing
        check := o.getLast? != some (o.dropLast.foldl (fun a b => a ^^^ b) 0xA5), size := oct o 2 != 13
        tag := o.getD 0 0 != 0x94 || o.getD 1 0 != tag, range := false } := rfl

/-- A check of the frame of a REPORT fails (R133). -/
theorem frameFaults_poll_any (m : ChunkMarker) (tag : Byte) (o : List Byte) (parity framing : Bool) :
    (frameFaults (.poll m) tag o parity framing).any = true ↔ (parity || framing) = true ∨
      o.getLast? ≠ some (o.dropLast.foldl (fun a b => a ^^^ b) 0xA5) ∨ oct o 2 ≠ 13 ∨ o.getD 0 0 ≠ 0x94 ∨
      o.getD 1 0 ≠ tag := by
  rw [frameFaults_poll, Faults.any]
  simp only [Bool.or_eq_true, bne_iff_ne, Bool.false_eq_true, false_or, or_false, ne_eq, or_assoc]

/-- A whole REPORT that is not valid: its exchange fails with these flags (R133). -/
theorem State.judge_invalid {s : State} {k : Crane} {x : ExchangeKind} {o : List Byte} {p f : Bool}
    (h : (replyFaults x (s.line k).tag o p f).any = true) :
    s.judge k x o p f = s.exchangeFailed k (replyFaults x (s.line k).tag o p f) := if_pos h

theorem replyFaults_of_frame {x : ExchangeKind} {tag : Byte} {o : List Byte} {p f : Bool}
    (h : (frameFaults x tag o p f).any = true) : replyFaults x tag o p f = frameFaults x tag o p f := if_pos h

/-- A frame without a fault is judged by its content alone (R133). -/
theorem replyFaults_of_content {x : ExchangeKind} {tag : Byte} {o : List Byte} {p f : Bool}
    (h : ¬ (frameFaults x tag o p f).any = true) :
    replyFaults x tag o p f = { Faults.clear with range := contentFails x o } := by
  have clear : frameFaults x tag o p f = Faults.clear := by
    generalize frameFaults x tag o p f = found at h
    rcases found with ⟨_, _, _, _, _, _, _⟩
    simpa [Faults.any, Faults.clear, and_assoc] using h
  rw [replyFaults, if_neg h, clear]

end Sys2Proof.Machine
end

section
/-! SUPPORT. The events of an exchange, one by one (R126, R128, R132, R138). -/

namespace Sys2Proof.Machine

section
variable {s : State} {k : Crane}

/-! ## The frame is sent, and the samples that begin no reply (R126, R128, R132) -/

theorem exec_frameSent {e : Exchange} (hx : (s.line k).exchange = some e) (hp : e.progress = .sending) :
    exec (.frameSent k) s = .next (s.modLine k (fun l =>
      { l with exchange := some { e with progress := .waiting (s.later e.window) } })) := by
  refine congrArg Host.Outcome.next (?_ : s.frameIsSent k = _)
  unfold State.frameIsSent
  rw [hx]
  exact if_pos hp

theorem exec_replyCharacter (s : State) (k : Crane) (z : Samples) :
    exec (.replyCharacter k z) s = .next (s.sampleLines k z) := rfl

/-- A receiver that has seen a level rest hears nothing while it rests on (R128). -/
theorem State.sampleLines_rest {b : Bool} (n : Nat) (hr : (s.line k).rx = .hunt b) :
    s.sampleLines k (List.replicate n b) = s := by
  by_cases hl : (s.line k).listens = true
  · rw [State.sampleLines_quiet _ hl hr (Receiver.rest _ b n)]
    exact State.modLine_same _ _ (by rw [← hr])
  · exact State.sampleLines_deaf (by simpa using hl) _

section
variable {w : Samples} (hl : (s.line k).listens = true) (hr : (s.line k).rx = .hunt true) (hw : w.length = 9)
  (h0 : w.head? = some false)
include hl hr hw h0

/-- A start bit that is noise brings nothing (R128). -/
theorem State.sampleLines_noise (hm : majority w = true) :
    s.sampleLines k w = s.modLine k (fun l => { l with rx := .hunt (w.getD 8 false) }) :=
  State.sampleLines_quiet _ hl hr (Receiver.startBit_noise hw h0 hm)

/-- A confirmed start bit begins the reply that is awaited (R132). -/
theorem State.sampleLines_start (hm : majority w = false) {e : Exchange} {due : Moment}
    (hx : (s.line k).exchange = some e) (hp : e.progress = .waiting due) : s.sampleLines k w = s.modLine k (fun l =>
      { l with rx := .char 9 0 [false], exchange := some { e with progress := .receiving [] false false } }) := by
  obtain ⟨x, y, cut, hy, quiet, after, start⟩ := Receiver.startBit_confirmed (size := Config.lineBits) (by decide)
    (by omega) h0 hm
  obtain rfl : y = [] := List.length_eq_zero_iff.mp (by omega)
  have begins : s.replyBegins k = s.modLine k (fun l =>
      { l with exchange := some { e with progress := .receiving [] false false } }) := by
    unfold State.replyBegins
    rw [hx]
    dsimp only
    rw [hp]
  rw [cut, State.sampleLines_append, State.sampleLines_quiet _ hl hr ⟨quiet, after⟩, State.sampleLines_cons,
    State.sampleLine_eq (by simpa [Line.listens, Line.de] using hl) (by simp) start, State.modLine_modLine, State.hear,
    State.replyBegins_withRx, begins, State.modLine_modLine]
  rfl

end

/-! ## A character that ends the exchange as a miss (R132, R133, R138) -/

section
variable {z x y : Samples} {a b : Bool} {ch : Byte} {tenth stop : Bool} {e : Exchange} {before : List Byte} {p f : Bool}
  (h : Receiver.Hears Config.lineBits z x a y b (charBits ch tenth stop)) (hl : (s.line k).listens = true)
  (hr : (s.line k).rx = .hunt true) (hx : (s.line k).exchange = some e)

include h hl hr hx

/-- A character that leaves the reply incomplete and its buffer not full (R132). -/
theorem State.sampleLines_goesOn (hp : e.gathered before p f)
    (hc : ¬ (3 ≤ (before ++ [ch]).length ∧ (before ++ [ch]).length = 4 + oct (before ++ [ch]) 2))
    (hn : (before ++ [ch]).length < 32) : s.sampleLines k z = s.modLine k (fun l =>
      { l with
        rx := .hunt b
        exchange := some
          { e with progress := .receiving (before ++ [ch]) (p || parityFails ch tenth) (f || !stop) } }) := by
  rw [State.sampleLines_extends h hl hr hx hp, State.extendReply, if_neg (mt (replyComplete_iff _).mp hc),
    if_neg (show ¬ Config.replyBuffer ≤ _ from Nat.not_le.mpr hn), State.modLine_modLine]

/-- The 32nd character of a reply that is not complete: SIZE, with the errors of its characters (R132). -/
theorem exec_replyBufferFull (hp : e.progress = .receiving before p f)
    (hc : ¬ (3 ≤ (before ++ [ch]).length ∧ (before ++ [ch]).length = 4 + oct (before ++ [ch]) 2))
    (hn : (before ++ [ch]).length = 32) : exec (.replyBufferFull k z) s = .next ((s.modLine k (fun l =>
      { l with rx := .hunt b, exchange := some { e with progress := .receiving before p f } })).exchangeFailed k
      { Faults.sizeOnly with
        parity := p || parityFails ch tenth, framing := f || !stop }) := by
  have goesOn : replyComplete (before ++ [ch]) = false := by simpa using mt (replyComplete_iff _).mp hc
  have overflows : s.overflows k z = true := by
    unfold State.overflows
    rw [hr, h.characters, hx]
    dsimp only
    rw [hp]
    dsimp only
    rw [lineChar_charBits, goesOn]
    simpa [Config.replyBuffer] using hn
  refine congrArg Host.Outcome.next ((if_pos overflows).trans ?_)
  rw [State.sampleLines_extends h hl hr hx (.inl hp), State.extendReply, if_neg (by simp [goesOn]),
    if_pos (show Config.replyBuffer ≤ _ from Nat.le_of_eq hn.symm)]

/-- A whole reply to a POLL that is not valid (R133). -/
theorem exec_report_invalid {m : ChunkMarker} (hk : e.kind = .poll m) (hp : e.gathered before p f)
    (hc : 3 ≤ (before ++ [ch]).length ∧ (before ++ [ch]).length = 4 + oct (before ++ [ch]) 2)
    {found : Faults} (hf : replyFaults (.poll m) (s.line k).tag (before ++ [ch])
      (p || parityFails ch tenth) (f || !stop) = found) (bad : found.any = true) :
    exec (.report k z) s = .next ((s.modLine k (fun l =>
      { l with rx := .hunt b, exchange := some { e with progress := .receiving before p f } })).exchangeFailed k found) := by
  have awaited : s.awaits k (fun e => match e with
      | .poll _ => true
      | .wakeCheck _ | .readyQ | .tagSet _ => false) = true := by
    simp [State.awaits, State.inFlight, hx, hk]
  refine congrArg Host.Outcome.next ((if_pos awaited).trans ?_)
  subst hf
  rw [State.sampleLines_extends h hl hr hx hp, State.extendReply, if_pos ((replyComplete_iff _).mpr hc), hk,
    State.judge_invalid (by rw [State.line_modLine_self]; exact bad), State.line_modLine_self]

end

section
variable {z x y : Samples} {a b : Bool} {ch : Byte} {tenth stop : Bool} {e : Exchange} {before : List Byte} {p f : Bool}
  (h : Receiver.Hears Config.lineBits z x a y b (charBits ch tenth stop)) (hl : (s.line k).listens = true)
  (hr : (s.line k).rx = .hunt true) (hx : (s.line k).exchange = some e) (online : (s.line k).link = .online)
include h hl hr hx online

theorem State.misses_of_full (hp : e.progress = .receiving before p f)
    (hc : ¬ (3 ≤ (before ++ [ch]).length ∧ (before ++ [ch]).length = 4 + oct (before ++ [ch]) 2))
    (hn : (before ++ [ch]).length = 32) : s.Misses k (.replyBufferFull k z) s (.hunt b) { (s.line k).faults with
      size := true, parity := (s.line k).faults.parity || (p || parityFails ch tenth)
      framing := (s.line k).faults.framing || (f || !stop) } :=
  State.misses_of_failed online (Within.refl ..) (exec_replyBufferFull h hl hr hx hp hc hn)
    (by simp [Faults.or, Faults.sizeOnly, Faults.clear])

variable {m : ChunkMarker} (hk : e.kind = .poll m) (hp : e.gathered before p f)
  (hc : 3 ≤ (before ++ [ch]).length ∧ (before ++ [ch]).length = 4 + oct (before ++ [ch]) 2)
include hk hp hc

/-- A REPORT with a fault of its frame (R133). -/
theorem State.misses_of_frame (bad : (frameFaults (.poll m) (s.line k).tag (before ++ [ch]) (p || parityFails ch tenth)
      (f || !stop)).any = true) : s.Misses k (.report k z) s (.hunt b)
      { timeout := (s.line k).faults.timeout
        parity := (s.line k).faults.parity || (p || parityFails ch tenth)
        framing := (s.line k).faults.framing || (f || !stop)
        check := (s.line k).faults.check ||
          (before ++ [ch]).getLast? != some ((before ++ [ch]).dropLast.foldl (fun a b => a ^^^ b) 0xA5)
        size := (s.line k).faults.size || oct (before ++ [ch]) 2 != 13
        tag := (s.line k).faults.tag ||
          ((before ++ [ch]).getD 0 0 != 0x94 || (before ++ [ch]).getD 1 0 != (s.line k).tag)
        range := (s.line k).faults.range } :=
  State.misses_of_failed online (Within.refl ..)
    (exec_report_invalid h hl hr hx hk hp hc (replyFaults_of_frame bad) bad)
    (by rw [frameFaults_poll, Faults.or]; simp only [Bool.or_false])

/-- A REPORT whose frame is good, and whose angle is out of range (R133). -/
theorem State.misses_of_range (good : ¬ (frameFaults (.poll m) (s.line k).tag (before ++ [ch])
      (p || parityFails ch tenth) (f || !stop)).any = true) (far : 3600 ≤ oct2 (before ++ [ch]) 3) :
    s.Misses k (.report k z) s (.hunt b) { (s.line k).faults with range := true } := by
  have ranged : replyFaults (.poll m) (s.line k).tag (before ++ [ch]) (p || parityFails ch tenth) (f || !stop) =
      { Faults.clear with range := true } := by
    rw [replyFaults_of_content good, contentFails, decide_eq_true far]
  exact State.misses_of_failed online (Within.refl ..) (exec_report_invalid h hl hr hx hk hp hc ranged rfl)
    (by simp [Faults.or, Faults.clear])

end

/-! ## No reply, and a reply that breaks off (R132) -/

theorem exec_replyWindowClose {e : Exchange} {due : Moment} (hx : (s.line k).exchange = some e)
    (hp : e.progress = .waiting due) :
    exec (.replyWindowClose k) s = .next ((s.reach due).exchangeFailed k .timeoutOnly) := by
  refine congrArg Host.Outcome.next (?_ : s.windowCloses k = _)
  unfold State.windowCloses
  rw [hx]
  dsimp only
  rw [hp]

theorem exec_silenceLimit {e : Exchange} {o : List Byte} {p f : Bool} (hx : (s.line k).exchange = some e)
    (hp : e.progress = .receiving o p f) : exec (.silenceLimit k) s = .next (if (s.line k).rx.inCharacter then s
      else s.exchangeFailed k { Faults.sizeOnly with parity := p, framing := f }) := by
  refine congrArg Host.Outcome.next (?_ : s.silencePasses k = _)
  unfold State.silencePasses
  rw [hx]
  dsimp only
  rw [hp, Exchange.endedFaults, hp]
  rfl

/-- An exchange that fails with its receiver and progress as they stand, time apart. -/
theorem State.misses_of_unheard {now : State} {cmd : Instr} {found faults : Faults} (online : (s.line k).link = .online)
    (hn : Within [.msCount] s now) (he : exec cmd s = .next (now.exchangeFailed k found))
    (hf : (s.line k).faults.or found = faults) : s.Misses k cmd now (s.line k).rx faults := by
  have same : now.line k = s.line k := by rw [State.line, hn.same .lines (by decide), State.line]
  refine State.misses_of_failed (x := (s.line k).exchange) online hn ?_ hf
  rw [he, State.modLine_same now k (by rw [same])]

theorem State.misses_of_timeout {e : Exchange} {due : Moment} (hx : (s.line k).exchange = some e)
    (hp : e.progress = .waiting due) (online : (s.line k).link = .online) :
    s.Misses k (.replyWindowClose k) (s.reach due) (s.line k).rx { (s.line k).faults with timeout := true } :=
  State.misses_of_unheard online (s.reach_within due) (exec_replyWindowClose hx hp)
    (by simp [Faults.or, Faults.timeoutOnly, Faults.clear])

theorem State.misses_of_silence {e : Exchange} {o : List Byte} {p f : Bool} (hx : (s.line k).exchange = some e)
    (hp : e.progress = .receiving o p f) (silent : (s.line k).rx.inCharacter = false)
    (online : (s.line k).link = .online) : s.Misses k (.silenceLimit k) s (s.line k).rx { (s.line k).faults with
      size := true, parity := (s.line k).faults.parity || p, framing := (s.line k).faults.framing || f } :=
  State.misses_of_unheard online (Within.refl ..)
    ((exec_silenceLimit hx hp).trans (congrArg _ (if_neg (by simp [silent]))))
    (by simp [Faults.or, Faults.sizeOnly, Faults.clear])

end

/-- Settles O44. -/
theorem anExchangeRunsAsItsEventsCome : Obligations.AnExchangeRunsAsItsEventsCome := by
  intro s k
  dsimp only
  refine ⟨fun x hx hp => exec_frameSent hx hp, fun x deaf => ?_, fun b n hr => ?_, fun w hears hr hw h0 => ?_,
    fun ws ch tenth stop hears hr hl hw h0 hm => ?_, fun online x hx => ?_⟩
  · rw [exec_replyCharacter, State.sampleLines_deaf (by simpa using mt (Line.listens_iff _).mp deaf)]
  · rw [exec_replyCharacter, State.sampleLines_rest n hr]
  · have listens := (Line.listens_iff _).mpr hears
    exact ⟨fun noise => congrArg _ (State.sampleLines_noise listens hr hw h0 noise),
      fun begins x due hx hp => congrArg _ (State.sampleLines_start listens hr hw h0 begins hx hp)⟩
  · have listens := (Line.listens_iff _).mpr hears
    obtain ⟨x, a, y, heard⟩ := exists_hears hl hw h0 hm
    refine ⟨fun hx => congrArg _ (State.sampleLines_discarded heard listens hr hx), fun e before p f hx hp => ?_⟩
    refine ⟨fun hc hn => congrArg _ (State.sampleLines_goesOn heard listens hr hx hp hc hn), fun online => ⟨?_, ?_⟩⟩
    · exact fun hc hn hp => State.misses_of_full heard listens hr hx online hp hc hn
    · intro m hk hc
      have any := frameFaults_poll_any m (s.line k).tag (before ++ [ch]) (p || parityFails ch tenth) (f || !stop)
      rw [← Bool.or_assoc] at any
      exact ⟨fun bad => State.misses_of_frame heard listens hr hx online hk hp hc (any.mpr bad),
        fun good far => State.misses_of_range heard listens hr hx online hk hp hc (mt any.mp good) far⟩
  · refine ⟨fun due hp => State.misses_of_timeout hx hp online, fun o p f hp => ⟨fun busy => ?_, fun silent =>
      State.misses_of_silence hx hp silent online⟩⟩
    rw [exec_silenceLimit hx hp, if_pos busy]

end Sys2Proof.Machine
end

section
/-! SUPPORT. SERVICE, TEXT and CRANE_STATE (R74, R84, R134, R187, R188): the checks of each, and the groups of
the CRANE_STATE payload octet by octet. -/

namespace Sys2Proof.Machine

/-! ## Requests that name a crane in their first octet -/

section
variable {s : State} {typ seq : Byte} {p : List Byte}

/-- A request of the length asked for whose number names no crane, or whose owner finds another number out of range (R3,
R179). -/
theorem State.serve_outOfRange {n : Byte} {len : Nat} (own : Crane → State → Answer) (ht : s.takes typ seq (n :: p))
    (hl : (n :: p).length = len)
    (h : n = 0 ∨ 8 < n.toNat ∨ ∀ k, own k s.taken = s.taken.refuse .refusedRange) :
    s.serve { typ := typ, seq := seq, payload := n :: p }
      (withLength len (n :: p) (withCrane (oct (n :: p) 0) own)) = s.refused typ seq .refusedRange := by
  rw [State.serve_withLength _ ht hl, oct_cons_zero, withCrane]
  cases hk : (pick n.toNat : Option Crane) with
  | none => rfl
  | some k =>
    rcases h with h | h | h
    · rw [pick_octet_eq_none (.inl h)] at hk; cases hk
    · rw [pick_octet_eq_none (.inr h)] at hk; cases hk
    · dsimp only
      rw [h k]
      rfl

/-- A request of the length asked for that names crane *k*. -/
theorem State.serve_craned {k : Crane} {len : Nat} (own : Crane → State → Answer)
    (ht : s.takes typ seq (BitVec.ofNat 8 (number k) :: p)) (hl : (BitVec.ofNat 8 (number k) :: p).length = len) :
    s.serve { typ := typ, seq := seq, payload := BitVec.ofNat 8 (number k) :: p }
      (withLength len (BitVec.ofNat 8 (number k) :: p) (withCrane (oct (BitVec.ofNat 8 (number k) :: p) 0) own)) =
      (own k s.taken).sent typ seq := by
  rw [State.serve_withLength _ ht hl, oct_cons_zero, toNat_craneNumber, withCrane_number]

end

/-! ## SERVICE (R74) -/

theorem serviceOf_code (state : ServiceState) : serviceOf state.code = some state := by cases state <;> rfl

theorem serviceOf_of_large {n : Nat} (h : 2 < n) : serviceOf n = none := by
  match n, h with
  | n + 3, _ => rfl

section
variable {s : State} {seq : Byte} {k : Crane}

/-- A number that names no crane, or a code that names no service state. -/
theorem exec_service_outOfRange {n o : Byte} (ht : s.takes 0x22 seq [n, o]) (h : n = 0 ∨ 8 < n.toNat ∨ 2 < o.toNat) :
    exec (.service seq [n, o]) s = .next (s.refused 0x22 seq .refusedRange) :=
  congrArg _ (State.serve_outOfRange _ ht rfl (h.imp_right (.imp_right fun large k => by
    rw [oct_cons_succ, oct_cons_zero, serviceOf_of_large large])))

theorem exec_service {code : Byte} {new : ServiceState} (hc : code.toNat = new.code)
    (ht : s.takes 0x22 seq [BitVec.ofNat 8 (number k), code]) :
    exec (.service seq [BitVec.ofNat 8 (number k), code]) s = .next ((s.taken.serviceRequest k new).sent 0x22 seq) := by
  refine congrArg _ ((State.serve_craned _ ht rfl).trans ?_)
  rw [oct_cons_succ, oct_cons_zero, hc, serviceOf_code]

theorem State.serviceRequest_of_free {new : ServiceState} (h : s.crane k = none) :
    s.serviceRequest k new = s.refuse .refusedRef := if_pos (by rw [h]; rfl)

theorem State.serviceRequest_of_same {new : ServiceState} (h : s.crane k ≠ none) (same : new = s.service[k]) :
    s.serviceRequest k new = s.done (put1 new.code) := by
  subst same
  exact (if_neg (by simpa using h)).trans (congrArg (State.done · (put1 s.service[k].code)) (if_pos rfl))

theorem State.serviceRequest_of_differs {new : ServiceState} (h : s.crane k ≠ none) (differs : new ≠ s.service[k]) :
    s.serviceRequest k new = (({ s with service := s.service.set k new } : State).post (.service k new)).done
      (put1 s.service[k].code) :=
  (if_neg (by simpa using h)).trans (congrArg (State.done · (put1 s.service[k].code)) (if_neg differs))

/-! ## TEXT (R84) -/

theorem exec_text {chars : List Byte} {len : Byte} (hl : chars.length = len.toNat)
    (ht : s.takes 0x24 seq (BitVec.ofNat 8 (number k) :: len :: chars)) :
    exec (.text seq (BitVec.ofNat 8 (number k) :: len :: chars)) s =
      .next ((s.taken.textRequest k chars).sent 0x24 seq) :=
  congrArg _ (State.serve_craned _ ht (by simp [hl]; omega))

theorem exec_text_uncraned {n len : Byte} {chars : List Byte} (hn : n = 0 ∨ 8 < n.toNat) (hl : chars.length = len.toNat)
    (ht : s.takes 0x24 seq (n :: len :: chars)) :
    exec (.text seq (n :: len :: chars)) s = .next (s.refused 0x24 seq .refusedRange) :=
  congrArg _ (State.serve_outOfRange _ ht (by simp [hl]; omega) (hn.imp_right .inl))

theorem State.textRequest_of_free {chars : List Byte} (h : s.crane k = none) :
    s.textRequest k chars = s.refuse .refusedRef := if_pos (by rw [h]; rfl)

theorem State.textRequest_of_full {chars : List Byte} (h : s.crane k ≠ none) (full : 4 ≤ (s.line k).texts.length) :
    s.textRequest k chars = s.refuse .refusedFull := (if_neg (by simpa using h)).trans (if_pos full)

theorem State.textRequest_of_room {chars : List Byte} (h : s.crane k ≠ none) (room : (s.line k).texts.length < 4) :
    s.textRequest k chars = (s.modLine k (fun l =>
      { l with
        texts := l.texts ++ [{ serial := l.nextSerial, chars := chars.take 32, progress := .first }]
        nextSerial := l.nextSerial + 1 })).done [BitVec.ofNat 8 (min 32 chars.length), (s.line k).nextSerial] := by
  refine ((if_neg (by simpa using h)).trans (if_neg (Nat.not_le.mpr room))).trans ?_
  dsimp only
  rw [List.length_take]
  rfl

/-! ## CRANE_STATE (R134, R187) -/

/-- A number that names no crane, or a choice above 1. -/
theorem exec_craneState_outOfRange {n o : Byte} (ht : s.takes 0x23 seq [n, o]) (h : n = 0 ∨ 8 < n.toNat ∨ 1 < o.toNat) :
    exec (.craneState seq [n, o]) s = .next (s.refused 0x23 seq .refusedRange) :=
  congrArg _ (State.serve_outOfRange _ ht rfl (h.imp_right (.imp_right fun large _ => if_neg (Nat.not_le.mpr large))))

theorem exec_craneState {o : Byte} (ho : o.toNat ≤ 1) (ht : s.takes 0x23 seq [BitVec.ofNat 8 (number k), o]) :
    exec (.craneState seq [BitVec.ofNat 8 (number k), o]) s =
      .next ((s.taken.craneStateRequest k (o.toNat == 1)).sent 0x23 seq) :=
  congrArg _ ((State.serve_craned _ ht rfl).trans (congrArg (Answer.sent · 0x23 seq) (if_pos ho)))

/-! ## The CRANE_STATE payload (R187, R188) -/

/-- A number in the two octets of a signed field. -/
theorem putInt1_eq (i : Int) : putInt1 i = [BitVec.ofInt 8 i] := by
  rw [putInt1, put1, BitVec.ofNat_toNat, BitVec.setWidth_eq]

theorem Line.stateOctets_eq (l : Line) : l.stateOctets =
    [flagOctet l.enabled, BitVec.ofNat 8 l.link.code, BitVec.ofNat 8 l.linkCause.code, BitVec.ofNat 8 (rateCode l.rate),
      l.tag, l.tagCounter] ++ put2 (l.effCycle.getD 0) ++ [BitVec.ofNat 8 l.missCount] := by
  simp only [Line.stateOctets, putFlag_eq, put1, List.cons_append, List.nil_append]

theorem Line.reportOctets_eq (l : Line) : l.reportOctets =
    (match l.lastReport with
      | none => List.replicate 14 0
      | some r => [1] ++ put2 r.theta ++ [BitVec.ofInt 8 r.omega] ++ put2 r.radius ++
        put2 (BitVec.ofInt 16 r.speed).toNat ++ put2 (BitVec.ofInt 16 r.height).toNat ++ put2 r.wind ++
        [flagOctet r.windValid, BitVec.ofNat 8 r.age]) ++ [flagOctet l.reportSince] := by
  unfold Line.reportOctets
  rw [putFlag_eq l.reportSince]
  cases l.lastReport with
  | none => rfl
  | some r =>
    simp only [Report.octets, putFlag_eq, putInt1_eq, putInt2, put1, List.append_assoc, List.cons_append,
      List.nil_append]
    rfl

theorem SentPermit.octets_eq (p : SentPermit) : p.octets .none =
    [BitVec.ofNat 8 (p.permit.cw.code + 4 * p.permit.ccw.code + 16 * p.permit.outward.code + 64 * p.permit.inward.code),
      BitVec.ofNat 8 (p.permit.up.code + 4 * p.permit.down.code),
      BitVec.ofNat 8 (p.weathervane.toNat + 2 * p.yielding.toNat + 4 * p.wind.code)] ++ put2 p.booking := rfl

/-- The octet of a weathervane record's cause. -/
theorem VaneRec.putCause_eq (v : VaneRec) :
    put1 v.causeCode = [if v.state = .none then 0 else BitVec.ofNat 8 v.cause.code] := by
  rw [put1, VaneRec.causeCode, apply_ite (BitVec.ofNat 8)]
  rfl

theorem State.vaneOctets_eq (s : State) (k : Crane) : s.vaneOctets k =
    [BitVec.ofNat 8 s.vane[k].state.code] ++ put4 (match s.vane[k].pendingSince with
      | none => 0
      | some t => s.since t / 1000) ++
      [flagOctet s.vane[k].alarm, if s.vane[k].state = .none then 0 else BitVec.ofNat 8 s.vane[k].cause.code] :=
  (congrArg₂ (fun alarm cause => _ ++ alarm ++ cause) (putFlag_eq _) (VaneRec.putCause_eq _)).trans
    (List.append_assoc ..)

/-- The yield mark, written out (R67). -/
theorem State.yielding_eq (s : State) (k : Crane) : s.yielding k =
    allZones.any (fun z => s.isShared z && (s.zone z).holder == some k &&
      (!(s.zone z).waiting.isEmpty || !(s.zone z).claims.isEmpty ||
        (s.zone z).reservation.any (fun r => r.phase == .calling && r.crane != k))) := by
  have yields : ∀ r : ZoneRt, r.yields k = (r.holder == some k && (!r.waiting.isEmpty || !r.claims.isEmpty ||
      r.reservation.any (fun v => v.phase == .calling && v.crane != k))) := by
    intro r
    unfold ZoneRt.yields
    cases r.reservation <;> rfl
  simp only [State.yielding, yields, Bool.and_assoc]

theorem Line.textOctets_eq (l : Line) : l.textOctets =
    [BitVec.ofNat 8 l.texts.length] ++ (match l.texts with
      | [] => [0, 0]
      | t :: _ => [t.serial, BitVec.ofNat 8 t.progress.code]) := by
  unfold Line.textOctets
  cases l.texts <;> rfl

theorem State.faceOctets_eq (s : State) (g : FaceState) : s.faceOctets g =
    [BitVec.ofNat 8 (number g.zone),
      BitVec.ofNat 8 (g.cw.code + 4 * g.ccw.code + 16 * g.outward.code + 64 * g.inward.code),
      BitVec.ofNat 8 (g.down.code + 4 * g.planInside.toNat + 8 * g.inside.toNat)] ++ put2 (match g.clearSince with
        | none => 65535
        | some t => min (s.since t) 65534) := rfl

/-- The payload, octet by octet. -/
theorem State.craneStatePayload_eq (s : State) (k : Crane) : s.craneStatePayload k =
    [flagOctet (s.line k).enabled, BitVec.ofNat 8 (s.line k).link.code, BitVec.ofNat 8 (s.line k).linkCause.code,
      BitVec.ofNat 8 (rateCode (s.line k).rate), (s.line k).tag, (s.line k).tagCounter] ++
    put2 ((s.line k).effCycle.getD 0) ++ [BitVec.ofNat 8 (s.line k).missCount] ++
    [BitVec.ofNat 8 (s.line k).faults.octet] ++
    (match (s.line k).lastReport with
      | none => List.replicate 14 0
      | some r => [1] ++ put2 r.theta ++ [BitVec.ofInt 8 r.omega] ++ put2 r.radius ++
        put2 (BitVec.ofInt 16 r.speed).toNat ++ put2 (BitVec.ofInt 16 r.height).toNat ++ put2 r.wind ++
        [flagOctet r.windValid, BitVec.ofNat 8 r.age]) ++
    [flagOctet (s.line k).reportSince] ++
    [BitVec.ofNat 8 (s.sent[k].permit.cw.code + 4 * s.sent[k].permit.ccw.code +
        16 * s.sent[k].permit.outward.code + 64 * s.sent[k].permit.inward.code),
      BitVec.ofNat 8 (s.sent[k].permit.up.code + 4 * s.sent[k].permit.down.code),
      BitVec.ofNat 8 (s.sent[k].weathervane.toNat + 2 * s.sent[k].yielding.toNat + 4 * s.sent[k].wind.code)] ++
    put2 s.sent[k].booking ++
    [BitVec.ofNat 8 s.vane[k].state.code] ++ put4 (match s.vane[k].pendingSince with
      | none => 0
      | some t => s.since t / 1000) ++
    [flagOctet s.vane[k].alarm, if s.vane[k].state = .none then 0 else BitVec.ofNat 8 s.vane[k].cause.code] ++
    [BitVec.ofNat 8 s.service[k].code, flagOctet (s.yielding k)] ++
    BitVec.ofNat 8 s.declared[k].length :: s.declared[k].map (fun z => BitVec.ofNat 8 (number z)) ++
    [BitVec.ofNat 8 (s.line k).texts.length] ++ (match (s.line k).texts with
      | [] => [0, 0]
      | t :: _ => [t.serial, BitVec.ofNat 8 t.progress.code]) ++
    BitVec.ofNat 8 s.faces[k].length :: (s.faces[k].map s.faceOctets).flatten := by
  rw [State.craneStatePayload, Line.stateOctets_eq, Line.reportOctets_eq, SentPermit.octets_eq, State.vaneOctets_eq,
    Line.textOctets_eq]
  simp only [putList, putFlag_eq, put1, List.append_assoc, List.cons_append, List.nil_append]

end

/-- Settles O34: the checks of each request in their order, and the payload group by group. -/
theorem serviceTextAndCraneState : Obligations.ServiceTextAndCraneState := by
  refine ⟨fun s seq n o out ht => exec_service_outOfRange ht out,
    fun s seq n o out ht => exec_craneState_outOfRange ht out,
    fun s seq n len chars out hl ht => exec_text_uncraned out hl ht, fun s seq k => ⟨?_, ?_, ?_⟩⟩
  · intro code new hc ht
    have run := exec_service hc ht
    refine ⟨fun free => ?_, fun defined same => ?_, fun defined differs => ?_⟩
    · rw [run, State.serviceRequest_of_free (s := s.taken) free]
      rfl
    · rw [run, State.serviceRequest_of_same (s := s.taken) defined same, ← hc, put1, BitVec.ofNat_toNat,
        BitVec.setWidth_eq]
      rfl
    · rw [run, State.serviceRequest_of_differs (s := s.taken) defined differs]
      rfl
  · intro len chars hl ht
    have run := exec_text hl ht
    refine ⟨fun free => ?_, fun defined full => ?_, fun defined room => ?_⟩
    · rw [run, State.textRequest_of_free (s := s.taken) free]
      rfl
    · rw [run, State.textRequest_of_full (s := s.taken) defined full]
      rfl
    · rw [run, State.textRequest_of_room (s := s.taken) defined room]
      rfl
  · intro one two four flag since l f p v yielding payload
    have same : s.taken.craneStatePayload k = payload := by
      refine (s.craneStatePayload_eq k).trans ?_
      rw [State.yielding_eq]
      rfl
    refine ⟨fun ht => ?_, fun ht => ?_⟩
    · rw [exec_craneState (by decide) ht, ← same]
      rfl
    · rw [exec_craneState (by decide) ht, ← same]
      rfl

end Sys2Proof.Machine
end

section
/-! SUPPORT. The bounds of the queues (R84, R109, R173, R178, R181): what keeps them, and the operations of the
arbiter and the scheduler. -/

namespace Sys2Proof.Machine

/-! ## What it is to keep the bounds -/

/-- A text queue within its bound (R84). -/
def Line.TextsFit (l : Line) : Prop := l.texts.length ≤ 4 ∧ ∀ t ∈ l.texts, t.chars.length ≤ 32

/-- Going from `s` to `t` each bound that held holds still, and the port's queues have not moved. -/
structure State.QueuesKept (s t : State) : Prop where
  events : s.events.length ≤ 64 → t.events.length ≤ 64
  bookings : s.bookings.length ≤ 32 → t.bookings.length ≤ 32
  texts : ∀ k, (s.line k).TextsFit → (t.line k).TextsFit
  requests : t.port.requests = s.port.requests
  replies : t.port.replies = s.port.replies

theorem State.events_of_logged {s t : State} {new : List Event} (h : s.logged t new) (hs : s.events.length ≤ 64) :
    t.events.length ≤ 64 := by
  rw [(h hs).1, List.length_drop, List.length_append]
  omega

/-! The lemmas in this namespace are named after the operation that keeps the bounds. -/

namespace State.QueuesKept

section
variable {s t u : State}

theorem refl (s : State) : s.QueuesKept s := ⟨id, id, fun _ => id, rfl, rfl⟩

theorem trans (h : s.QueuesKept t) (h' : t.QueuesKept u) : s.QueuesKept u :=
  ⟨h'.events ∘ h.events, h'.bookings ∘ h.bookings, fun k => h'.texts k ∘ h.texts k, h'.requests.trans h.requests,
    h'.replies.trans h.replies⟩

theorem ite {c : Prop} [Decidable c] (h : s.QueuesKept t) (h' : s.QueuesKept u) : s.QueuesKept (if c then t else u) := by
  split
  · exact h
  · exact h'

theorem foldl {α : Type} {f : State → α → State} (h : ∀ u a, QueuesKept u (f u a)) (l : List α) :
    ∀ s : State, s.QueuesKept (l.foldl f s) := by
  induction l with
  | nil => exact refl
  | cons a l ih => exact fun s => (h s a).trans (ih _)

theorem of_eq (same : t.events = s.events ∧ t.bookings = s.bookings ∧ t.lines = s.lines ∧ t.port = s.port) :
    s.QueuesKept t := by
  obtain ⟨events, bookings, lines, port⟩ := same
  refine ⟨fun h => events ▸ h, fun h => bookings ▸ h, fun k h => ?_, by rw [port], by rw [port]⟩
  rwa [State.line, lines]

/-- Parts without a queue are written. -/
theorem update (h : s.QueuesKept t)
    (same : u.events = t.events ∧ u.bookings = t.bookings ∧ u.lines = t.lines ∧ u.port = t.port) : s.QueuesKept u :=
  h.trans (of_eq same)

theorem answer_ite {c : Prop} [Decidable c] {a b : Answer} (h : s.QueuesKept a.state) (h' : s.QueuesKept b.state) :
    s.QueuesKept (if c then a else b).state := by
  split
  · exact h
  · exact h'

/-- A step that appends events. -/
theorem of_logged {ps : List Part} {new : List Event} (hl : s.logged t new) (hw : Within ps s t)
    (apart : ∀ p ∈ [Part.bookings, .lines, .port], p ∉ ps) : s.QueuesKept t := by
  have rest : ({ s with events := t.events } : State).QueuesKept t := of_eq
    ⟨rfl, hw.same .bookings (apart _ (by decide)), hw.same .lines (apart _ (by decide)),
      hw.same .port (apart _ (by decide))⟩
  exact { rest with events := State.events_of_logged hl }

/-- A step that touches no queue. -/
theorem of_within {ps : List Part} (hw : Within ps s t)
    (apart : ∀ p ∈ [Part.events, .overflow, .bookings, .lines, .port], p ∉ ps) : s.QueuesKept t :=
  of_logged (State.logged_of_same (hw.same .events (apart _ (by decide))) (hw.same .overflow (apart _ (by decide)))) hw
    fun p hp => apart p (List.mem_cons_of_mem _ (List.mem_cons_of_mem _ hp))

/-! ## The updates of the state -/

theorem emit (h : s.QueuesKept t) (kind : EventKind) (c z b : Nat) (x y : Int) : s.QueuesKept (t.emit kind c z b x y) :=
  h.trans (of_logged (t.logged_emit kind c z b x y) (State.emit_within ..) (by decide))

theorem emitCrane (h : s.QueuesKept t) (kind : EventKind) (k : Crane) (x y : Int) :
    s.QueuesKept (t.emitCrane kind k x y) := h.emit ..

theorem post (h : s.QueuesKept t) (n : Notice) : s.QueuesKept (t.post n) :=
  h.trans (of_within (State.post_within ..) (by decide))

/-- A line is changed, but for its texts as they fit before and after. -/
theorem modTexts (h : s.QueuesKept t) (k : Crane) {f : Line → Line} (hf : (t.line k).TextsFit → (f (t.line k)).TextsFit) :
    s.QueuesKept (t.modLine k f) := by
  refine h.trans ⟨id, id, fun j hj => ?_, rfl, rfl⟩
  rw [State.line_modLine]
  split
  · rename_i same
    exact hf (same ▸ hj)
  · exact hj

/-- A line is changed, and its texts are not. -/
theorem modLine (h : s.QueuesKept t) (k : Crane) {f : Line → Line} (hf : ∀ l, (f l).texts = l.texts) :
    s.QueuesKept (t.modLine k f) := h.modTexts k fun fit => by rwa [Line.TextsFit, hf]

theorem reach (h : s.QueuesKept t) (due : Moment) : s.QueuesKept (t.reach due) :=
  h.trans (of_within (State.reach_within ..) (by decide))

end

/-! ## The Zone Arbiter -/

section
variable (s : State) (k : Crane)

theorem guardBegin : s.QueuesKept (s.guardBegin k) :=
  of_logged (s.guardBegin_logged k) (State.guardBegin_within ..) (by decide)

theorem guardUnlessSetup : s.QueuesKept (s.guardUnlessSetup k) := ite (guardBegin s k) (refl s)

theorem guardAtStart : s.QueuesKept (s.guardAtStart k) := ite (guardBegin s k) (refl s)

theorem declareZone (z : Zone) : s.QueuesKept (State.declareZone k s z) := by
  have declared : s.QueuesKept (s.setDeclared k (addTo z s.declared[k])) :=
    of_within (State.setDeclared_within ..) (by decide)
  refine ite (declared.trans ?_) (declared.trans (of_within (State.setZone_within ..) (by decide)))
  obtain ⟨-, new, -, logged, -⟩ := State.settle_course (s.setDeclared k (addTo z s.declared[k])) z k (s.courseOf z)
    ((s.zone z).remove k) true false rfl
  exact of_logged logged (State.settle_within ..) (by decide)

theorem declareZones (zones : List Zone) : s.QueuesKept (s.declareZones k zones) :=
  have declared := foldl (fun u z => declareZone u k z) zones s
  ite declared (declared.emitCrane ..)

theorem vaneClear : s.QueuesKept (s.vaneClear k) :=
  of_logged (State.vaneClear_logged (s := s) (k := k)) (State.vaneClear_within ..) (by decide)

/-! ## The Booking Scheduler -/

theorem go (b : Booking) (state : BookingState) (cause : BookingCause) : s.QueuesKept (s.go b state cause) := by
  obtain ⟨new, -, logged, -⟩ := ((State.Went.start s).go (b := b) state cause).ran
  have within := s.go_within b state cause
  have port : (s.go b state cause).port = s.port := within.same .port (by decide)
  refine ⟨State.events_of_logged logged, fun h => ?_, fun j h => ?_, by rw [port], by rw [port]⟩
  · rwa [State.bookings_go, List.length_map]
  · rwa [State.line, within.same .lines (by decide)]

theorem run (steps : List (BookingState × BookingCause)) : ∀ (s : State) (b : Booking), s.QueuesKept (s.run b steps) := by
  induction steps with
  | nil => exact fun s _ => refl s
  | cons p rest ih => exact fun s b => (go s b p.1 p.2).trans (ih ..)

theorem review (wrap : Bool) (id : Nat) : s.QueuesKept (State.review wrap s id) := by
  cases valid : s.clockValid
  · simp only [State.review, valid, Bool.not_false, if_true]
    exact refl s
  · cases found : s.booking id
    · simp only [State.review, valid, found, Bool.not_true]
      exact refl s
    · rw [State.review_eq s wrap _ valid found]
      exact run ..

theorem reviewAll (wrap : Bool) (order : List Nat) (p : Booking → Bool) : s.QueuesKept (s.reviewAll wrap order p) :=
  foldl (fun u id => review u wrap id) _ s

theorem cancelBooking {b : Booking} (h : b.state.terminal = false) : s.QueuesKept (s.cancelBooking b) := by
  rw [State.cancelBooking_eq h]
  exact go ..

theorem changeState (b : Booking) (state : BookingState) (cause : BookingCause) :
    s.QueuesKept (s.changeState b state cause) := by
  have put : ∀ c, s.QueuesKept (s.putBooking c) := fun c =>
    ⟨id, fun h => by simpa [State.putBooking] using h, fun _ => id, rfl, rfl⟩
  exact ite ((put _).trans ⟨id, id, fun _ => id, rfl, rfl⟩) (put _)

theorem cancelAll (cause : BookingCause) (events : Bool) : s.QueuesKept (s.cancelAll cause events) := by
  refine foldl (fun u id => ?_) _ s
  unfold State.cancelInProgress
  split
  · exact refl u
  · exact ite (ite ((changeState ..).emit ..) (changeState ..)) (refl u)

end

end State.QueuesKept

end Sys2Proof.Machine
end

section
/-! SUPPORT. The bounds of the queues on the crane lines: a text queue changes only where a link is set (R86) and
where a REPORT acknowledges a chunk (R85), and neither lengthens it. -/

namespace Sys2Proof.Machine

/-! ## The texts -/

/-- Another progress of its head text leaves a queue within its bound. -/
theorem Line.TextsFit.progress {l : Line} {t : CabText} {rest : List CabText} {p : TextProgress} (h : l.TextsFit)
    (hl : l.texts = t :: rest) : ({ l with texts := { t with progress := p } :: rest } : Line).TextsFit := by
  obtain ⟨few, short⟩ := h
  rw [hl] at few short
  exact ⟨few, List.forall_mem_cons.mpr (List.forall_mem_cons.mp short)⟩

theorem Line.TextsFit.rewound {l : Line} (h : l.TextsFit) : ({ l with texts := rewind l.texts } : Line).TextsFit := by
  cases ht : l.texts with
  | nil => exact ⟨Nat.zero_le _, by simp [rewind]⟩
  | cons t rest => exact h.progress ht

theorem Line.TextsFit.acknowledged {l : Line} (h : l.TextsFit) (m : ChunkMarker) :
    ({ l with texts := acknowledge m l.texts } : Line).TextsFit := by
  cases ht : l.texts with
  | nil => cases m <;> exact ⟨Nat.zero_le _, by simp [acknowledge]⟩
  | cons t rest =>
    obtain ⟨few, short⟩ := id h
    rw [ht] at few short
    have rests : ({ l with texts := rest } : Line).TextsFit :=
      ⟨(Nat.le_succ _).trans few, (List.forall_mem_cons.mp short).2⟩
    cases m with
    | none => exact ⟨few, short⟩
    | first => exact h.progress ht
    | last | only => exact rests

/-- At the miss limit the end of the exchange loses the link (R138). -/
theorem State.endIncomplete_lost {s : State} {k : Crane} (due : Moment) (online : (s.line k).link = .online)
    (flying : (s.line k).exchange ≠ none) (limit : (s.craneRec k).missLimit ≤ (s.line k).missCount + 1) :
    (((s.reach due).endIncomplete k).line k).link = .lost := by
  obtain ⟨x, hx⟩ := Option.ne_none_iff_exists'.mp flying
  have within := s.reach_within due
  have same : (s.reach due).line k = s.line k := by rw [State.line, within.same .lines (by decide), State.line]
  have record : (s.reach due).craneRec k = s.craneRec k := by
    rw [State.craneRec, State.crane, within.same .cranes (by decide), State.craneRec, State.crane]
  rw [State.endIncomplete, same, hx]
  dsimp only
  rw [State.exchangeFailed_online (same ▸ online), record, same, if_pos limit, State.line_told within, if_pos rfl]
  rfl

namespace State.QueuesKept

section
variable {s t : State} (h : s.QueuesKept t) (k : Crane)
include h

/-! ## Links and exchanges -/

theorem setLink (new : LinkState) : s.QueuesKept (t.setLink k new) := by
  refine (h.modTexts k fun fit => ?_).post _
  by_cases leaves : (t.line k).link = .online ∧ new ≠ .online
  · simp only [if_pos leaves]
    exact fit.rewound
  · simp only [if_neg leaves]
    exact fit

theorem enterWaking (keep : Bool) : s.QueuesKept (t.enterWaking k keep) := (h.modLine k (by intro; rfl)).setLink k _

theorem enterLost (cause : LinkCause) : s.QueuesKept (t.enterLost k cause) :=
  ((h.modLine k (by intro; rfl)).emitCrane ..).setLink k _

theorem enterMismatch (cause : LinkCause) (b : Int) : s.QueuesKept (t.enterMismatch k cause b) :=
  ((h.modLine k (by intro; rfl)).emitCrane ..).setLink k _

theorem enterOnline (tag : Byte) : s.QueuesKept (t.enterOnline k tag) := by
  have entered := fun x y => (h.modLine k (f := fun l =>
    { l.clearEnrolment with
      exchange := none, tag := tag, missCount := 0, reportSince := false, guardEndDue := true })
    (by intro; rfl)).emitCrane .linkOnline k x y
  unfold State.enterOnline
  refine setLink (ite ?_ ?_) k _ |>.modLine k (by intro; rfl)
  · exact entered ..
  · exact (entered ..).emitCrane ..

theorem beginExchange (kind : ExchangeKind) (frame : List Byte) : s.QueuesKept (t.beginExchange k kind frame) :=
  h.modLine k (by intro; rfl)

theorem sendWakeCheck : s.QueuesKept (t.sendWakeCheck k) := by
  unfold State.sendWakeCheck
  exact (h.beginExchange k ..).modLine k (by intro; rfl)

theorem searchAttempt : s.QueuesKept (t.searchAttempt k) := (h.modLine k (by intro; rfl)).sendWakeCheck k

theorem enterRateSearch : s.QueuesKept (t.enterRateSearch k) :=
  ((h.setLink k _).modLine k (by intro; rfl)).searchAttempt k

theorem enterCheck : s.QueuesKept (t.enterCheck k) := ((h.setLink k _).modLine k (by intro; rfl)).sendWakeCheck k

theorem startCycle : s.QueuesKept (t.startCycle k) := h.modLine k (by intro; rfl)

theorem enterWaitready : s.QueuesKept (t.enterWaitready k) :=
  (((h.setLink k _).startCycle k).modLine k (by intro; rfl)).beginExchange k ..

theorem tagAttempt : s.QueuesKept (t.tagAttempt k) := by
  unfold State.tagAttempt
  exact (h.beginExchange k ..).modLine k (by intro; rfl)

theorem enterTagging : s.QueuesKept (t.enterTagging k) := ((h.setLink k _).modLine k (by intro; rfl)).tagAttempt k

/-! ## Exchanges that fail -/

theorem countMiss : s.QueuesKept (t.countMiss k) :=
  ite ((h.modLine k (by intro; rfl)).enterLost k _) (h.modLine k (by intro; rfl))

theorem searchFailed : s.QueuesKept (t.searchFailed k) :=
  ite ((h.modLine k (by intro; rfl)).searchAttempt k) ((h.modLine k (by intro; rfl)).modLine k (by intro; rfl))

theorem checkFailed : s.QueuesKept (t.checkFailed k) :=
  ite ((h.modLine k (by intro; rfl)).sendWakeCheck k) ((h.modLine k (by intro; rfl)).enterWaking k _)

theorem taggingFailed : s.QueuesKept (t.taggingFailed k) :=
  ite ((h.modLine k (by intro; rfl)).tagAttempt k) ((h.modLine k (by intro; rfl)).enterLost k _)

theorem dropExchange : s.QueuesKept (t.dropExchange k) := h.modLine k (by intro; rfl)

theorem setFaults (f : Faults) : s.QueuesKept (t.setFaults k f) := h.modLine k (by intro; rfl)

theorem exchangeFailed (f : Faults) : s.QueuesKept (t.exchangeFailed k f) := by
  have dropped := h.dropExchange k
  have flagged := dropped.setFaults k f
  unfold State.exchangeFailed
  dsimp only
  split
  case h_1 => exact dropped.searchFailed k
  case h_2 => exact flagged.checkFailed k
  case h_3 => exact flagged
  case h_4 => exact flagged.taggingFailed k
  case h_5 => exact flagged.countMiss k
  all_goals exact dropped

theorem endIncomplete : s.QueuesKept (t.endIncomplete k) := by
  unfold State.endIncomplete
  split
  · exact h
  · exact h.exchangeFailed k _

/-! ## Replies -/

theorem takeReport (m : ChunkMarker) (o : List Byte) : s.QueuesKept (t.takeReport k m o) := by
  have taken := h.modTexts k (f := fun l =>
    { l with
      exchange := none, lastReport := some ((rawReport o).clamped (t.craneRec k).jib), reportSince := true, missCount := 0
      texts := acknowledge m l.texts
      faults := if (rawReport o).clamped (t.craneRec k).jib = rawReport o then l.faults else { l.faults with range := true } })
    (·.acknowledged m)
  exact ite (taken.trans (of_within (State.ownSample_within ..) (by decide))) taken

theorem takeEcho (version : Byte) : s.QueuesKept (t.takeEcho k version) :=
  have dropped := h.dropExchange k
  ite (dropped.enterMismatch k ..) (ite (dropped.enterWaitready k) (dropped.enterCheck k))

theorem takeReady (flag : Nat) : s.QueuesKept (t.takeReady k flag) :=
  have dropped := h.dropExchange k
  ite (dropped.enterTagging k) dropped

theorem takeIdent (tag : Byte) (o : List Byte) : s.QueuesKept (t.takeIdent k tag o) :=
  ite (h.enterOnline k _) (h.enterMismatch k ..)

theorem judge (x : ExchangeKind) (o : List Byte) (p f : Bool) : s.QueuesKept (t.judge k x o p f) := by
  refine ite (h.exchangeFailed k _) ?_
  cases x with
  | wakeCheck => exact h.takeEcho k _
  | readyQ => exact h.takeReady k _
  | tagSet => exact h.takeIdent k ..
  | poll => exact h.takeReport k ..

/-! ## What a receiver hears -/

theorem extendReply (x : Exchange) (o : List Byte) (p f : Bool) : s.QueuesKept (t.extendReply k x o p f) :=
  ite (h.judge k ..) (ite (h.exchangeFailed k _) (h.modLine k (by intro; rfl)))

theorem replyBegins : s.QueuesKept (t.replyBegins k) := by
  unfold State.replyBegins
  split
  · exact h
  · split
    · exact h.modLine k (by intro; rfl)
    all_goals exact h

theorem takeChar (c : LineChar) : s.QueuesKept (t.takeChar k c) := by
  unfold State.takeChar
  split
  · exact h
  · split
    · exact h.extendReply k ..
    all_goals exact h

theorem hear (heard : Heard) : s.QueuesKept (t.hear k heard) := by
  cases heard with
  | nothing => exact h
  | start => exact h.replyBegins k
  | character => exact h.takeChar k _

omit h in
theorem sampleLines (s : State) (x : Samples) : s.QueuesKept (s.sampleLines k x) :=
  foldl (fun u _ => ite (((refl u).modLine k (by intro; rfl)).hear k _) (refl u)) x s

end

/-! ## The events of a line -/

section
variable (s : State) (k : Crane)

theorem frameIsSent : s.QueuesKept (s.frameIsSent k) := by
  unfold State.frameIsSent
  split
  · exact refl s
  · exact ite ((refl s).modLine k (by intro; rfl)) (refl s)

theorem windowCloses : s.QueuesKept (s.windowCloses k) := by
  unfold State.windowCloses
  split
  · exact refl s
  · split
    · exact ((refl s).reach _).exchangeFailed k _
    all_goals exact refl s

theorem silencePasses : s.QueuesKept (s.silencePasses k) := by
  unfold State.silencePasses
  split
  · exact refl s
  · split
    · exact ite (refl s) ((refl s).exchangeFailed k _)
    all_goals exact refl s

theorem pulseEnds : s.QueuesKept (s.pulseEnds k) := by
  unfold State.pulseEnds
  split
  · exact ((refl s).reach _).modLine k (by intro; rfl)
  all_goals exact refl s

theorem idleEnds : s.QueuesKept (s.idleEnds k) := by
  unfold State.idleEnds
  split
  · exact ((refl s).reach _).enterRateSearch k
  all_goals exact refl s

theorem backoffEnds : s.QueuesKept (s.backoffEnds k) := by
  unfold State.backoffEnds
  split
  · exact ((refl s).reach _).enterWaking k _
  all_goals exact refl s

theorem lostEnds : s.QueuesKept (s.lostEnds k) := by
  unfold State.lostEnds
  split
  · exact ((refl s).reach _).enterWaking k _
  all_goals exact refl s

theorem asksAgain : s.QueuesKept (s.asksAgain k) := by
  unfold State.asksAgain
  split
  · exact refl s
  · exact ite (((((refl s).reach _).endIncomplete k).startCycle k).beginExchange k ..) (refl s)

theorem deadlinePasses : s.QueuesKept (s.deadlinePasses k) := by
  unfold State.deadlinePasses
  split
  · exact refl s
  · exact ite ((((refl s).reach _).dropExchange k).enterLost k _) (refl s)

/-- The expiry of an ONLINE line that composes and polls (R136). -/
theorem polled (due : Moment) : s.QueuesKept (s.polled k due) := by
  obtain ⟨within, new, -, ⟨logged, -⟩, -⟩ := s.polled_came (k := k) (due := due)
  have port : (s.polled k due).port = s.port := within.same .port (by decide)
  refine ⟨State.events_of_logged logged, fun h => ?_, fun j h => ?_, by rw [port], by rw [port]⟩
  · rwa [show (s.polled k due).bookings = s.bookings from within.same .bookings (by decide)]
  · by_cases same : j = k
    · subst same
      rw [State.polled_line_own]
      exact h
    · rwa [State.polled_line, if_neg same]

/-- At the miss limit the expiry ends the exchange and the link with it (R138); otherwise it composes and polls. -/
theorem cycleExpires : s.QueuesKept (s.cycleExpires k) := by
  by_cases online : (s.line k).link = .online
  · cases timer : (s.line k).cycleTimer with
    | none =>
      simp only [State.cycleExpires, timer]
      exact refl s
    | some due =>
      by_cases polls : (s.line k).exchange = none ∨ (s.line k).missCount + 1 < (s.craneRec k).missLimit
      · have run := Host.Outcome.next.inj (exec_cycleExpiry_polled online timer polls)
        exact (congrArg s.QueuesKept run).mpr (polled s k due)
      · obtain ⟨flying, limit⟩ := not_or.mp polls
        have lost := State.endIncomplete_lost due online flying (Nat.not_lt.mp limit)
        simp only [State.cycleExpires, timer, if_pos online, State.expireCycle, lost, reduceCtorEq, if_false]
        exact ((refl s).reach due).endIncomplete k
  · simp only [State.cycleExpires, if_neg online]
    split <;> exact refl s

end

end State.QueuesKept

end Sys2Proof.Machine
end

section
/-! SUPPORT. The bounds of the queues at the mast line, the slots, the notices and the requests. -/

namespace Sys2Proof.Machine

/-! ## The booking that makes room (R109) -/

theorem length_insertBooking (b : Booking) (l : List Booking) : (insertBooking b l).length = l.length + 1 := by
  induction l with
  | nil => rfl
  | cons c l ih =>
    unfold insertBooking
    split
    · rfl
    · exact congrArg (· + 1) ih

/-- Of a booking and the rest either the booking is evicted, or what is evicted of the rest. -/
theorem evictee_cons (b : Booking) (l : List Booking) : evictee (b :: l) = some b ∨
    (evictee (b :: l) = evictee l ∧ (b.state.terminal = true → evictee l ≠ none)) := by
  rw [evictee]
  by_cases terminal : b.state.terminal = true
  · rw [if_pos terminal]
    cases evictee l with
    | none => exact .inl rfl
    | some c =>
      by_cases before : evictedBefore c b = true
      · exact .inr ⟨if_pos before, fun _ => Option.some_ne_none c⟩
      · exact .inl (if_neg before)
  · rw [if_neg terminal]
    exact .inr ⟨rfl, fun h => absurd h terminal⟩

theorem mem_of_evictee {v : Booking} {l : List Booking} (h : evictee l = some v) : v ∈ l := by
  induction l with
  | nil => cases h
  | cons b l ih =>
    rcases evictee_cons b l with own | ⟨rest, -⟩
    · exact Option.some.inj (own.symm.trans h) ▸ List.mem_cons_self
    · exact List.mem_cons_of_mem _ (ih (rest ▸ h))

/-- A table with a terminal record has one to evict. -/
theorem evictee_ne_none {l : List Booking} (h : ∃ b ∈ l, b.state.terminal = true) : evictee l ≠ none := by
  induction l with
  | nil => simp at h
  | cons c l ih =>
    rcases evictee_cons c l with own | ⟨rest, found⟩
    · rw [own]
      exact Option.some_ne_none c
    · rw [rest]
      obtain ⟨b, hb, terminal⟩ := h
      rcases List.mem_cons.mp hb with rfl | tail
      · exact found terminal
      · exact ih ⟨b, tail, terminal⟩

/-- Room is there, or is made by one terminal record. -/
theorem State.length_afterEviction_lt {s : State} (few : s.bookings.length ≤ 32)
    (room : s.bookings.length < 32 ∨ ∃ b ∈ s.bookings, b.state.terminal = true) : s.afterEviction.length < 32 := by
  unfold State.afterEviction
  by_cases free : s.bookings.length < 32
  · rw [show s.evicted = none from if_pos free]
    exact free
  · obtain ⟨v, hv⟩ := Option.ne_none_iff_exists'.mp (evictee_ne_none (room.resolve_left free))
    rw [show s.evicted = some v from (if_neg free).trans hv]
    have gone : (s.bookings.filter (fun b => b.id != v.id)).length < s.bookings.length :=
      List.length_filter_lt_length_iff_exists.mpr ⟨v, mem_of_evictee hv, by simp⟩
    exact gone.trans_le few

namespace State.QueuesKept

/-! ## The Mast Line Controller and the Wind Evaluator -/

section
variable {s t : State} (h : s.QueuesKept t)
include h

theorem endMastExchange (x : MastExchange) (result : Option Nat) : s.QueuesKept (t.endMastExchange x result) := by
  have dropped := h.trans (of_within (State.dropMastExchange_within t) (by decide))
  refine ite dropped ?_
  split
  · exact dropped
  · rename_i before _
    have stored := dropped.trans (of_within (State.setMast_within _ x.mast (some (before.after result))) (by decide))
    exact (ite (stored.emit ..) (ite (stored.emit ..) stored)).post _

theorem takeMastChar (c : LineChar) : s.QueuesKept (t.takeMastChar c) := by
  unfold State.takeMastChar
  split
  · exact h
  · split
    · exact h
    · exact ite h (ite (h.endMastExchange ..) (h.update ⟨rfl, rfl, rfl, rfl⟩))

theorem hearMast (heard : Heard) : s.QueuesKept (t.hearMast heard) := by
  cases heard with
  | nothing | start => exact h
  | character => exact h.takeMastChar _

theorem windEvents (k : Crane) (before after : WindRec) : s.QueuesKept (t.windEvents k before after) :=
  have sourced := ite (h.emitCrane ..) h
  ite ((sourced.emitCrane ..).post _) sourced

end

section
variable (s : State)

theorem sampleMast (b : Bool) : s.QueuesKept (s.sampleMast b) := by
  unfold State.sampleMast
  refine ite (refl s) (hearMast ?_ _)
  exact of_eq ⟨rfl, rfl, rfl, rfl⟩

theorem sampleMasts (x : Samples) : s.QueuesKept (s.sampleMasts x) := foldl sampleMast x s

theorem mastWindowCloses : s.QueuesKept s.mastWindowCloses := by
  unfold State.mastWindowCloses
  split
  · exact refl s
  · split
    · exact ((refl s).reach _).endMastExchange ..
    · exact refl s

theorem closeSlot (k : Crane) : s.QueuesKept (s.closeSlot k) := by
  unfold State.closeSlot
  split
  · exact refl s
  · have closed := fun w => of_within (s.setWind_within k w) (by decide)
    exact ite (refl s) ((closed _).windEvents ..)

theorem slotsClose (order : List Crane) : s.QueuesKept (s.slotsClose order) := by
  have fired : s.QueuesKept { s.reach s.windDue with windDue := s.windDue + BitVec.ofNat 32 Config.second } :=
    ((refl s).reach s.windDue).update ⟨rfl, rfl, rfl, rfl⟩
  exact (fired.trans (foldl closeSlot ..)).trans (foldl (fun u m => of_within (State.setMastCopy_within ..) (by decide)) ..)

/-! ## Notices and the clock -/

theorem linkZones (k : Crane) (old new : LinkState) : s.QueuesKept (s.linkZones k old new) := by
  have unfaced := ite (c := old = .online ∧ new ≠ .online) (of_within (s.setFaces_within k []) (by decide)) (refl s)
  exact ite (unfaced.trans (of_within (State.setDeclared_within ..) (by decide))) (unfaced.trans (guardUnlessSetup ..))

theorem linkChanged (k : Crane) (old new : LinkState) (order : List Nat) :
    s.QueuesKept (s.linkChanged k old new order) := by
  have sourced := (linkZones s k old new).trans
    (of_within ((s.linkZones k old new).sourced_within k old new) (by decide))
  exact ite (sourced.trans (reviewAll ..)) sourced

theorem secondPasses (order : List Nat) : s.QueuesKept (s.secondPasses order) := by
  have counted : s.QueuesKept { s.reach s.clockDue with
      clock := s.clockNext, clockDue := s.clockDue + BitVec.ofNat 32 Config.second } :=
    ((refl s).reach s.clockDue).update ⟨rfl, rfl, rfl, rfl⟩
  exact counted.trans (reviewAll ..)

theorem deliver (p : Notice → Bool) (act : Notice → State → State) (h : ∀ n u, QueuesKept u (act n u)) :
    s.QueuesKept (s.deliver p act) := by
  unfold State.deliver
  split
  · exact refl s
  · refine trans ?_ (h ..)
    exact of_eq ⟨rfl, rfl, rfl, rfl⟩

/-! ## Site requests -/

theorem setMode (m : Mode) : s.QueuesKept (s.setMode m) := by
  unfold State.setMode
  refine emit ?_ ..
  exact of_eq ⟨rfl, rfl, rfl, rfl⟩

theorem cleared (m : Mode) : s.QueuesKept (s.setMode m).clearZones :=
  (setMode s m).trans (of_within (State.clearZones_within _) (by decide))

theorem startRequest : s.QueuesKept s.startRequest.state := by
  unfold State.startRequest
  generalize allCranes = l
  exact answer_ite (refl s) (answer_ite (refl s) ((cleared s .run).trans (foldl guardAtStart l _)))

theorem holdRequest : s.QueuesKept s.holdRequest.state := answer_ite (refl s) ((setMode s .hold).post _)

theorem resumeRequest : s.QueuesKept s.resumeRequest.state := answer_ite (refl s) ((setMode s .run).post _)

theorem setupRequest : s.QueuesKept s.setupRequest.state :=
  answer_ite (refl s) (((cleared s .setup).trans (cancelAll ..)).update ⟨rfl, rfl, rfl, rfl⟩)

theorem clockRequest (n : Nat) : s.QueuesKept (s.clockRequest n).state := by
  refine answer_ite (refl s) ?_
  rw [State.done_state, State.setClock]
  have set : s.QueuesKept { s with clock := n, clockValid := true } := of_eq ⟨rfl, rfl, rfl, rfl⟩
  exact ite (set.emit ..) ((set.emit ..).post _)

/-! ## Configuration requests -/

theorem applyCrane (k : Crane) (c : CraneRec) : s.QueuesKept (s.applyCrane k c) := by
  have stored : s.QueuesKept (s.setCrane k (some c)) := of_within (State.setCrane_within ..) (by decide)
  have fresh : s.QueuesKept ((s.setCrane k (some c)).freshenWind k (s.worked k)) :=
    ite stored (stored.trans (of_within (State.setWind_within ..) (by decide)))
  have off := ite (c := ((s.crane k).isSome && c.absent) = true) (fresh.trans (vaneClear _ k)) fresh
  exact ite (off.enterWaking ..) off

theorem craneDefRequest (k : Crane) (c : CraneRec) : s.QueuesKept (s.craneDefRequest k c).state :=
  answer_ite (refl s) (answer_ite (refl s) (answer_ite (refl s) (applyCrane ..)))

theorem craneClearRequest (k : Crane) : s.QueuesKept (s.craneClearRequest k).state := by
  refine answer_ite (refl s) (answer_ite (refl s) (answer_ite (refl s) ?_))
  have freed : s.QueuesKept { s.setCrane k none with service := s.service.set k .inService } :=
    of_eq ⟨rfl, rfl, rfl, rfl⟩
  exact ((freed.modTexts k fun _ => ⟨Nat.zero_le _, by simp⟩).trans (of_within (State.setWind_within ..) (by decide))).trans
    (vaneClear ..)

/-! ## Crane requests -/

theorem lineOnRequest (k : Crane) : s.QueuesKept (s.lineOnRequest k).state :=
  answer_ite (refl s) (ite (((refl s).modLine k (by intro; rfl)).enterWaking ..) (refl s))

theorem lineOffRequest (k : Crane) : s.QueuesKept (s.lineOffRequest k).state :=
  answer_ite (refl s) ((((refl s).modLine k (by intro; rfl)).setLink ..).trans (guardUnlessSetup ..))

theorem craneStateRequest (k : Crane) (clear : Bool) : s.QueuesKept (s.craneStateRequest k clear).state :=
  ite ((refl s).modLine k (by intro; rfl)) (refl s)

theorem textRequest (k : Crane) (chars : List Byte) : s.QueuesKept (s.textRequest k chars).state := by
  by_cases free : s.crane k = none
  · rw [State.textRequest_of_free free]
    exact refl s
  by_cases room : (s.line k).texts.length < 4
  · rw [State.textRequest_of_room free room, State.done_state]
    refine (refl s).modTexts k fun ⟨_, short⟩ => ⟨?_, ?_⟩
    · simpa using room
    · simpa using fun t ht => ht.elim (short t) (by rintro rfl; exact List.length_take_le ..)
  · rw [State.textRequest_of_full free (Nat.not_lt.mp room)]
    exact refl s

theorem declareRequest (k : Crane) (zones : List Zone) : s.QueuesKept (s.declareRequest k zones).state :=
  answer_ite (refl s) (answer_ite (refl s) (declareZones ..))

/-! ## Booking requests -/

theorem enterBooking (q : BookRequest) (room : s.bookings.length < 32 ∨ ∃ b ∈ s.bookings, b.state.terminal = true) :
    s.QueuesKept (s.enterBooking q) := by
  have added : ∀ b n, s.QueuesKept { s with bookings := insertBooking b s.afterEviction, nextId := n } := fun b n =>
    ⟨id, fun few => (length_insertBooking ..).trans_le (State.length_afterEviction_lt few room), fun _ => id, rfl, rfl⟩
  unfold State.enterBooking State.bookingEvent
  exact (added ..).emit ..

theorem bookRequest (q : BookRequest) : s.QueuesKept (s.bookRequest q).state := by
  refine answer_ite (refl s) (answer_ite (refl s) (answer_ite (refl s) ?_))
  split
  · exact refl s
  · rename_i full
    refine enterBooking s q (or_iff_not_imp_left.mpr fun large => ?_)
    simpa [Config.bookingCapacity, Nat.not_lt.mp large] using full

theorem cancelRequest (b : Booking) : s.QueuesKept (s.cancelRequest b).state := by
  unfold State.cancelRequest
  split
  · exact refl s
  · exact cancelBooking s (by simpa using ‹¬ b.state.terminal = true›)

theorem bookingRemoveRequest (b : Booking) : s.QueuesKept (s.bookingRemoveRequest b).state :=
  answer_ite ⟨id, fun h => (List.length_filter_le ..).trans h, fun _ => id, rfl, rfl⟩ (refl s)

theorem eventsRequest : s.QueuesKept s.eventsRequest.state :=
  ⟨fun h => by simpa [State.eventsRequest, State.done] using Nat.le_trans (Nat.sub_le ..) h, id, fun _ => id, rfl, rfl⟩

end

end State.QueuesKept

end Sys2Proof.Machine
end

section
/-! SUPPORT. The bounds of the queues at the supervisor port (R178, R181), at the restart (R169), and over every step. -/

namespace Sys2Proof.Machine

/-! ## The port -/

/-- The port's queues within their bounds, and a reply waiting where one is being sent or a restart is due. -/
def Port.QueuesOk (p : Port) : Prop :=
  p.requests.length ≤ 2 ∧ p.replies.length ≤ 2 ∧ (p.sending = true → p.replies ≠ []) ∧
    (p.restartTaken = true → p.replies ≠ [])

theorem State.queuesOk_iff (s : State) : s.queuesOk ↔
    s.events.length ≤ 64 ∧ s.bookings.length ≤ 32 ∧ (∀ k, (s.line k).TextsFit) ∧ s.port.QueuesOk := by
  unfold State.queuesOk Port.QueuesOk Line.TextsFit
  tauto

section
variable {p : Port} (h : p.QueuesOk)
include h

theorem Port.frameDone_queuesOk (len : Byte) (o : List Byte) (high low : Byte) : (p.frameDone len o high low).QueuesOk := by
  unfold Port.frameDone
  split
  · split
    · split
      · rename_i room
        exact ⟨List.length_append.trans_le (Nat.succ_le_of_lt room), h.2⟩
      · exact h
    · exact h
  · exact h

theorem Port.octet_queuesOk (c : PortChar) : (p.octet c).QueuesOk := by
  unfold Port.octet
  split
  case h_5 =>
    split
    · exact h
    · exact Port.frameDone_queuesOk h ..
  all_goals repeat' split
  all_goals exact h

theorem Port.hear_queuesOk (heard : Heard) : (p.hear heard).QueuesOk := by
  cases heard with
  | nothing | start => exact h
  | character => exact Port.octet_queuesOk h _

theorem Port.sample_queuesOk (b : Bool) : (p.sample b).QueuesOk :=
  Port.hear_queuesOk (p := { p with rx := (p.rx.sample Config.portBits b).1 }) h _

theorem Port.take_queuesOk (x : Samples) : (p.take x).QueuesOk := by
  induction x generalizing p with
  | nil => exact h
  | cons b x ih => exact ih (Port.sample_queuesOk h b)

theorem Port.gap_queuesOk : p.gap.QueuesOk := by
  unfold Port.gap
  split <;> exact h

theorem Port.begin_queuesOk (ready : Bool) : (p.begin ready).QueuesOk := by
  obtain ⟨requests, replies, sending, restart⟩ := h
  refine ⟨requests, replies, fun begun => ?_, restart⟩
  rcases Bool.or_eq_true_iff.mp begun with already | now
  · exact sending already
  · exact (by simpa using now : ready = true ∧ p.replies ≠ []).2

end

/-! ## Steps that keep the bounds -/

theorem State.queuesOk_modPort {t : State} {f : Port → Port} (events : t.events.length ≤ 64)
    (bookings : t.bookings.length ≤ 32) (texts : ∀ k, (t.line k).TextsFit) (port : (f t.port).QueuesOk) :
    (t.modPort f).queuesOk := (State.queuesOk_iff _).mpr ⟨events, bookings, texts, port⟩

section
variable {s t : State} (hs : s.queuesOk)
include hs

theorem State.QueuesKept.queuesOk (h : s.QueuesKept t) (port : t.port = s.port) : t.queuesOk := by
  obtain ⟨events, bookings, texts, queues⟩ := s.queuesOk_iff.mp hs
  exact t.queuesOk_iff.mpr ⟨h.events events, h.bookings bookings, fun k => h.texts k (texts k), port ▸ queues⟩

theorem State.emit_queuesOk (kind : EventKind) (c z b : Nat) (x y : Int) : (s.emit kind c z b x y).queuesOk :=
  ((State.QueuesKept.refl s).emit ..).queuesOk hs (State.emit_port ..)

theorem State.modPort_queuesOk {f : Port → Port} (h : s.port.QueuesOk → (f s.port).QueuesOk) : (s.modPort f).queuesOk := by
  obtain ⟨events, bookings, texts, queues⟩ := s.queuesOk_iff.mp hs
  exact State.queuesOk_modPort events bookings texts (h queues)

/-- A request that is taken leaves the request queue and finds room for its reply (R178). -/
theorem State.serve_queuesOk (f : Frame) {own : State → Answer} (h : ∀ u : State, u.QueuesKept (own u).state) :
    (s.serve f own).queuesOk := by
  unfold State.serve
  split
  · rename_i takes
    obtain ⟨events, bookings, texts, requests, -⟩ := s.queuesOk_iff.mp hs
    have kept := h (s.modPort fun p => { p with requests := p.requests.tail })
    have room : s.port.replies.length < 2 := by
      simp only [Port.canTake, Bool.and_eq_true, decide_eq_true_eq] at takes
      exact takes.1.2
    refine (State.queuesOk_iff _).mpr
      ⟨kept.events events, kept.bookings bookings, fun k => kept.texts k (texts k), ?_, ?_, fun _ => ?_, fun _ => ?_⟩
    · exact (congrArg List.length kept.requests).trans_le ((List.tail_sublist _).length_le.trans requests)
    · exact (List.length_append.trans (congrArg (·.length + 1) kept.replies)).trans_le room
    all_goals exact List.append_ne_nil_of_right_ne_nil _ (List.cons_ne_nil _ _)
  · exact hs

end

/-! ## The restart (R169) -/

theorem State.QueuesKept.restartLines (s : State) : s.QueuesKept s.restartLines :=
  foldl (fun u k => (refl u).modTexts k fun _ => ⟨Nat.zero_le _, by simp [Line.restarted, Line.powerOn]⟩) ..

/-- What the restart does to the zones and the lines before it clears the port. -/
theorem State.QueuesKept.restarted (s : State) (due : Moment) :
    s.QueuesKept (s.clearZones.restartLines.restartMasts.beginSlot 0 due) := by
  have lines := (of_within s.clearZones_within (by decide)).trans (restartLines s.clearZones)
  have masts := lines.trans (of_within (State.restartMasts_within _) (by decide))
  exact masts.trans (of_within (State.beginSlot_within ..) (by decide))

theorem State.restart_queuesOk {s : State} (few : s.bookings.length ≤ 32) (texts : ∀ k, (s.line k).TextsFit) :
    s.restart.queuesOk := by
  unfold State.restart
  dsimp only
  have cancelled := QueuesKept.cancelAll s .restart false
  refine State.emit_queuesOk ?_ ..
  refine State.queuesOk_modPort ((QueuesKept.restarted ..).events ?_) ((QueuesKept.restarted ..).bookings ?_)
    (fun k => (QueuesKept.restarted ..).texts k ?_)
    ⟨Nat.zero_le _, Nat.zero_le _, Bool.noConfusion, Bool.noConfusion⟩
  · exact Nat.zero_le _
  · exact cancelled.bookings few
  · exact cancelled.texts k (texts k)

theorem State.replySent_queuesOk {s : State} (hs : s.queuesOk) : s.replySent.queuesOk := by
  unfold State.replySent
  split
  · obtain ⟨events, bookings, texts, requests, replies, -, restart⟩ := s.queuesOk_iff.mp hs
    dsimp only
    split
    · exact State.restart_queuesOk bookings texts
    · rename_i stays
      refine State.modPort_queuesOk hs fun _ =>
        ⟨requests, (List.tail_sublist _).length_le.trans replies, Bool.noConfusion, fun taken empty => stays ?_⟩
      simp [State.modPort, taken, empty]
  · exact hs

/-! ## Requests -/

section
variable {own : State → Answer} (s : State)

theorem inSetup_queues (h : ∀ u : State, u.QueuesKept (own u).state) : s.QueuesKept (inSetup own s).state :=
  .answer_ite (.refl s) (h s)

theorem withCrane_queues (n : Nat) {own : Crane → State → Answer} (h : ∀ k, s.QueuesKept (own k s).state) :
    s.QueuesKept (withCrane n own s).state := by
  unfold withCrane
  split
  · exact .refl s
  · exact h _

theorem withZone_queues (n : Nat) {own : Zone → State → Answer} (h : ∀ z, s.QueuesKept (own z s).state) :
    s.QueuesKept (withZone n own s).state := by
  unfold withZone
  split
  · exact .refl s
  · exact h _

theorem withBooking_queues (id : Nat) {own : Booking → State → Answer} (h : ∀ b, s.QueuesKept (own b s).state) :
    s.QueuesKept (withBooking id own s).state := by
  refine .answer_ite (.refl s) ?_
  split
  · exact .refl s
  · exact h _

end

/-- A request whose payload has the length asked for, or is refused for it. -/
theorem State.request_queuesOk {f : Frame} {n : Nat} {p : List Byte} {s : State} {own : State → Answer} (hs : s.queuesOk)
    (h : ∀ u : State, u.QueuesKept (own u).state) : (s.serve f (withLength n p own)).queuesOk :=
  State.serve_queuesOk hs f fun u => .answer_ite (h u) (.refl u)

/-- Every command keeps the bounds: a request on its way through the port, and any other by what it does to the queues. -/
theorem exec_queuesOk {c : Instr} {s t : State} (hs : s.queuesOk) (h : exec c s = .next t) : t.queuesOk := by
  obtain ⟨u, hu, within⟩ := exec_completes_within c s
  obtain rfl : t = u := Host.Outcome.next.inj (h.symm.trans hu)
  have closes : Part.port ∉ touches c → s.QueuesKept t → t.queuesOk := fun apart kept =>
    kept.queuesOk hs (within.same .port apart)
  by_cases apart : ∀ p ∈ [Part.events, .overflow, .bookings, .lines, .port], p ∉ touches c
  · exact closes (apart _ (by decide)) (.of_within within apart)
  cases c <;> dsimp only [touches] at within apart closes <;> obtain rfl := Host.Outcome.next.inj h
  case powerOn => exact State.reset_queuesOk
  case supervisorOctet x => exact State.modPort_queuesOk hs (Port.take_queuesOk · x)
  case frameGapTimeout => exact State.modPort_queuesOk hs Port.gap_queuesOk
  case unknownType =>
    split
    · exact hs
    · exact State.serve_queuesOk hs _ .refl
  case replySend ready => exact State.modPort_queuesOk hs (Port.begin_queuesOk · ready)
  case replySent => exact State.replySent_queuesOk hs
  case start => exact State.request_queuesOk hs .startRequest
  case hold => exact State.request_queuesOk hs .holdRequest
  case resume => exact State.request_queuesOk hs .resumeRequest
  case setup => exact State.request_queuesOk hs .setupRequest
  case restart | attnMask => exact State.request_queuesOk hs fun _ => ⟨id, id, fun _ => id, rfl, rfl⟩
  case clock => exact State.request_queuesOk hs fun v => .clockRequest v _
  case tag => exact State.request_queuesOk hs fun v => .of_within (v.tagRequest_within _) (by decide)
  case craneDef =>
    refine State.request_queuesOk hs fun v => inSetup_queues v fun w => ?_
    split
    · exact .refl w
    · exact .craneDefRequest w ..
  case craneClear =>
    exact State.request_queuesOk hs fun v => inSetup_queues v fun w =>
      withCrane_queues w _ fun k => .craneClearRequest w k
  case zoneDef =>
    refine State.request_queuesOk hs fun v => inSetup_queues v fun w => ?_
    split
    · exact .refl w
    · exact .of_within (State.zoneDefRequest_within ..) (by decide)
  case zoneDel =>
    exact State.request_queuesOk hs fun v => inSetup_queues v fun w =>
      withZone_queues w _ fun z => .of_within (w.zoneDelRequest_within z) (by decide)
  case mastDef =>
    refine State.request_queuesOk hs fun v => inSetup_queues v fun w => ?_
    split
    · exact .refl w
    · exact .answer_ite (.of_within (State.mastDefRequest_within ..) (by decide)) (.refl w)
  case siteDef =>
    exact State.request_queuesOk hs fun v => inSetup_queues v fun w =>
      .of_within (w.siteDefRequest_within _) (by decide)
  case status | siteRead | bookingList => exact State.request_queuesOk hs .refl
  case craneRead =>
    refine State.request_queuesOk hs fun v => withCrane_queues v _ fun k => ?_
    unfold State.craneReadRequest
    split <;> exact .refl v
  case zoneRead =>
    refine State.request_queuesOk hs fun v => withZone_queues v _ fun k => ?_
    unfold State.zoneReadRequest
    split <;> exact .refl v
  case windRead => exact State.request_queuesOk hs fun v => withCrane_queues v _ fun k => .answer_ite (.refl v) (.refl v)
  case bookingRead => exact State.request_queuesOk hs fun v => withBooking_queues v _ fun _ => .refl v
  case lineOn => exact State.request_queuesOk hs fun v => withCrane_queues v _ (.lineOnRequest v)
  case lineOff => exact State.request_queuesOk hs fun v => withCrane_queues v _ (.lineOffRequest v)
  case service =>
    refine State.request_queuesOk hs fun v => withCrane_queues v _ fun k => ?_
    split
    · exact .refl v
    · exact .of_within (State.serviceRequest_within ..) (by decide)
  case craneState =>
    exact State.request_queuesOk hs fun v => withCrane_queues v _ fun k =>
      .answer_ite (.craneStateRequest v k _) (.refl v)
  case text =>
    exact State.request_queuesOk hs fun v => withCrane_queues v _ fun k => .textRequest v k _
  case declare =>
    refine State.request_queuesOk hs fun v => .answer_ite (.refl v) (withCrane_queues v _ fun k => ?_)
    split
    · exact .refl v
    · exact .declareRequest v k _
  case zoneState =>
    exact State.request_queuesOk hs fun v => withZone_queues v _ fun z =>
      .of_within (v.zoneStateRequest_within z) (by decide)
  case resolve =>
    refine State.request_queuesOk hs fun v => .answer_ite (.refl v) (withZone_queues v _ fun z => ?_)
    split
    · exact .refl v
    · exact .of_within (State.resolveRequest_within ..) (by decide)
  case book =>
    refine State.request_queuesOk hs fun v => ?_
    split
    · exact .refl v
    · exact .bookRequest v _
  case cancel => exact State.request_queuesOk hs fun v => withBooking_queues v _ (.cancelRequest v)
  case bookingRemove => exact State.request_queuesOk hs fun v => withBooking_queues v _ (.bookingRemoveRequest v)
  case events => exact State.request_queuesOk hs .eventsRequest
  case linkNotice k order =>
    refine closes (by decide) (.deliver s _ _ fun n u => ?_)
    cases n
    case link => exact .linkChanged u ..
    all_goals exact .refl u
  case levelNotice | serviceNotice | modeNotice | clockNotice | insideLeftNotice =>
    exact closes (by decide) (.deliver s _ _ fun _ u => .reviewAll u ..)
  case clearanceNotice => exact closes (by decide) (.deliver s _ _ fun _ u => .review u ..)
  case clockSecond order => exact closes (by decide) (.secondPasses s order)
  case slotClose order => exact closes (by decide) (.slotsClose s order)
  case mastReply x | mastCharacter x => exact closes (by decide) (.sampleMasts s x)
  case mastWindowClose => exact closes (by decide) (.mastWindowCloses s)
  case cycleExpiry k => exact closes (by decide) (.cycleExpires s k)
  case frameSent k => exact closes (by decide) (.frameIsSent s k)
  case replyWindowClose k => exact closes (by decide) (.windowCloses s k)
  case silenceLimit k => exact closes (by decide) (.silencePasses s k)
  case replyBufferFull k x | report k x | echo k x | ready k x | ident k x =>
    exact closes (by decide) (.ite (.sampleLines k s x) (.refl s))
  case replyCharacter k x => exact closes (by decide) (.sampleLines k s x)
  case wakePulseEnd k => exact closes (by decide) (.pulseEnds s k)
  case wakeIdleEnd k => exact closes (by decide) (.idleEnds s k)
  case backoffExpiry k => exact closes (by decide) (.backoffEnds s k)
  case lostExpiry k => exact closes (by decide) (.lostEnds s k)
  case waitreadyExpiry k => exact closes (by decide) (.asksAgain s k)
  case readyDeadline k => exact closes (by decide) (.deadlinePasses s k)
  all_goals exact absurd (by decide) apart

/-- Settles O8: an idle step touches no queue, and any other step is a command, which keeps the bounds. -/
theorem queuesKeepTheirBounds : Obligations.QueuesKeepTheirBounds := by
  intro s t hs h
  unfold step at h
  split at h
  · cases h
    exact (State.QueuesKept.of_within s.tick_within (by decide)).queuesOk hs rfl
  · rename_i rest _
    have ok : ({ s with pending := rest } : State).queuesOk := hs
    exact exec_queuesOk ok h

end Sys2Proof.Machine
end

section
/-! SUPPORT. The close of one wind record (R91 to R100): what each of its steps leaves. -/

namespace Sys2Proof.Machine

/-! ## The record before its level moves (steps 1 to 3) -/

/-- The second value of the closing second (R93). -/
def WindRec.heardValue (w : WindRec) (backup : Option MastCopy) : Option Nat :=
  secondValue w (settleSource w backup.isSome).1 backup

/-- The record with the source, the quiet seconds, the second values and the accumulator of the closing second, its level
not yet moved. -/
def WindRec.heard (w : WindRec) (backup : Option MastCopy) : WindRec :=
  { (match w.heardValue backup with
      | none => w
      | some v => w.push v) with
    source := (settleSource w backup.isSome).1, quiet := (settleSource w backup.isSome).2 }

/-- A close moves the level of that record, and drops the samples. -/
theorem WindRec.close_eq (w : WindRec) (c : CraneRec) (p : SiteParams) (backup : Option MastCopy) :
    w.close c p backup =
      { (if (w.heard backup).unsettled then (w.heard backup).settleUnsettled ((w.heard backup).target c)
          else (w.heard backup).moveSettled c p ((w.heard backup).target c)) with
        ownSum := 0, ownCount := 0 } := rfl

/-- R92. -/
theorem settleSource_eq (w : WindRec) (usable : Bool) : settleSource w usable =
    (if 1 ≤ w.ownCount ∨ w.quiet ≤ 3 then .own else if usable then .mast else .missing,
      if 1 ≤ w.ownCount then 0 else if w.quiet ≤ 3 then w.quiet + 1 else 5) := by
  unfold settleSource
  by_cases sampled : 1 ≤ w.ownCount
  · simp [sampled]
  · by_cases recent : w.quiet ≤ 3 <;> cases usable <;> simp [sampled, recent]

section
variable (w : WindRec) (backup : Option MastCopy)

@[simp] theorem WindRec.heard_level : (w.heard backup).level = w.level := by
  unfold WindRec.heard
  cases w.heardValue backup <;> rfl

@[simp] theorem WindRec.heard_eligible : (w.heard backup).eligible = w.eligible := by
  unfold WindRec.heard
  cases w.heardValue backup <;> rfl

@[simp] theorem WindRec.heard_unsettled : (w.heard backup).unsettled = w.unsettled := by
  unfold WindRec.heard
  cases w.heardValue backup <;> rfl

theorem WindRec.heard_source : (w.heard backup).source =
    if 1 ≤ w.ownCount ∨ w.quiet ≤ 3 then .own else if backup.isSome then .mast else .missing :=
  congrArg Prod.fst (settleSource_eq w backup.isSome)

theorem WindRec.heard_quiet : (w.heard backup).quiet =
    if 1 ≤ w.ownCount then 0 else if w.quiet ≤ 3 then w.quiet + 1 else 5 :=
  congrArg Prod.snd (settleSource_eq w backup.isSome)

theorem WindRec.heard_values : (w.heard backup).values = match w.heardValue backup with
    | none => w.values
    | some v => (v :: w.values).take 3 := by
  unfold WindRec.heard
  cases w.heardValue backup <;> rfl

theorem WindRec.heard_acc : (w.heard backup).acc = match w.heardValue backup, w.acc with
    | none, a => a
    | some v, none => some (256 * v)
    | some v, some a => some (a + v - a / 256) := by
  unfold WindRec.heard
  cases w.heardValue backup with
  | none => rfl
  | some v => cases held : w.acc <;> simp [WindRec.push, held]

/-- R93: the mean of the own samples, the mast's fresh sample, or the value before. -/
theorem WindRec.heardValue_eq : w.heardValue backup =
    if 1 ≤ w.ownCount then some (w.ownSum / w.ownCount)
    else if (w.heard backup).source = .mast then
      match (backup.filter (fun m => m.fresh)).bind (fun m => m.sample) with
      | some v => some v
      | none => w.values.head?
    else w.values.head? := by
  change secondValue w (w.heard backup).source backup = _
  by_cases sampled : 1 ≤ w.ownCount
  · rw [WindRec.heard_source, if_pos (.inl sampled), if_pos sampled]
    simp [secondValue, sampled]
  · rw [if_neg sampled]
    cases (w.heard backup).source with
    | own => simp [secondValue, sampled]
    | missing => simp [secondValue]
    | mast =>
      cases backup with
      | none => simp [secondValue]
      | some m => cases fresh : m.fresh <;> cases sample : m.sample <;> simp [secondValue, fresh, sample, Option.filter]

end

/-! ## The figures and the target (step 4) -/

/-- The rounded-up mean of the second values (R94), where there are some. -/
def WindRec.gustOf (w : WindRec) : Nat := (w.values.sum + w.values.length - 1) / w.values.length

/-- The mean that the accumulator holds (R95), where there is one. -/
def WindRec.meanOf (w : WindRec) : Nat := w.acc.getD 0 / 256

/-- There is a gust and a mean. -/
abbrev WindRec.known (w : WindRec) : Prop := w.values ≠ [] ∧ w.acc ≠ none

section
variable {w : WindRec}

theorem WindRec.figures_of_known (h : w.known) : w.gust = some w.gustOf ∧ w.mean = some w.meanOf := by
  obtain ⟨held, acc⟩ := h
  obtain ⟨a, ha⟩ := Option.ne_none_iff_exists'.mp acc
  simp [WindRec.gust, WindRec.gustOf, WindRec.mean, WindRec.meanOf, ceilDiv, held, ha]

theorem WindRec.figures_of_not_known (h : ¬ w.known) : w.gust = none ∨ w.mean = none := by
  by_cases held : w.values = []
  · exact .inl (by simp [WindRec.gust, held])
  · have acc : w.acc = none := by simpa [WindRec.known, held] using h
    exact .inr (by simp [WindRec.mean, acc])

/-- R96. -/
theorem WindRec.target_eq (w : WindRec) (c : CraneRec) : w.target c =
    if w.known ∧ (c.stormGust ≤ w.gustOf ∨ c.stormMean ≤ w.meanOf) then .storm
    else if (w.known ∧ (c.stopGust ≤ w.gustOf ∨ c.stopMean ≤ w.meanOf)) ∨ w.source = .missing then .stop
    else if w.known ∧ c.cautionGust ≤ w.gustOf then .caution
    else .calm := by
  unfold WindRec.target
  by_cases h : w.known
  · obtain ⟨gust, mean⟩ := WindRec.figures_of_known h
    simp only [gust, mean, and_iff_right h, Bool.or_eq_true, decide_eq_true_eq]
    by_cases stop : c.stopGust ≤ w.gustOf ∨ c.stopMean ≤ w.meanOf <;> simp [stop]
  · simp only [h, false_and, false_or, if_false]
    rcases WindRec.figures_of_not_known h with unknown | unknown <;> rw [unknown]
    cases w.gust <;> rfl

/-- R98: the figures lie below the limits of the level by the hysteresis, and a level of STOP has a source. -/
def WindRec.eases (w : WindRec) (c : CraneRec) (h : Nat) : Prop :=
  w.known ∧ match w.level with
    | .storm => w.gustOf + h < c.stormGust ∧ w.meanOf + h < c.stormMean
    | .stop => w.gustOf + h < c.stopGust ∧ w.meanOf + h < c.stopMean ∧ w.source ≠ .missing
    | .caution => w.gustOf + h < c.cautionGust
    | .calm => False

theorem WindRec.downEligible_iff (c : CraneRec) (h : Nat) : w.downEligible c h = true ↔ w.eases c h := by
  unfold WindRec.downEligible WindRec.eases
  by_cases known : w.known
  · obtain ⟨gust, mean⟩ := WindRec.figures_of_known known
    cases level : w.level <;> simp [gust, mean, known, and_assoc]
  · simp only [known, false_and, iff_false]
    rcases WindRec.figures_of_not_known known with unknown | unknown <;> simp [unknown]

theorem WindLevel.rank_eq_code (l : WindLevel) : l.rank = l.code := by cases l <;> rfl

end

/-! ## The level moves (step 5) -/

section
variable {w : WindRec} {target : WindLevel}

theorem WindRec.settleUnsettled_of_few (h : w.values.length < 3) : w.settleUnsettled target =
    { w with level := if target = .storm then .storm else w.level, eligible := 0 } := if_pos h

theorem WindRec.settleUnsettled_of_three (h : 3 ≤ w.values.length) : w.settleUnsettled target =
    { w with level := target, unsettled := false, eligible := 0 } := if_neg (Nat.not_lt.mpr h)

variable {c : CraneRec} {p : SiteParams}

/-- R97. -/
theorem WindRec.moveSettled_of_rise (h : w.level.code < target.code) : w.moveSettled c p target =
    { w with level := target, eligible := 0 } := by
  refine if_pos ?_
  rwa [WindLevel.rank_eq_code, WindLevel.rank_eq_code]

theorem WindRec.moveSettled_of_not_rise (h : target.code ≤ w.level.code) : w.moveSettled c p target =
    if w.downEligible c p.hysteresis then
      if p.holdTime w.level ≤ w.eligible + 1 then { w with level := w.level.lowered, eligible := 0 }
      else { w with eligible := w.eligible + 1 }
    else { w with eligible := 0 } := by
  refine if_neg ?_
  rw [WindLevel.rank_eq_code, WindLevel.rank_eq_code]
  exact Nat.not_lt.mpr h

theorem WindRec.moveSettled_of_stays (h : target.code ≤ w.level.code) (stays : ¬ w.eases c p.hysteresis) :
    w.moveSettled c p target = { w with eligible := 0 } :=
  (WindRec.moveSettled_of_not_rise h).trans (if_neg (mt (WindRec.downEligible_iff ..).mp stays))

theorem WindRec.moveSettled_of_holds (h : target.code ≤ w.level.code) (eases : w.eases c p.hysteresis)
    (holds : w.eligible + 1 < p.holdTime w.level) : w.moveSettled c p target = { w with eligible := w.eligible + 1 } :=
  (WindRec.moveSettled_of_not_rise h).trans
    ((if_pos ((WindRec.downEligible_iff ..).mpr eases)).trans (if_neg (Nat.not_le.mpr holds)))

/-- R98. -/
theorem WindRec.moveSettled_of_eases (h : target.code ≤ w.level.code) (eases : w.eases c p.hysteresis)
    (ended : p.holdTime w.level ≤ w.eligible + 1) :
    w.moveSettled c p target = { w with level := w.level.lowered, eligible := 0 } :=
  (WindRec.moveSettled_of_not_rise h).trans ((if_pos ((WindRec.downEligible_iff ..).mpr eases)).trans (if_pos ended))

/-- Of a settled record only level and eligible seconds move. -/
theorem WindRec.moveSettled_figures : ∃ level eligible,
    w.moveSettled c p target = { w with level := level, eligible := eligible } := by
  unfold WindRec.moveSettled
  split_ifs <;> exact ⟨_, _, rfl⟩

/-- Of an unsettled record these move, and it may settle. -/
theorem WindRec.settleUnsettled_figures : ∃ level eligible unsettled,
    w.settleUnsettled target = { w with level := level, eligible := eligible, unsettled := unsettled } := by
  unfold WindRec.settleUnsettled
  split_ifs <;> exact ⟨_, _, _, rfl⟩

end

/-! ## The close as a whole -/

section
variable (w : WindRec) (c : CraneRec) (p : SiteParams) (backup : Option MastCopy)

/-- The close leaves the sources and figures of the record before its level moves. -/
theorem WindRec.close_figures : ∃ level eligible unsettled, w.close c p backup =
    { w.heard backup with
      ownSum := 0, ownCount := 0, level := level, eligible := eligible, unsettled := unsettled } := by
  rw [WindRec.close_eq]
  split
  · obtain ⟨level, eligible, unsettled, moved⟩ :=
      WindRec.settleUnsettled_figures (w := w.heard backup) (target := (w.heard backup).target c)
    exact ⟨level, eligible, unsettled, by rw [moved]⟩
  · obtain ⟨level, eligible, moved⟩ :=
      WindRec.moveSettled_figures (w := w.heard backup) (target := (w.heard backup).target c) (c := c) (p := p)
    exact ⟨level, eligible, (w.heard backup).unsettled, by rw [moved]⟩

variable {w c p backup}

theorem WindRec.close_of_unsettled (h : w.unsettled = true) : w.close c p backup =
    { (w.heard backup).settleUnsettled ((w.heard backup).target c) with ownSum := 0, ownCount := 0 } := by
  rw [WindRec.close_eq, if_pos ((w.heard_unsettled backup).trans h)]

theorem WindRec.close_of_settled (h : w.unsettled = false) : w.close c p backup =
    { (w.heard backup).moveSettled c p ((w.heard backup).target c) with ownSum := 0, ownCount := 0 } := by
  rw [WindRec.close_eq, if_neg (by simp [h])]

/-- R97: a settled record rises to its target at once. -/
theorem WindRec.close_of_rise (h : w.unsettled = false) (rise : w.level.code < ((w.heard backup).target c).code) :
    w.close c p backup = { w.heard backup with
      ownSum := 0, ownCount := 0, level := (w.heard backup).target c, eligible := 0 } := by
  rw [WindRec.close_of_settled h, WindRec.moveSettled_of_rise (by rwa [WindRec.heard_level])]

end

/-- Settles O58: the figures after the close are those that formed the target. -/
theorem theWindLevelRisesAtOnce : Obligations.TheWindLevelRisesAtOnce := by
  intro w c p backup settled q gust mean known target rise
  obtain ⟨_, _, _, figures⟩ := w.close_figures c p backup
  have same : target = (w.heard backup).target c := by
    rw [WindRec.target_eq]
    simp only [target, known, gust, mean, q, figures]
    rfl
  rw [same] at rise ⊢
  have risen : q = _ := WindRec.close_of_rise settled rise
  rw [risen]
  exact ⟨rfl, rfl, (w.heard_unsettled backup).trans settled⟩


end Sys2Proof.Machine
end

section
/-! SUPPORT. One expiry of the Wind Evaluator's timer over every crane (R88, R91, R102, R103). -/

namespace Sys2Proof.Machine

/-! ## Lists -/

theorem inOrder_perm {α : Type} [DecidableEq α] (order : List α) : ∀ all : List α, (inOrder order all).Perm all := by
  induction order with
  | nil => exact fun all => .refl all
  | cons a order ih =>
    intro all
    unfold inOrder
    split
    · rename_i ha
      exact ((ih (all.erase a)).cons a).trans (List.perm_cons_erase ha).symm
    · exact ih all

/-- What one member of a list brings is all there is, where the others bring nothing. -/
theorem flatMap_of_single {α β : Type} {f : α → List β} {a : α} {l : List α} (nodup : l.Nodup) (ha : a ∈ l)
    (others : ∀ b ∈ l, b ≠ a → f b = []) : l.flatMap f = f a := by
  obtain ⟨before, after, rfl⟩ := List.append_of_mem ha
  have apart : ∀ b, b ∈ before ∨ b ∈ after → f b = [] := fun b hb => by
    refine others b (by simpa using hb.elim .inl fun h => .inr (.inr h)) ?_
    rintro rfl
    obtain ⟨fresh, -⟩ := List.nodup_cons.mp (List.nodup_middle.mp nodup)
    exact fresh (List.mem_append.mpr hb)
  rw [List.flatMap_append, List.flatMap_cons, List.flatMap_eq_nil_iff.mpr fun b hb => apart b (.inl hb),
    List.flatMap_eq_nil_iff.mpr fun b hb => apart b (.inr hb), List.nil_append, List.append_nil]

/-! ## The close of one crane's slot -/

/-- The copy of the crane's backup mast, if that mast is usable (R90, R92). -/
def State.backupCopy (s : State) (c : CraneRec) : Option MastCopy := (s.usableBackup c).map (fun m => s.windMasts[m])

theorem State.backupCopy_eq (s : State) (c : CraneRec) : s.backupCopy c = match c.backup with
    | none => none
    | some m => if s.mastDefined m = true ∧ s.windMasts[m].state ≠ .missing then some s.windMasts[m] else none := by
  unfold State.backupCopy State.usableBackup State.mastUsable
  cases c.backup with
  | none => rfl
  | some m => by_cases usable : s.mastDefined m = true ∧ s.windMasts[m].state ≠ .missing <;> simp_all

/-- What an expiry of the timer leaves in the wind record of *k* (R88). -/
def State.closedWind (s : State) (k : Crane) : WindRec :=
  match s.crane k with
  | none => s.wind[k]
  | some c => if c.absent then s.wind[k] else s.wind[k].close c s.params (s.backupCopy c)

/-- The events of a close of *k* that takes its record from `w` to `w'` (R103). -/
def State.slotEvents (s : State) (k : Crane) (w w' : WindRec) : List Event :=
  (if w'.source = w.source then [] else [s.record .windSource (number k) 0 0 w'.source.code w.source.code]) ++
    (if w'.level = w.level then [] else [s.record .windLevel (number k) 0 0 w'.level.code w.level.code])

/-- The notice of such a close (R102). -/
def slotNotices (k : Crane) (w w' : WindRec) : List Notice := if w'.level = w.level then [] else [.level k w'.level]

section
variable {s t : State} {k : Crane} {w w' : WindRec}

theorem State.closedWind_of_worked {c : CraneRec} (hc : s.crane k = some c) (present : c.absent = false) :
    s.closedWind k = s.wind[k].close c s.params (s.backupCopy c) := by
  simp [State.closedWind, hc, present]

theorem State.closedWind_of_not_worked (h : s.worked k = false) : s.closedWind k = s.wind[k] := by
  unfold State.worked at h
  unfold State.closedWind
  cases hc : s.crane k with
  | none => rfl
  | some c => simp_all

theorem State.slotEvents_self : s.slotEvents k w w = [] := by simp [State.slotEvents]

theorem slotNotices_self : slotNotices k w w = [] := if_pos rfl

theorem State.crane_of_mem_slotEvents {e : Event} (he : e ∈ s.slotEvents k w w') : e.crane = number k := by
  unfold State.slotEvents at he
  split_ifs at he <;> simp at he
  · rw [he]; rfl
  · rw [he]; rfl
  · rcases he with he | he <;> rw [he] <;> rfl

theorem mem_slotNotices {n : Notice} : n ∈ slotNotices k w w' ↔ w'.level ≠ w.level ∧ n = .level k w'.level := by
  unfold slotNotices
  split_ifs with same <;> simp [same]

theorem State.windEvents_brings (s : State) (k : Crane) (w w' : WindRec) :
    s.logged (s.windEvents k w w') (s.slotEvents k w w') ∧
      (s.windEvents k w w').notices = s.notices ++ slotNotices k w w' := by
  have sourced : ∃ u, u = (if w.source != w'.source then
        s.emitCrane .windSource k w'.source.code w.source.code else s) ∧ u.notices = s.notices ∧ u.clock = s.clock ∧
      s.logged u (if w'.source = w.source then []
        else [s.record .windSource (number k) 0 0 w'.source.code w.source.code]) := by
    refine ⟨_, rfl, ?_⟩
    by_cases same : w'.source = w.source
    · simp [same, State.logged_refl]
    · rw [if_pos (by simpa using Ne.symm same), if_neg same]
      exact ⟨State.emitCrane_notices .., State.emitCrane_clock .., State.logged_emitCrane _ _ _ _ _⟩
  obtain ⟨u, hu, notices, clock, logged⟩ := sourced
  unfold State.windEvents State.slotEvents slotNotices
  dsimp only
  rw [← hu]
  by_cases same : w'.level = w.level
  · simpa [same, notices] using logged
  · have levelled := State.logged_emitCrane u .windLevel k w'.level.code w.level.code
    rw [State.record, clock] at levelled
    simp only [same, Ne.symm same, bne_iff_ne, ne_eq, not_false_eq_true, if_true, if_false, State.notices_post,
      State.emitCrane_notices, notices, and_true]
    exact State.logged_trans logged levelled

theorem State.windEvents_tells (s : State) (k : Crane) (w w' : WindRec) :
    Within [.notices, .events, .overflow] s (s.windEvents k w w') := by
  have sourced : Within [.notices, .events, .overflow] s (if w.source != w'.source then
      s.emitCrane .windSource k w'.source.code w.source.code else s) :=
    .ite ((State.emitCrane_within ..).mono (by decide)) (.refl ..)
  exact .ite ((sourced.trans ((State.emitCrane_within ..).mono (by decide))).trans
    ((State.post_within ..).mono (by decide))) sourced

theorem State.closeSlot_of_worked {c : CraneRec} (hc : s.crane k = some c) (present : c.absent = false) :
    s.closeSlot k = (s.setWind k (s.closedWind k)).windEvents k s.wind[k] (s.closedWind k) := by
  simp only [State.closeSlot, hc, present, State.closedWind, Bool.false_eq_true, if_false]
  rfl

theorem State.closeSlot_of_not_worked (h : s.worked k = false) : s.closeSlot k = s := by
  unfold State.worked at h
  unfold State.closeSlot
  cases hc : s.crane k with
  | none => rfl
  | some c => simp_all

end

/-! ## Slot after slot -/

/-- What a slot close touches before the mast copies, the time included. -/
def closingParts : List Part := [.msCount, .windDue, .wind, .notices, .events, .overflow]

/-- What the slots closed so far have left of `s`: their records closed, the others as they were, and the events and notices
of each in their order. -/
structure State.Closed (s : State) (done : List Crane) (t : State) : Prop where
  within : Within closingParts s t
  wind : ∀ k : Crane, t.wind[k] = if k ∈ done then s.closedWind k else s.wind[k]
  logged : s.logged t (done.flatMap fun k => s.slotEvents k s.wind[k] (s.closedWind k))
  notices : t.notices = s.notices ++ done.flatMap fun k => slotNotices k s.wind[k] (s.closedWind k)

section
variable {s t : State} {done : List Crane}

/-- Before the first slot only the time has moved. -/
theorem State.Closed.start (h : Within [.msCount, .windDue] s t) : s.Closed [] t := by
  have wind : t.wind = s.wind := h.same .wind (by decide)
  refine ⟨h.mono (by decide), fun k => ?_, ?_, ?_⟩
  · rw [if_neg List.not_mem_nil]
    simp only [wind]
  · exact State.logged_of_same (h.same .events (by decide)) (h.same .overflow (by decide))
  · exact (h.same .notices (by decide)).trans (List.append_nil _).symm

/-- Closing other slots moves nothing that the close of *k* reads. -/
theorem State.Closed.closedWind (h : s.Closed done t) {k : Crane} (fresh : k ∉ done) :
    t.closedWind k = s.closedWind k := by
  have cranes : t.cranes = s.cranes := h.within.same .cranes (by decide)
  have params : t.params = s.params := h.within.same .params (by decide)
  have masts : t.windMasts = s.windMasts := h.within.same .windMasts (by decide)
  have line : t.mastLine = s.mastLine := h.within.same .mastLine (by decide)
  have record : t.wind[k] = s.wind[k] := (h.wind k).trans (if_neg fresh)
  simp only [State.closedWind, State.crane, State.backupCopy, State.usableBackup, State.mastUsable, State.mastDefined,
    cranes, params, masts, line, record]
  rfl

theorem State.Closed.next (h : s.Closed done t) {k : Crane} (fresh : k ∉ done) : s.Closed (done ++ [k]) (t.closeSlot k) := by
  have record : t.wind[k] = s.wind[k] := (h.wind k).trans (if_neg fresh)
  have clock : t.clock = s.clock := h.within.same .clock (by decide)
  have closed := h.closedWind fresh
  have single : ∀ {β : Type} (f : Crane → List β), (done ++ [k]).flatMap f = done.flatMap f ++ f k := by simp
  cases hw : t.worked k with
  | false =>
    have idle : s.closedWind k = s.wind[k] := by rw [← closed, State.closedWind_of_not_worked hw, record]
    rw [State.closeSlot_of_not_worked hw]
    refine ⟨h.within, fun j => (h.wind j).trans ?_, ?_, ?_⟩
    · by_cases hj : j = k
      · subst hj
        simp [fresh, idle]
      · simp [hj]
    · rw [single, idle, State.slotEvents_self, List.append_nil]
      exact h.logged
    · rw [single, idle, slotNotices_self, List.append_nil]
      exact h.notices
  | true =>
    obtain ⟨c, hc, present⟩ := State.worked_iff.mp hw
    rw [State.closeSlot_of_worked hc present, closed, record]
    obtain ⟨logged, notices⟩ := (t.setWind k (s.closedWind k)).windEvents_brings k s.wind[k] (s.closedWind k)
    have told := (t.setWind k (s.closedWind k)).windEvents_tells k s.wind[k] (s.closedWind k)
    have set := (t.setWind_within k (s.closedWind k)).mono (qs := closingParts) (by decide)
    refine ⟨h.within.trans (set.trans (told.mono (by decide))), fun j => ?_, ?_, ?_⟩
    · have kept : ((t.setWind k (s.closedWind k)).windEvents k s.wind[k] (s.closedWind k)).wind =
          (t.setWind k (s.closedWind k)).wind := told.same .wind (by decide)
      simp only [kept, State.wind_setWind, h.wind, List.mem_append, List.mem_singleton]
      by_cases hj : j = k <;> simp [hj]
    · rw [single]
      refine State.logged_trans h.logged (State.logged_from (u := t.setWind k (s.closedWind k)) rfl rfl ?_)
      simpa only [State.slotEvents, State.record, State.setWind_clock, clock] using logged
    · rw [single, notices, State.setWind_notices, h.notices, List.append_assoc]

theorem State.Closed.foldl (l : List Crane) : ∀ {done : List Crane} {t : State}, s.Closed done t → (done ++ l).Nodup →
    s.Closed (done ++ l) (l.foldl State.closeSlot t) := by
  induction l with
  | nil => exact fun h _ => by rwa [List.append_nil]
  | cons k l ih =>
    intro done t h nodup
    have fresh : k ∉ done := fun hk => (List.nodup_append.mp nodup).2.2 k hk k List.mem_cons_self rfl
    rw [List.append_cons] at nodup ⊢
    exact ih (h.next fresh) nodup

end

theorem allCranes_nodup : allCranes.Nodup := by decide

/-! ## The mast copies -/

theorem State.withWindDue_within (s : State) (due : Moment) : Within [.windDue] s { s with windDue := due } := by
  constructor; intro p hp; cases p <;> first | rfl | simp at hp

theorem State.staleMasts_masts (s : State) : Within [.windMasts] s s.staleMasts :=
  Within.foldl (fun s m => State.setMastCopy_within s m _) _ s

theorem State.windMasts_staleMasts (s : State) (m : Mast) :
    s.staleMasts.windMasts[m] = { s.windMasts[m] with fresh := false } := by
  have fold : ∀ (l : List Mast) (s : State),
      (l.foldl (fun s m => s.setMastCopy m { s.windMasts[m] with fresh := false }) s).windMasts[m] =
        if m ∈ l then { s.windMasts[m] with fresh := false } else s.windMasts[m] := by
    intro l
    induction l with
    | nil => intro s; rfl
    | cons n l ih =>
      intro s
      rw [List.foldl_cons, ih, State.windMasts_setMastCopy]
      by_cases hn : m = n
      · subst hn
        simp
      · simp [hn]
  exact (fold allMasts s).trans (if_pos (mem_allMasts m))

/-! ## The expiry -/

/-- Every slot is closed, whatever order is taken, and then the mast copies are made stale. -/
theorem State.slotsClose_closed (s : State) (order : List Crane) : ∃ done u, done.Nodup ∧ (∀ k, k ∈ done) ∧
    s.Closed done u ∧ u.windDue = s.windDue + 1000 ∧ s.slotsClose order = u.staleMasts := by
  have perm := inOrder_perm order allCranes
  have nodup := perm.nodup_iff.mpr allCranes_nodup
  have fired : Within [.msCount, .windDue] s
      { s.reach s.windDue with windDue := s.windDue + BitVec.ofNat 32 Config.second } :=
    ((s.reach_within s.windDue).mono (by decide)).trans ((State.withWindDue_within ..).mono (by decide))
  have closed := (State.Closed.start fired).foldl (inOrder order allCranes) nodup
  refine ⟨_, _, nodup, fun k => perm.mem_iff.mpr (mem_allCranes k), closed, ?_, rfl⟩
  exact (Within.foldl State.closeSlot_within _ _).same .windDue (by decide)

section
variable {s u : State} {done : List Crane}

/-- The notices that the closes hand on name changed levels, and every changed level is handed on. -/
theorem State.Closed.level_mem_iff (h : s.Closed done u) {k : Crane} {level : WindLevel} :
    Notice.level k level ∈ u.notices ↔ Notice.level k level ∈ s.notices ∨
      (k ∈ done ∧ (s.closedWind k).level ≠ s.wind[k].level ∧ level = (s.closedWind k).level) := by
  rw [h.notices, List.mem_append, List.mem_flatMap]
  refine or_congr_right ⟨?_, ?_⟩
  · rintro ⟨j, hj, told⟩
    obtain ⟨changed, named⟩ := mem_slotNotices.mp told
    obtain ⟨rfl, rfl⟩ := Notice.level.inj named
    exact ⟨hj, changed, rfl⟩
  · rintro ⟨hk, changed, rfl⟩
    exact ⟨k, hk, mem_slotNotices.mpr ⟨changed, rfl⟩⟩

/-- The events that name a worked crane are those of its own close. -/
theorem State.filter_slotEvents (nodup : done.Nodup) {k : Crane} (hk : k ∈ done) :
    (done.flatMap fun k => s.slotEvents k s.wind[k] (s.closedWind k)).filter (fun e => e.crane == number k) =
      s.slotEvents k s.wind[k] (s.closedWind k) := by
  have own : ∀ (j : Crane) (w w' : WindRec), (s.slotEvents j w w').filter (fun e => e.crane == number k) =
      if j = k then s.slotEvents j w w' else [] := fun j w w' => by
    refine filter_of_agreed fun e he => ?_
    rw [State.crane_of_mem_slotEvents he, beq_iff_eq, number, number, Fin.ext_iff]
    omega
  rw [List.filter_flatMap, flatMap_of_single nodup hk fun j _ hj => (own ..).trans (if_neg hj)]
  exact (own ..).trans (if_pos rfl)

/-- A crane that the evaluator does not work for brings no event. -/
theorem State.worked_of_mem_slotEvents {e : Event}
    (he : e ∈ done.flatMap fun k => s.slotEvents k s.wind[k] (s.closedWind k)) :
    ∃ k, s.worked k = true ∧ e.crane = number k := by
  obtain ⟨k, -, hk⟩ := List.mem_flatMap.mp he
  refine ⟨k, Bool.not_eq_false _ ▸ fun idle => ?_, State.crane_of_mem_slotEvents hk⟩
  rw [State.closedWind_of_not_worked idle, State.slotEvents_self] at hk
  exact List.not_mem_nil hk

end

/-! ## The obligation -/

/-- R97, R98, R100: where a close takes level, eligible seconds and UNSETTLED. -/
theorem WindRec.close_moves (w : WindRec) (c : CraneRec) (p : SiteParams) (backup : Option MastCopy) :
    let q := w.heard backup
    let closed := fun (level : WindLevel) (eligible : Nat) (unsettled : Bool) => w.close c p backup =
      { q with ownSum := 0, ownCount := 0, level := level, eligible := eligible, unsettled := unsettled }
    (w.unsettled = true → q.values.length < 3 → closed (if q.target c = .storm then .storm else w.level) 0 true) ∧
      (w.unsettled = true → 3 ≤ q.values.length → closed (q.target c) 0 false) ∧
      (w.unsettled = false → w.level.code < (q.target c).code → closed (q.target c) 0 false) ∧
      (w.unsettled = false → (q.target c).code ≤ w.level.code →
        (¬ q.eases c p.hysteresis → closed w.level 0 false) ∧
        (q.eases c p.hysteresis → w.eligible + 1 < p.holdTime w.level → closed w.level (w.eligible + 1) false) ∧
        (q.eases c p.hysteresis → p.holdTime w.level ≤ w.eligible + 1 → closed w.level.lowered 0 false)) := by
  intro q closed
  have level : q.level = w.level := w.heard_level backup
  have eligible : q.eligible = w.eligible := w.heard_eligible backup
  have unsettled : q.unsettled = w.unsettled := w.heard_unsettled backup
  refine ⟨fun loose few => ?_, fun loose three => ?_, fun settled rise => ?_,
    fun settled low => ⟨fun stays => ?_, fun eases holds => ?_, fun eases ended => ?_⟩⟩ <;> dsimp only [closed]
  · rw [WindRec.close_of_unsettled loose, WindRec.settleUnsettled_of_few few, level, unsettled, loose]
  · rw [WindRec.close_of_unsettled loose, WindRec.settleUnsettled_of_three three]
  all_goals rw [← level] at *
  · rw [WindRec.close_of_settled settled, WindRec.moveSettled_of_rise rise, unsettled, settled]
  · rw [WindRec.close_of_settled settled, WindRec.moveSettled_of_stays low stays, unsettled, settled]
  · rw [← eligible] at *
    rw [WindRec.close_of_settled settled, WindRec.moveSettled_of_holds low eases holds, unsettled, settled]
  · rw [← eligible] at *
    rw [WindRec.close_of_settled settled, WindRec.moveSettled_of_eases low eases ended, unsettled, settled]

theorem SiteParams.holdTime_eq (p : SiteParams) (level : WindLevel) : p.holdTime level = match level with
    | .storm => p.holdStorm
    | .stop => p.holdStop
    | .caution => p.holdCaution
    | .calm => 0 := by cases level <;> rfl

theorem WindLevel.lowered_eq (level : WindLevel) : level.lowered = match level with
    | .storm => .stop
    | .stop => .caution
    | .caution | .calm => .calm := by cases level <;> rfl

/-- Settles O54: each record is closed once, and the events and notices are those of the closes. -/
theorem everySlotClosesOnce : Obligations.EverySlotClosesOnce := by
  intro s order
  obtain ⟨done, u, nodup, all, slots, due, run⟩ := s.slotsClose_closed order
  have stale := u.staleMasts_masts
  have wind : ∀ k : Crane, u.staleMasts.wind[k] = s.closedWind k := fun k => by
    have kept : u.staleMasts.wind = u.wind := stale.same .wind (by decide)
    simp only [kept, slots.wind, all, if_true]
  have notices : u.staleMasts.notices = u.notices := stale.same .notices (by decide)
  have logged := State.logged_trans slots.logged
    (State.logged_of_same (stale.same .events (by decide)) (stale.same .overflow (by decide)))
  rw [List.append_nil] at logged
  refine ⟨u.staleMasts, congrArg _ run, run ▸ s.slotsClose_within order, (stale.same .windDue (by decide)).trans due,
    ?_, fun k idle => ?_, fun k level => ?_,
    ⟨_, logged, fun e he => State.worked_of_mem_slotEvents he, fun k _ => ?_⟩, fun m => ?_⟩
  · intro k c hc present w p backup source quiet value values acc gust mean known target h eases hold lower closed
    have hbackup : s.backupCopy c = backup := s.backupCopy_eq c
    have record : u.staleMasts.wind[k] = w.close c p backup := by
      rw [wind, State.closedWind_of_worked hc present, hbackup]
    have hsource : (w.heard backup).source = source := w.heard_source backup
    have hquiet : (w.heard backup).quiet = quiet := w.heard_quiet backup
    have hvalue : w.heardValue backup = value := by
      have stated := w.heardValue_eq backup
      rwa [hsource] at stated
    have hvalues : (w.heard backup).values = values := by
      have stated := w.heard_values backup
      rwa [hvalue] at stated
    have hacc : (w.heard backup).acc = acc := by
      have stated := w.heard_acc backup
      rwa [hvalue] at stated
    have htarget : (w.heard backup).target c = target := by
      rw [WindRec.target_eq]
      simp only [WindRec.known, WindRec.gustOf, WindRec.meanOf, hsource, hvalues, hacc]
      rfl
    have heases : (w.heard backup).eases c p.hysteresis = eases := by
      rw [WindRec.eases, WindRec.heard_level]
      simp only [WindRec.known, WindRec.gustOf, WindRec.meanOf, hsource, hvalues, hacc]
      rfl
    have hhold : p.holdTime w.level = hold := p.holdTime_eq w.level
    have hlower : w.level.lowered = lower := w.level.lowered_eq
    have moves := w.close_moves c p backup
    simp only [hsource, hquiet, hvalues, hacc, htarget, heases, hhold, hlower, ← record] at moves
    obtain ⟨few, three, rise, low⟩ := moves
    refine ⟨few, three, rise, low, fun changed => ?_⟩
    rw [notices, wind] at *
    exact slots.level_mem_iff.mpr (.inr ⟨all k, changed, rfl⟩)
  · rw [wind, State.closedWind_of_not_worked idle]
  · rw [notices, slots.level_mem_iff, wind]
    rintro (before | ⟨-, changed, rfl⟩)
    · exact .inl before
    · exact .inr ⟨rfl, changed⟩
  · rw [State.filter_slotEvents nodup (all k), wind]
    rfl
  · have kept : u.windMasts = s.windMasts := slots.within.same .windMasts (by decide)
    simp only [State.windMasts_staleMasts, kept]

end Sys2Proof.Machine
end

section
/-! SUPPORT. The bounds of a wind record, and its level, through its close and its samples (R87 to R100). -/

namespace Sys2Proof.Machine

/-! ## The bounds of the figures -/

/-- No second value of a close is above 600 (R93). -/
theorem WindRec.heardValue_le {w : WindRec} {backup : Option MastCopy} (hw : w.ok)
    (sample : ∀ m ∈ backup, ∀ v, m.sample = some v → v ≤ 600) {v : Nat} (hv : w.heardValue backup = some v) : v ≤ 600 := by
  obtain ⟨-, -, values, -, -, sum, -⟩ := hw
  have before : ∀ u, w.values.head? = some u → u ≤ 600 := fun u hu => values u (List.mem_of_head? hu)
  rw [WindRec.heardValue_eq] at hv
  split_ifs at hv
  · obtain rfl := Option.some.inj hv
    exact Nat.div_le_of_le_mul (by rwa [Nat.mul_comm])
  · split at hv
    · rename_i u hu
      obtain ⟨m, hm, hs⟩ := Option.bind_eq_some_iff.mp hu
      obtain rfl := Option.some.inj hv
      exact sample m ((Option.mem_filter_iff.mp hm).1) _ hs
    · exact before v hv
  · exact before v hv

/-- The accumulator with a value of at most 600 stays at or below 256 · 601 - 1 (R95). -/
theorem acc_le {a v : Nat} (ha : a ≤ 153855) (hv : v ≤ 600) : a + v - a / 256 ≤ 153855 := by omega

theorem WindRec.heard_quiet_le (w : WindRec) (backup : Option MastCopy) : (w.heard backup).quiet ≤ 5 := by
  rw [WindRec.heard_quiet]
  split_ifs <;> omega

section
variable {w : WindRec} {backup : Option MastCopy} (hw : w.ok) (sample : ∀ m ∈ backup, ∀ v, m.sample = some v → v ≤ 600)
include hw

theorem WindRec.heard_values_length : (w.heard backup).values.length ≤ 3 := by
  obtain ⟨-, length, -⟩ := hw
  rw [WindRec.heard_values]
  split
  · exact length
  · exact List.length_take_le ..

theorem WindRec.heard_acc_iff : (w.heard backup).acc = none ↔ (w.heard backup).values = [] := by
  obtain ⟨-, -, -, held, -⟩ := hw
  rw [WindRec.heard_acc, WindRec.heard_values]
  cases w.heardValue backup with
  | none => exact held
  | some v => cases w.acc <;> simp

include sample

theorem WindRec.heard_values_le : ∀ v ∈ (w.heard backup).values, v ≤ 600 := by
  obtain ⟨-, -, values, -⟩ := id hw
  rw [WindRec.heard_values]
  split
  · exact values
  · rename_i v hv
    refine fun u hu => (List.mem_cons.mp (List.mem_of_mem_take hu)).elim ?_ (values u)
    rintro rfl
    exact WindRec.heardValue_le hw sample hv

theorem WindRec.heard_acc_le {a : Nat} (ha : (w.heard backup).acc = some a) : a ≤ 153855 := by
  obtain ⟨-, -, -, -, bound, -⟩ := id hw
  rw [WindRec.heard_acc] at ha
  cases value : w.heardValue backup with
  | none => exact bound a (by simpa [value] using ha)
  | some v =>
    have low := WindRec.heardValue_le hw sample value
    cases held : w.acc with
    | none =>
      rw [value, held] at ha
      obtain rfl := Option.some.inj ha
      omega
    | some b =>
      rw [value, held] at ha
      obtain rfl := Option.some.inj ha
      exact acc_le (bound b held) low

end

/-! ## The level (R96 to R100) -/

/-- A record without a source has a target of STOP or STORM (R96). -/
theorem WindRec.target_of_missing {w : WindRec} {c : CraneRec} (h : w.source = .missing) :
    w.target c = .stop ∨ w.target c = .storm := by
  rw [WindRec.target_eq]
  simp only [h, or_true, if_true]
  split_ifs <;> simp

/-- A level at or above a target of STOP or STORM is one of the two. -/
theorem WindLevel.high_of_le {l m : WindLevel} (h : m = .stop ∨ m = .storm) (hl : m.code ≤ l.code) :
    l = .stop ∨ l = .storm := by
  rcases h with rfl | rfl <;> cases l <;> simp [WindLevel.code] at *

/-- Without a source only STORM eases, to STOP (R98). -/
theorem WindRec.lowered_of_missing {w : WindRec} {c : CraneRec} {h : Nat} (eases : w.eases c h)
    (source : w.source = .missing) (high : w.level = .stop ∨ w.level = .storm) : w.level.lowered = .stop := by
  rcases high with level | level
  · obtain ⟨-, limits⟩ := eases
    simp [level, source] at limits
  · rw [level]
    rfl

section
variable {w : WindRec} {c : CraneRec} {p : SiteParams} {backup : Option MastCopy}

theorem WindRec.close_high_of_unsettled (unsettled : w.unsettled = true) (high : w.level = .stop ∨ w.level = .storm)
    (h : (w.close c p backup).source = .missing ∨ (w.close c p backup).unsettled = true) :
    (w.close c p backup).level = .stop ∨ (w.close c p backup).level = .storm := by
  obtain ⟨few, three, -⟩ := w.close_moves c p backup
  by_cases held : (w.heard backup).values.length < 3
  · rw [few unsettled held]
    dsimp only
    split
    · exact .inr rfl
    · exact high
  · rw [three unsettled (Nat.not_lt.mp held)] at h ⊢
    exact WindRec.target_of_missing (h.resolve_right Bool.false_ne_true)

theorem WindRec.close_high_of_settled (settled : w.unsettled = false) (h : (w.close c p backup).source = .missing) :
    (w.close c p backup).level = .stop ∨ (w.close c p backup).level = .storm := by
  obtain ⟨-, -, rise, low⟩ := w.close_moves c p backup
  have source : (w.heard backup).source = .missing := by
    obtain ⟨_, _, _, figures⟩ := w.close_figures c p backup
    rwa [figures] at h
  have target : (w.heard backup).target c = .stop ∨ (w.heard backup).target c = .storm :=
    WindRec.target_of_missing source
  by_cases rises : w.level.code < ((w.heard backup).target c).code
  · rw [rise settled rises]
    exact target
  · obtain ⟨stays, holds, ended⟩ := low settled (Nat.not_lt.mp rises)
    have high := WindLevel.high_of_le target (Nat.not_lt.mp rises)
    by_cases eases : (w.heard backup).eases c p.hysteresis
    · by_cases late : p.holdTime w.level ≤ w.eligible + 1
      · rw [ended eases late]
        rw [← w.heard_level backup] at high ⊢
        exact .inl (WindRec.lowered_of_missing eases source high)
      · rw [holds eases (Nat.not_le.mp late)]
        exact high
    · rw [stays eases]
      exact high

/-- A close leaves a settled record settled (R100). -/
theorem WindRec.close_settled (settled : w.unsettled = false) : (w.close c p backup).unsettled = false := by
  obtain ⟨_, _, moved⟩ :=
    WindRec.moveSettled_figures (w := w.heard backup) (target := (w.heard backup).target c) (c := c) (p := p)
  rw [WindRec.close_of_settled settled, moved]
  exact (w.heard_unsettled backup).trans settled

/-- R99: a close leaves a record that is MISSING or UNSETTLED at STOP or STORM. -/
theorem WindRec.close_high (high : w.unsettled = true → w.level = .stop ∨ w.level = .storm)
    (h : (w.close c p backup).source = .missing ∨ (w.close c p backup).unsettled = true) :
    (w.close c p backup).level = .stop ∨ (w.close c p backup).level = .storm := by
  cases unsettled : w.unsettled with
  | true => exact WindRec.close_high_of_unsettled unsettled (high unsettled) h
  | false =>
    refine WindRec.close_high_of_settled unsettled (h.resolve_right ?_)
    rw [WindRec.close_settled unsettled]
    exact Bool.false_ne_true

end

theorem WindRec.ok_close {w : WindRec} {c : CraneRec} {p : SiteParams} {backup : Option MastCopy} (hw : w.ok)
    (sample : ∀ m ∈ backup, ∀ v, m.sample = some v → v ≤ 600) : (w.close c p backup).ok := by
  obtain ⟨-, -, -, -, -, -, level⟩ := id hw
  have high := WindRec.close_high (c := c) (p := p) (backup := backup) fun h => level (.inr h)
  obtain ⟨_, _, _, figures⟩ := w.close_figures c p backup
  rw [figures] at high ⊢
  exact ⟨w.heard_quiet_le backup, WindRec.heard_values_length hw, WindRec.heard_values_le hw sample,
    WindRec.heard_acc_iff hw, fun _ => WindRec.heard_acc_le hw sample, Nat.zero_le _, high⟩

/-! ## Samples (R88, R89) -/

theorem WindRec.ok_sampled {w : WindRec} (hw : w.ok) {v : Nat} (hv : v ≤ 600) :
    { w with ownSum := w.ownSum + v, ownCount := w.ownCount + 1 }.ok := by
  obtain ⟨quiet, length, values, held, acc, sum, high⟩ := hw
  exact ⟨quiet, length, values, held, acc, by dsimp only; omega, high⟩

theorem WindRec.ok_stale {w : WindRec} (hw : w.ok) : { w with quiet := 5, ownSum := 0, ownCount := 0 }.ok := by
  obtain ⟨-, length, values, held, acc, -, high⟩ := hw
  exact ⟨Nat.le_refl 5, length, values, held, acc, Nat.zero_le _, high⟩

end Sys2Proof.Machine
end

section
/-! SUPPORT. The wind invariant (R87, R88, R90, R99): what keeps it, and the operations of the arbiter, the evaluator, the
composer and the scheduler, of which none touches a wind record or sends a mast notice. -/

namespace Sys2Proof.Machine

/-! ## What a request's checks keep -/

section
variable {P : State → Prop} {s : State}

theorem Answer.ite_keeps {c : Prop} [Decidable c] {a b : Answer} (h : P a.state) (h' : P b.state) :
    P (if c then a else b).state := by
  split
  · exact h
  · exact h'

theorem inSetup_keeps {own : State → Answer} (hs : P s) (h : P (own s).state) : P (inSetup own s).state :=
  Answer.ite_keeps hs h

theorem withCrane_keeps (hs : P s) (n : Nat) {own : Crane → State → Answer} (h : ∀ k, P (own k s).state) :
    P (withCrane n own s).state := by
  unfold withCrane
  split
  · exact hs
  · exact h _

theorem withBooking_keeps (hs : P s) (id : Nat) {own : Booking → State → Answer} (h : ∀ b, P (own b s).state) :
    P (withBooking id own s).state := by
  refine Answer.ite_keeps hs ?_
  split
  · exact hs
  · exact h _

end

/-- A delivered notice was on its way, and those left were too. -/
theorem takeFirst_mem {p : Notice → Bool} {l rest : List Notice} {n : Notice} (h : takeFirst p l = some (n, rest)) :
    n ∈ l ∧ ∀ m ∈ rest, m ∈ l := by
  induction l generalizing rest with
  | nil => cases h
  | cons a l ih =>
    unfold takeFirst at h
    split at h
    · cases h
      exact ⟨List.mem_cons_self, fun m hm => List.mem_cons_of_mem _ hm⟩
    · split at h
      · cases h
      · rename_i others found
        cases h
        obtain ⟨hn, hothers⟩ := ih found
        exact ⟨List.mem_cons_of_mem _ hn, List.forall_mem_cons.mpr ⟨List.mem_cons_self,
          fun m hm => List.mem_cons_of_mem _ (hothers m hm)⟩⟩

/-! The lemmas in this namespace are named after the operation that keeps the invariant. -/

namespace State.windOk

/-! ## The updates of the state -/

section
variable {s t : State} (h : s.windOk)
include h

theorem record (k : Crane) : s.wind[k].ok := (h.1 k).1

theorem idle {k : Crane} (hk : s.worked k = false) : s.wind[k] = .fresh := (h.1 k).2 hk

theorem sample {m : Mast} {v : Nat} (hv : s.windMasts[m].sample = some v) : v ≤ 600 := h.2.1 m v hv

theorem speed {m : Mast} {state : MastState} {v : Nat} (hv : Notice.mast m state (some v) ∈ s.notices) : v ≤ 600 :=
  h.2.2 m state v hv

theorem congr (wind : t.wind = s.wind) (cranes : t.cranes = s.cranes) (masts : t.windMasts = s.windMasts)
    (told : ∀ m state v, Notice.mast m state (some v) ∈ t.notices → v ≤ 600) : t.windOk := by
  refine ⟨fun k => ?_, fun m v => ?_, told⟩
  · simp only [wind, State.worked, State.crane, cranes]
    exact ⟨h.record k, h.idle⟩
  · simp only [masts]
    exact h.sample

/-- A step that touches nothing of it. -/
theorem of_within {ps : List Part} (hw : Within ps s t)
    (apart : ∀ p ∈ [Part.wind, .cranes, .windMasts, .notices], p ∉ ps) : t.windOk := by
  have notices : t.notices = s.notices := hw.same .notices (apart _ (by decide))
  exact h.congr (hw.same .wind (apart _ (by decide))) (hw.same .cranes (apart _ (by decide)))
    (hw.same .windMasts (apart _ (by decide))) fun m state v hv => h.speed (notices ▸ hv)

/-- Notices other than those of a mast's speed. -/
theorem of_posted {ps : List Part} {posted : List Notice} (hw : Within ps s t)
    (apart : ∀ p ∈ [Part.wind, .cranes, .windMasts], p ∉ ps) (notices : t.notices = s.notices ++ posted)
    (others : ∀ m state v, Notice.mast m state (some v) ∉ posted) : t.windOk := by
  refine h.congr (hw.same .wind (apart _ (by decide))) (hw.same .cranes (apart _ (by decide)))
    (hw.same .windMasts (apart _ (by decide))) fun m state v hv => ?_
  rw [notices] at hv
  exact h.speed ((List.mem_append.mp hv).resolve_right (others m state v))

theorem post (n : Notice) (other : ∀ m state v, n ≠ .mast m state (some v) := by nofun) : (s.post n).windOk :=
  h.of_posted (State.post_within ..) (by decide) rfl fun m state v hv => other m state v (List.mem_singleton.mp hv).symm

theorem emit (kind : EventKind) (c z b : Nat) (x y : Int) : (s.emit kind c z b x y).windOk :=
  h.of_within (State.emit_within ..) (by decide)

theorem emitCrane (kind : EventKind) (k : Crane) (x y : Int) : (s.emitCrane kind k x y).windOk := h.emit ..

theorem reach (due : Moment) : (s.reach due).windOk := h.of_within (State.reach_within ..) (by decide)

theorem modLine (k : Crane) (f : Line → Line) : (s.modLine k f).windOk := h

theorem setZone (z : Zone) (r : ZoneRt) : (s.setZone z r).windOk := h

theorem setWind (k : Crane) {w : WindRec} (hw : w.ok) (worked : s.worked k = true) : (s.setWind k w).windOk := by
  refine ⟨fun j => ?_, fun _ _ => h.sample, fun _ _ _ => h.speed⟩
  rw [State.wind_setWind]
  split
  · rename_i hj
    subst hj
    exact ⟨hw, fun idle => absurd (idle.symm.trans worked) Bool.false_ne_true⟩
  · exact ⟨h.record j, h.idle⟩

theorem setMastCopy (m : Mast) {c : MastCopy} (hc : ∀ v, c.sample = some v → v ≤ 600) : (s.setMastCopy m c).windOk := by
  refine ⟨fun k => ⟨h.record k, h.idle⟩, fun n v hv => ?_, fun _ _ _ => h.speed⟩
  rw [State.windMasts_setMastCopy] at hv
  split at hv
  · exact hc v hv
  · exact h.sample hv

end

section
variable {s t u : State}

theorem ite {c : Prop} [Decidable c] (h : t.windOk) (h' : u.windOk) : (if c then t else u).windOk := by
  split
  · exact h
  · exact h'

theorem foldl {α : Type} {f : State → α → State} (hf : ∀ u : State, u.windOk → ∀ a, (f u a).windOk) (l : List α) :
    ∀ {s : State}, s.windOk → (l.foldl f s).windOk := by
  induction l with
  | nil => exact id
  | cons a l ih => exact fun h => ih (hf _ h a)

/-- A state whose wind evaluator has begun afresh. -/
theorem of_fresh (wind : s.wind = Vector.replicate 8 .fresh) (masts : s.windMasts = Vector.replicate 4 .unknown)
    (notices : s.notices = []) : s.windOk := by
  refine ⟨fun k => ?_, fun m v hv => ?_, fun m state v hv => ?_⟩
  · have record : s.wind[k] = .fresh := by simp only [wind, vector_get_replicate]
    rw [record]
    exact ⟨WindRec.ok_fresh, fun _ => rfl⟩
  · simp only [masts, vector_get_replicate] at hv
    cases hv
  · rw [notices] at hv
    cases hv

end

/-! ## The Zone Arbiter -/

section
variable {s t : State} (h : s.windOk) (k : Crane)
include h

/-- A step at one zone sends clearance notices and notices that a crane has left. -/
theorem zoneStep {z : Zone} {q p : Course} (step : s.ZoneStep z q t p) : t.windOk := by
  obtain ⟨_, posted, -, notices, -, names⟩ := step.brings
  refine h.of_posted step.within (by decide) notices fun m state v hv => ?_
  rcases names _ hv with ⟨_, _, named⟩ | ⟨_, named⟩ <;> cases named

theorem settle (z : Zone) (r : ZoneRt) (pass tell : Bool) : (s.settle z k (s.zone z) r pass tell).windOk :=
  h.zoneStep (.act (q := s.courseOf z) rfl rfl r pass tell)

theorem claimZone (z : Zone) : (State.claimZone k s z).windOk := ite (h.settle ..) (h.setZone ..)

theorem declareZone (z : Zone) : (State.declareZone k s z).windOk := by
  have listed : (s.setDeclared k (addTo z s.declared[k])).windOk := h
  exact ite (listed.settle ..) (listed.setZone ..)

theorem declareZones (zones : List Zone) : (s.declareZones k zones).windOk :=
  have declared := foldl (fun _ hu z => hu.declareZone k z) zones h
  ite declared (declared.emitCrane ..)

theorem guardEnd : (s.guardEnd k).windOk := by
  have freed := foldl (fun u (hu : u.windOk) z =>
    hu.zoneStep (State.unguardZone_step (s := u) (.refl ..) (q := u.courseOf z) rfl k))
    (allZones.filter (fun z => (s.zone z).guard.contains k)) h
  exact ite h (freed.emitCrane ..)

theorem withdrawSweeps : (s.withdrawSweeps k).windOk :=
  foldl (fun u hu z => hu.zoneStep (State.withdrawSweepZone_step (s := u) (.refl ..) (q := u.courseOf z) rfl k)) _ h

theorem guardUnlessSetup : (s.guardUnlessSetup k).windOk := h.of_within (State.guardUnlessSetup_within ..) (by decide)

/-! ## Evaluation and composition -/

theorem evaluate (r : Report) : (s.evaluate k r).windOk := by
  have written : (s.setFaces k (s.faceStates k r)).windOk := h
  refine ite written (foldl (fun u hu f =>
    hu.zoneStep (State.faceActions_step (s := u) (.refl ..) k f (q := u.courseOf f.zone) rfl).1) _ ?_)
  exact ite ((written.modLine k _).guardEnd k) written

theorem vane (step : State.VaneStep k s t) : t.windOk := h.of_within step.within (by decide)

theorem weathervane : (s.weathervane k).windOk := by
  refine ite ?_ ?_
  · have begun := h.vane k (State.beginEpisode_step ..)
    have claimed := foldl (fun _ hu z => hu.claimZone k z)
      (((s.beginEpisode k).zonesOf k).filter fun z =>
        !((s.beginEpisode k).zone z).sweep.contains k && !((s.beginEpisode k).zone z).claims.contains k) begun
    refine ite (begun.vane k (State.becomeActive_step ..)) (vane (ite ?_ ?_) k (State.vaneAlarm_step ..))
    · exact claimed.vane k (State.becomeActive_step ..)
    · exact claimed.vane k (State.becomePending_step ..)
  · exact ite h (vane (ite h (h.withdrawSweeps k)) k (.emit _ _ (by decide) ..))

theorem evaluateAndPoll : (s.evaluateAndPoll k).windOk := by
  have evaluated : (match s.evaluable k with
      | none => s
      | some r => s.evaluate k r).windOk := by
    split
    · exact h
    · exact h.evaluate k _
  exact evaluated.weathervane k

/-! ## The Booking Scheduler -/

theorem go (b : Booking) (state : BookingState) (cause : BookingCause) : (s.go b state cause).windOk :=
  foldl (fun u hu z => hu.zoneStep (State.tell_step (s := u) rfl (q := u.courseOf z) rfl b.id b.crane b.state state)) _
    (h.of_within (State.moveOnly_within ..) (by decide))

omit h in
theorem run (steps : List (BookingState × BookingCause)) :
    ∀ {s : State}, s.windOk → ∀ b : Booking, (s.run b steps).windOk := by
  induction steps with
  | nil => exact fun h _ => h
  | cons p rest ih => exact fun h b => ih (h.go b p.1 p.2) _

theorem review (wrap : Bool) (id : Nat) : (State.review wrap s id).windOk := by
  cases valid : s.clockValid
  · simp only [State.review, valid, Bool.not_false, if_true]
    exact h
  · cases found : s.booking id
    · simp only [State.review, valid, found, Bool.not_true]
      exact h
    · rw [State.review_eq s wrap _ valid found]
      exact run _ h _

theorem reviewAll (wrap : Bool) (order : List Nat) (p : Booking → Bool) : (s.reviewAll wrap order p).windOk :=
  foldl (fun _ hu id => hu.review wrap id) _ h

theorem cancelRequest (b : Booking) : (s.cancelRequest b).state.windOk := by
  unfold State.cancelRequest
  split
  · exact h
  · rename_i running
    rw [State.cancelBooking_eq (by simpa using running)]
    exact h.go ..

end

end State.windOk

end Sys2Proof.Machine
end

section
/-! SUPPORT. The wind invariant on the crane lines: a link notice is no mast notice, and a REPORT's wind is clamped to 600
(R23, R89). -/

namespace Sys2Proof.Machine.State.windOk

section
variable {s : State} (h : s.windOk) (k : Crane)
include h

/-! ## Links and exchanges -/

theorem setLink (new : LinkState) : (s.setLink k new).windOk := (h.modLine k _).post (.link k (s.line k).link new)

theorem enterWaking (keep : Bool) : (s.enterWaking k keep).windOk := (h.modLine k _).setLink k _

theorem enterLost (cause : LinkCause) : (s.enterLost k cause).windOk := ((h.modLine k _).emitCrane ..).setLink k _

theorem enterMismatch (cause : LinkCause) (b : Int) : (s.enterMismatch k cause b).windOk :=
  ((h.modLine k _).emitCrane ..).setLink k _

theorem enterOnline (tag : Byte) : (s.enterOnline k tag).windOk := by
  have entered := fun f x y => (h.modLine k f).emitCrane .linkOnline k x y
  refine (setLink (ite ?_ ?_) k _).modLine k _
  · exact entered ..
  · exact (entered ..).emitCrane ..

theorem startCycle : (s.startCycle k).windOk := h.modLine k _

theorem beginExchange (kind : ExchangeKind) (frame : List Byte) : (s.beginExchange k kind frame).windOk := h.modLine k _

theorem enterRateSearch : (s.enterRateSearch k).windOk := h.setLink k _

theorem enterCheck : (s.enterCheck k).windOk := h.setLink k _

theorem enterWaitready : (s.enterWaitready k).windOk := h.setLink k _

theorem enterTagging : (s.enterTagging k).windOk := h.setLink k _

/-! ## Exchanges that fail -/

theorem countMiss : (s.countMiss k).windOk := ite ((h.modLine k _).enterLost k _) (h.modLine k _)

theorem searchFailed : (s.searchFailed k).windOk := ite h h

theorem checkFailed : (s.checkFailed k).windOk := ite h ((h.modLine k _).enterWaking k _)

theorem taggingFailed : (s.taggingFailed k).windOk := ite h ((h.modLine k _).enterLost k _)

theorem exchangeFailed (f : Faults) : (s.exchangeFailed k f).windOk := by
  have dropped : (s.dropExchange k).windOk := h.modLine k _
  have flagged : ((s.dropExchange k).setFaults k f).windOk := dropped.modLine k _
  unfold State.exchangeFailed
  dsimp only
  split
  case h_1 => exact dropped.searchFailed k
  case h_2 => exact flagged.checkFailed k
  case h_3 => exact flagged
  case h_4 => exact flagged.taggingFailed k
  case h_5 => exact flagged.countMiss k
  all_goals exact dropped

theorem endIncomplete : (s.endIncomplete k).windOk := by
  unfold State.endIncomplete
  split
  · exact h
  · exact h.exchangeFailed k _

/-! ## Replies -/

theorem ownSample {v : Nat} (hv : v ≤ 600) : (s.ownSample k v).windOk := by
  unfold State.ownSample
  split
  · exact h.setWind k (WindRec.ok_sampled (h.record k) hv) ‹_›
  · exact h

theorem ownStale : (s.ownStale k).windOk := by
  unfold State.ownStale
  split
  · exact h.setWind k (WindRec.ok_stale (h.record k)) ‹_›
  · exact h

theorem takeReport (m : ChunkMarker) (o : List Byte) : (s.takeReport k m o).windOk := by
  rw [State.takeReport_eq]
  exact ite ((h.modLine k _).ownSample k (Nat.min_le_right ..)) (h.modLine k _)

theorem takeEcho (version : Byte) : (s.takeEcho k version).windOk :=
  have dropped := h.modLine k (fun l => { l with exchange := none })
  ite (dropped.enterMismatch k ..) (ite (dropped.enterWaitready k) (dropped.enterCheck k))

theorem takeReady (flag : Nat) : (s.takeReady k flag).windOk :=
  have dropped := h.modLine k (fun l => { l with exchange := none })
  ite (dropped.enterTagging k) dropped

theorem takeIdent (tag : Byte) (o : List Byte) : (s.takeIdent k tag o).windOk :=
  ite (h.enterOnline k _) (h.enterMismatch k ..)

theorem judge (x : ExchangeKind) (o : List Byte) (p f : Bool) : (s.judge k x o p f).windOk := by
  refine ite (h.exchangeFailed k _) ?_
  cases x with
  | wakeCheck => exact h.takeEcho k _
  | readyQ => exact h.takeReady k _
  | tagSet => exact h.takeIdent k ..
  | poll => exact h.takeReport k ..

/-! ## What a receiver hears -/

theorem extendReply (x : Exchange) (o : List Byte) (p f : Bool) : (s.extendReply k x o p f).windOk :=
  ite (h.judge k ..) (ite (h.exchangeFailed k _) (h.modLine k _))

theorem replyBegins : (s.replyBegins k).windOk := by
  unfold State.replyBegins
  split
  · exact h
  · split
    · exact h.modLine k _
    all_goals exact h

theorem takeChar (c : LineChar) : (s.takeChar k c).windOk := by
  unfold State.takeChar
  split
  · exact h
  · split
    · exact h.extendReply k ..
    all_goals exact h

theorem hear (heard : Heard) : (s.hear k heard).windOk := by
  cases heard with
  | nothing => exact h
  | start => exact h.replyBegins k
  | character => exact h.takeChar k _

theorem sampleLines (x : Samples) : (s.sampleLines k x).windOk :=
  foldl (fun _ hu _ => ite ((hu.modLine k _).hear k _) hu) x h

/-! ## The events of a line -/

theorem cycleExpires : (s.cycleExpires k).windOk := by
  unfold State.cycleExpires
  split
  · exact h
  · rename_i due _
    have ended := (h.reach due).endIncomplete k
    exact ite (ite ((ended.modLine k _).evaluateAndPoll k) ended) h

theorem windowCloses : (s.windowCloses k).windOk := by
  unfold State.windowCloses
  split
  · exact h
  · split
    · exact (h.reach _).exchangeFailed k _
    all_goals exact h

theorem silencePasses : (s.silencePasses k).windOk := by
  unfold State.silencePasses
  split
  · exact h
  · split
    · exact ite h (h.exchangeFailed k _)
    all_goals exact h

theorem idleEnds : (s.idleEnds k).windOk := by
  unfold State.idleEnds
  split
  · exact (h.reach _).enterRateSearch k
  all_goals exact h

theorem backoffEnds : (s.backoffEnds k).windOk := by
  unfold State.backoffEnds
  split
  · exact (h.reach _).enterWaking k _
  all_goals exact h

theorem lostEnds : (s.lostEnds k).windOk := by
  unfold State.lostEnds
  split
  · exact (h.reach _).enterWaking k _
  all_goals exact h

theorem asksAgain : (s.asksAgain k).windOk := by
  unfold State.asksAgain
  split
  · exact h
  · exact ite ((((h.reach _).endIncomplete k).startCycle k).beginExchange k ..) h

theorem deadlinePasses : (s.deadlinePasses k).windOk := by
  unfold State.deadlinePasses
  split
  · exact h
  · exact ite (((h.reach _).modLine k _).enterLost k _) h

end

end Sys2Proof.Machine.State.windOk
end

section
/-! SUPPORT. The wind invariant at the mast line (R161), the slot close (R91), the notices and the requests, and over every
step. -/

namespace Sys2Proof.Machine

/-- What a restart does to the zones and the lines before it clears the port (R169). -/
theorem State.restarted_within (s : State) (due : Moment) : Within [.arb, .declared, .lines, .mastLine] s
    (s.clearZones.restartLines.restartMasts.beginSlot 0 due) :=
  (((s.clearZones_within.mono (by decide)).trans ((State.restartLines_within _).mono (by decide))).trans
    ((State.restartMasts_within _).mono (by decide))).trans ((State.beginSlot_within ..).mono (by decide))

namespace State.windOk

section
variable {s : State} (h : s.windOk)
include h

/-! ## The Mast Line Controller (R161 to R163) -/

theorem endMastExchange (x : MastExchange) {result : Option Nat} (speed : ∀ v, result = some v → v ≤ 600) :
    (s.endMastExchange x result).windOk := by
  have dropped : s.dropMastExchange.windOk := h
  refine ite dropped ?_
  split
  · exact dropped
  · rename_i before _
    have stored : (s.dropMastExchange.setMast x.mast (some (before.after result))).windOk := h
    have told := stored.of_within (State.mastEvents_within _ x.mast before (before.after result) result) (by decide)
    refine told.congr rfl rfl rfl fun m state v hv => ?_
    rcases List.mem_append.mp hv with hv | hv
    · exact told.speed hv
    · obtain ⟨-, -, same⟩ := Notice.mast.inj (List.mem_singleton.mp hv)
      exact speed v same.symm

theorem takeMastChar (c : LineChar) : (s.takeMastChar c).windOk := by
  unfold State.takeMastChar
  split
  · exact h
  · split
    · exact h
    · refine ite h (ite (h.endMastExchange _ fun v hv => ?_) h)
      split_ifs at hv
      obtain rfl := Option.some.inj hv
      exact Nat.min_le_right ..

theorem hearMast (heard : Heard) : (s.hearMast heard).windOk := by
  cases heard with
  | nothing | start => exact h
  | character => exact h.takeMastChar _

theorem sampleMast (b : Bool) : (s.sampleMast b).windOk := by
  refine ite h (hearMast ?_ _)
  exact h

theorem sampleMasts (x : Samples) : (s.sampleMasts x).windOk := foldl (fun _ hu b => hu.sampleMast b) x h

theorem mastWindowCloses : s.mastWindowCloses.windOk := by
  unfold State.mastWindowCloses
  split
  · exact h
  · split
    · exact (h.reach _).endMastExchange _ nofun
    · exact h

/-! ## The slot close (R91) -/

/-- The sample that a backup mast offers. -/
theorem backupCopy_le (c : CraneRec) : ∀ m ∈ s.backupCopy c, ∀ v, m.sample = some v → v ≤ 600 := by
  intro m hm v hv
  obtain ⟨n, -, rfl⟩ := Option.map_eq_some_iff.mp hm
  exact h.sample hv

theorem closedWind_ok (k : Crane) : (s.closedWind k).ok := by
  cases worked : s.worked k with
  | false => exact State.closedWind_of_not_worked worked ▸ h.record k
  | true =>
    obtain ⟨c, hc, present⟩ := State.worked_iff.mp worked
    exact State.closedWind_of_worked hc present ▸ WindRec.ok_close (h.record k) (h.backupCopy_le c)

theorem slotsClose (order : List Crane) : (s.slotsClose order).windOk := by
  obtain ⟨done, u, -, all, slots, -, run⟩ := s.slotsClose_closed order
  have stale := u.staleMasts_masts
  have wind : u.staleMasts.wind = u.wind := stale.same .wind (by decide)
  have cranes : u.staleMasts.cranes = s.cranes := (stale.same .cranes (by decide)).trans (slots.within.same .cranes (by decide))
  have masts : u.windMasts = s.windMasts := slots.within.same .windMasts (by decide)
  have notices : u.staleMasts.notices = u.notices := stale.same .notices (by decide)
  rw [run]
  refine ⟨fun k => ?_, fun m v hv => ?_, fun m state v hv => ?_⟩
  · simp only [wind, slots.wind, all, if_true, State.worked, State.crane, cranes]
    exact ⟨h.closedWind_ok k, fun idle => (State.closedWind_of_not_worked idle).trans (h.idle idle)⟩
  · rw [State.windMasts_staleMasts] at hv
    simp only [masts] at hv
    exact h.sample hv
  · rw [notices, slots.notices] at hv
    rcases List.mem_append.mp hv with hv | hv
    · exact h.speed hv
    · obtain ⟨k, -, hk⟩ := List.mem_flatMap.mp hv
      exact Notice.noConfusion (mem_slotNotices.mp hk).2

/-! ## Notices and the clock -/

/-- A delivered notice carries what the invariant says of it. -/
theorem deliver (p : Notice → Bool) {act : Notice → State → State} (hact : ∀ n (u : State), u.windOk →
    (∀ m state v, n = .mast m state (some v) → v ≤ 600) → (act n u).windOk) : (s.deliver p act).windOk := by
  unfold State.deliver
  split
  · exact h
  · rename_i n rest found
    obtain ⟨on, left⟩ := takeFirst_mem found
    exact hact n _ ⟨fun k => ⟨h.record k, h.idle⟩, fun _ _ => h.sample, fun _ _ _ hv => h.speed (left _ hv)⟩
      fun _ _ _ hn => h.speed (hn ▸ on)

theorem linkChanged (k : Crane) (old new : LinkState) (order : List Nat) : (s.linkChanged k old new order).windOk := by
  have unfaced : (if old = .online ∧ new ≠ .online then s.setFaces k [] else s).windOk := ite h h
  have zones : (s.linkZones k old new).windOk := ite unfaced (unfaced.guardUnlessSetup k)
  have sourced := ite (c := old = .online ∧ new ≠ .online) (zones.ownStale k) zones
  exact ite (sourced.reviewAll ..) sourced

theorem takeMastNotice (m : Mast) (state : MastState) {speed : Option Nat} (hv : ∀ v, speed = some v → v ≤ 600) :
    (s.takeMastNotice m state speed).windOk := by
  unfold State.takeMastNotice
  cases speed with
  | none => exact h.setMastCopy m fun _ => h.sample
  | some v => exact h.setMastCopy m hv

theorem secondPasses (order : List Nat) : (s.secondPasses order).windOk := by
  have counted : ({ s.reach s.clockDue with
      clock := s.clockNext, clockDue := s.clockDue + BitVec.ofNat 32 Config.second } : State).windOk := h.reach s.clockDue
  exact counted.reviewAll ..

/-! ## Site requests -/

theorem setMode (m : Mode) : (s.setMode m).windOk := by
  have set : ({ s with mode := m } : State).windOk := h
  exact set.emit ..

theorem holdRequest : s.holdRequest.state.windOk := Answer.ite_keeps h ((h.setMode .hold).post .mode)

theorem resumeRequest : s.resumeRequest.state.windOk := Answer.ite_keeps h ((h.setMode .run).post .mode)

theorem clockRequest (n : Nat) : (s.clockRequest n).state.windOk := by
  have set : ({ s with clock := n, clockValid := true } : State).windOk := h
  exact Answer.ite_keeps h (ite (set.emit ..) ((set.emit ..).post .clock))

/-! ## Configuration requests -/

theorem craneStored (k : Crane) (c : CraneRec) : (s.craneStored k c).windOk := by
  have within := s.craneStored_within k c
  have masts : (s.craneStored k c).windMasts = s.windMasts := within.same .windMasts (by decide)
  have notices : (s.craneStored k c).notices = s.notices := within.same .notices (by decide)
  refine ⟨fun j => ?_, fun m v => ?_, fun m state v => ?_⟩
  · have worked : (s.craneStored k c).worked j = if j = k then !c.absent else s.worked j := by
      rw [State.worked, State.crane_craneStored]
      split_ifs <;> rfl
    rw [State.wind_craneStored, worked]
    by_cases renewed : j = k ∧ s.worked k ≠ !c.absent
    · rw [if_pos renewed]
      exact ⟨WindRec.ok_fresh, fun _ => rfl⟩
    · rw [if_neg renewed]
      refine ⟨h.record j, fun idle => h.idle ?_⟩
      by_cases hj : j = k
      · subst hj
        rw [not_not.mp (mt (And.intro rfl) renewed)]
        simpa using idle
      · simpa [hj] using idle
  · simp only [masts]
    exact h.sample
  · rw [notices]
    exact h.speed

theorem applyCrane (k : Crane) (c : CraneRec) : (s.applyCrane k c).windOk := by
  rw [State.applyCrane_eq]
  exact ite ((h.craneStored k c).enterWaking k false) (h.craneStored k c)

theorem craneDefRequest (k : Crane) (c : CraneRec) : (s.craneDefRequest k c).state.windOk :=
  Answer.ite_keeps h (Answer.ite_keeps h (Answer.ite_keeps h (h.applyCrane k c)))

theorem applyClear (k : Crane) : (s.applyClear k).windOk := by
  have within := s.applyClear_within k
  have masts : (s.applyClear k).windMasts = s.windMasts := within.same .windMasts (by decide)
  have notices : (s.applyClear k).notices = s.notices := within.same .notices (by decide)
  refine ⟨fun j => ?_, fun m v => ?_, fun m state v => ?_⟩
  · rw [State.wind_applyClear, State.worked, State.crane_applyClear]
    by_cases hj : j = k
    · rw [if_pos hj]
      exact ⟨WindRec.ok_fresh, fun _ => rfl⟩
    · rw [if_neg hj, if_neg hj]
      exact ⟨h.record j, h.idle⟩
  · simp only [masts]
    exact h.sample
  · rw [notices]
    exact h.speed

theorem craneClearRequest (k : Crane) : (s.craneClearRequest k).state.windOk :=
  Answer.ite_keeps h (Answer.ite_keeps h (Answer.ite_keeps h (h.applyClear k)))

theorem mastDefRequest (m : Mast) (defined : Bool) : (s.mastDefRequest m defined).state.windOk := by
  have unknown : ∀ r, ((s.setMast m r).setMastCopy m .unknown).windOk := fun r => setMastCopy (s := s.setMast m r) h m nofun
  exact Answer.ite_keeps (ite h (unknown _)) (Answer.ite_keeps h (ite (unknown none) h))

/-! ## Crane requests -/

theorem lineOnRequest (k : Crane) : (s.lineOnRequest k).state.windOk :=
  Answer.ite_keeps h (ite ((h.modLine k _).enterWaking k _) h)

theorem lineOffRequest (k : Crane) : (s.lineOffRequest k).state.windOk :=
  Answer.ite_keeps h (((h.modLine k _).setLink k _).guardUnlessSetup k)

theorem serviceRequest (k : Crane) (new : ServiceState) : (s.serviceRequest k new).state.windOk := by
  have set : ({ s with service := s.service.set k new } : State).windOk := h
  exact Answer.ite_keeps h (ite h (set.post (.service k new)))

theorem declareRequest (k : Crane) (zones : List Zone) : (s.declareRequest k zones).state.windOk :=
  Answer.ite_keeps h (Answer.ite_keeps h (h.declareZones k _))

/-! ## The port -/

theorem serve (f : Frame) {own : State → Answer} (hown : ∀ u : State, u.windOk → (own u).state.windOk) :
    (s.serve f own).windOk := by
  unfold State.serve
  split
  · exact hown s.taken h
  · exact h

/-- A request whose payload has the length asked for, or is refused for it. -/
theorem request {f : Frame} {n : Nat} {p : List Byte} {own : State → Answer}
    (hown : ∀ u : State, u.windOk → (own u).state.windOk) : (s.serve f (withLength n p own)).windOk :=
  h.serve f fun u hu => Answer.ite_keeps (hown u hu) hu

end

/-- The restart begins every wind record afresh and drops the notices (R87, R169). -/
theorem restart (s : State) : s.restart.windOk := by
  unfold State.restart
  dsimp only
  refine emit ?_ ..
  refine of_within (ps := [.port]) ?_ (State.modPort_within ..) (by decide)
  exact of_within (of_fresh rfl rfl rfl) (State.restarted_within ..) (by decide)

theorem replySent {s : State} (h : s.windOk) : s.replySent.windOk := ite (ite (restart _) h) h

end State.windOk

/-! ## Every command -/

theorem exec_windOk {c : Instr} {s t : State} (hs : s.windOk) (h : exec c s = .next t) : t.windOk := by
  obtain ⟨u, hu, within⟩ := exec_completes_within c s
  obtain rfl : t = u := Host.Outcome.next.inj (h.symm.trans hu)
  by_cases apart : ∀ p ∈ [Part.wind, .cranes, .windMasts, .notices], p ∉ touches c
  · exact hs.of_within within apart
  cases c <;> dsimp only [touches] at apart <;> obtain rfl := Host.Outcome.next.inj h
  case powerOn => exact State.reset_windOk
  case replySent => exact hs.replySent
  case hold => exact hs.request fun _ hu => hu.holdRequest
  case resume => exact hs.request fun _ hu => hu.resumeRequest
  case clock => exact hs.request fun _ hu => hu.clockRequest _
  case craneDef =>
    refine hs.request fun u hu => inSetup_keeps hu ?_
    split
    · exact hu
    · exact hu.craneDefRequest ..
  case craneClear => exact hs.request fun u hu => inSetup_keeps hu (withCrane_keeps hu _ hu.craneClearRequest)
  case mastDef =>
    refine hs.request fun u hu => inSetup_keeps hu ?_
    split
    · exact hu
    · exact Answer.ite_keeps (hu.mastDefRequest ..) hu
  case lineOn => exact hs.request fun u hu => withCrane_keeps hu _ hu.lineOnRequest
  case lineOff => exact hs.request fun u hu => withCrane_keeps hu _ hu.lineOffRequest
  case service =>
    refine hs.request fun u hu => withCrane_keeps hu _ fun k => ?_
    split
    · exact hu
    · exact hu.serviceRequest ..
  case declare =>
    refine hs.request fun u hu => Answer.ite_keeps hu (withCrane_keeps hu _ fun k => ?_)
    split
    · exact hu
    · exact hu.declareRequest ..
  case cancel => exact hs.request fun u hu => withBooking_keeps hu _ hu.cancelRequest
  case cycleExpiry k => exact hs.cycleExpires k
  case replyWindowClose k => exact hs.windowCloses k
  case silenceLimit k => exact hs.silencePasses k
  case replyBufferFull k x | report k x | echo k x | ready k x | ident k x => exact .ite (hs.sampleLines k x) hs
  case replyCharacter k x => exact hs.sampleLines k x
  case wakeIdleEnd k => exact hs.idleEnds k
  case backoffExpiry k => exact hs.backoffEnds k
  case lostExpiry k => exact hs.lostEnds k
  case waitreadyExpiry k => exact hs.asksAgain k
  case readyDeadline k => exact hs.deadlinePasses k
  case linkNotice k order =>
    refine hs.deliver _ fun n u hu _ => ?_
    cases n
    case link => exact hu.linkChanged ..
    all_goals exact hu
  case slotClose order => exact hs.slotsClose order
  case levelNotice | serviceNotice | modeNotice | clockNotice | insideLeftNotice =>
    exact hs.deliver _ fun _ u hu _ => hu.reviewAll ..
  case clearanceNotice => exact hs.deliver _ fun _ u hu _ => hu.review ..
  case clockSecond order => exact hs.secondPasses order
  case mastReply x | mastCharacter x => exact hs.sampleMasts x
  case mastWindowClose => exact hs.mastWindowCloses
  case mastNotice m =>
    refine hs.deliver _ fun n u hu speed => ?_
    cases n
    case mast => exact hu.takeMastNotice _ _ fun v hv => speed _ _ v (by rw [hv])
    all_goals exact hu
  all_goals exact absurd (by decide) apart

/-- Settles O11: an idle step moves the time alone, and any other step is a command, which keeps the invariant. -/
theorem aMissingOrUnsettledWindKeepsTheCraneAtStop : Obligations.AMissingOrUnsettledWindKeepsTheCraneAtStop := by
  intro s t hs h
  unfold step at h
  split at h
  · cases h
    exact hs.of_within s.tick_within (by decide)
  · rename_i rest _
    have ok : ({ s with pending := rest } : State).windOk := hs
    exact exec_windOk ok h

end Sys2Proof.Machine
end

section
/-! SUPPORT. The booking table when a record joins it (R109): its place in ascending id, the id it is given, the terminal
record that makes room, and the record of an admission. -/

namespace Sys2Proof.Machine

/-! ## The place of a record in the table (R109) -/

/-- A record is put between two parts of the table. -/
theorem insertBooking_eq_append (b : Booking) (l : List Booking) : ∃ before after,
    l = before ++ after ∧ insertBooking b l = before ++ b :: after := by
  induction l with
  | nil => exact ⟨[], [], rfl, rfl⟩
  | cons c l ih =>
    unfold insertBooking
    split
    · exact ⟨[], c :: l, rfl, rfl⟩
    · obtain ⟨before, after, parts, placed⟩ := ih
      exact ⟨c :: before, after, congrArg (c :: ·) parts, congrArg (c :: ·) placed⟩

theorem mem_insertBooking {b c : Booking} {l : List Booking} : c ∈ insertBooking b l ↔ c = b ∨ c ∈ l := by
  obtain ⟨before, after, rfl, placed⟩ := insertBooking_eq_append b l
  rw [placed, List.perm_middle.mem_iff, List.mem_cons]

/-- A table in ascending id is so with a new id in its place. -/
theorem insertBooking_ascends {b : Booking} {l : List Booking} (ascends : l.Pairwise (fun c d => c.id < d.id))
    (new : ∀ c ∈ l, c.id ≠ b.id) : (insertBooking b l).Pairwise (fun c d => c.id < d.id) := by
  induction l with
  | nil => exact List.pairwise_singleton _ _
  | cons c l ih =>
    obtain ⟨first, rest⟩ := List.pairwise_cons.mp ascends
    obtain ⟨newHead, newRest⟩ := List.forall_mem_cons.mp new
    unfold insertBooking
    split
    · rename_i lower
      exact List.pairwise_cons.mpr ⟨List.forall_mem_cons.mpr ⟨lower, fun d hd => lower.trans (first d hd)⟩, ascends⟩
    · rename_i higher
      refine List.pairwise_cons.mpr ⟨fun d hd => ?_, ih rest newRest⟩
      rcases mem_insertBooking.mp hd with rfl | old
      · omega
      · exact first d old

/-! ## The id that is given (R109 step 2) -/

theorem idAfter_range {id : Nat} (h : id ≤ 65535) : 1 ≤ idAfter id ∧ idAfter id ≤ 65535 := by
  unfold idAfter
  split <;> omega

/-- The ids that follow one another go round from 65535 to 1. -/
theorem iterate_idAfter {id : Nat} (low : 1 ≤ id) (high : id ≤ 65535) (n : Nat) :
    idAfter^[n] id = (id - 1 + n) % 65535 + 1 := by
  induction n with
  | zero => simp; omega
  | succ n ih =>
    rw [Function.iterate_succ_apply', ih, idAfter]
    split <;> omega

/-- The search tries one id after another, and passes by those that a record holds. -/
theorem freeId_eq_iterate (l : List Booking) (fuel id : Nat) : ∃ n ≤ fuel, freeId l fuel id = idAfter^[n] id ∧
    (∀ i < n, idAfter^[i] id ∈ l.map (·.id)) ∧ (n < fuel → idAfter^[n] id ∉ l.map (·.id)) := by
  induction fuel generalizing id with
  | zero => exact ⟨0, le_rfl, rfl, by simp, by simp⟩
  | succ fuel ih =>
    by_cases held : id ∈ l.map (·.id)
    · obtain ⟨n, tried, found, passed, free⟩ := ih (idAfter id)
      have next : freeId l (fuel + 1) id = freeId l fuel (idAfter id) := if_pos (by simpa using held)
      refine ⟨n + 1, by omega, next.trans found, fun i hi => ?_, fun h => free (by omega)⟩
      rcases i with _ | i
      · exact held
      · exact passed i (by omega)
    · have here : freeId l (fuel + 1) id = id := if_neg (by simpa using held)
      exact ⟨0, Nat.zero_le _, here, by simp, fun _ => held⟩

theorem freeId_of_free {l : List Booking} {id : Nat} (free : ∀ c ∈ l, c.id ≠ id) (fuel : Nat) : freeId l fuel id = id := by
  cases fuel with
  | zero => rfl
  | succ fuel => exact if_neg (by simpa using free)

section
variable {l : List Booking} {id : Nat} (low : 1 ≤ id) (high : id ≤ 65535)
include low high

theorem freeId_range (fuel : Nat) : 1 ≤ freeId l fuel id ∧ freeId l fuel id ≤ 65535 := by
  obtain ⟨n, -, found, -⟩ := freeId_eq_iterate l fuel id
  rw [found, iterate_idAfter low high]
  omega

/-- Fewer than 32 records cannot hold the 32 ids that are tried. -/
theorem freeId_free (few : l.length < 32) : ∀ c ∈ l, c.id ≠ freeId l 32 id := by
  obtain ⟨n, tried, found, passed, free⟩ := freeId_eq_iterate l 32 id
  have early : n < 32 := by
    by_contra all
    obtain rfl : n = 32 := by omega
    have distinct : ((List.range 32).map (fun i => idAfter^[i] id)).Nodup := by
      refine List.nodup_range.map_on fun i hi j hj same => ?_
      rw [iterate_idAfter low high, iterate_idAfter low high] at same
      rw [List.mem_range] at hi hj
      omega
    have held : (List.range 32).map (fun i => idAfter^[i] id) ⊆ l.map (·.id) := by
      intro x hx
      obtain ⟨i, hi, rfl⟩ := List.mem_map.mp hx
      exact passed i (List.mem_range.mp hi)
    have crowded := (List.subperm_of_subset distinct held).length_le
    simp only [List.length_map, List.length_range] at crowded
    omega
  rw [found]
  simpa using free early

end

/-! ## The requests a table admits (R108) -/

theorem BookRequest.clashes_iff (q : BookRequest) (b : Booking) : q.clashes b = true ↔ b.state.terminal = false ∧
    b.start < q.finish ∧ q.start < b.finish ∧ (b.crane = q.crane ∨ ∃ z ∈ b.reserved, z ∈ q.reserved) := by
  simp [BookRequest.clashes, sharesSecond, and_assoc]

theorem State.clashes_any_eq_false_iff (s : State) (q : BookRequest) : s.bookings.any q.clashes = false ↔
    ∀ b ∈ s.bookings, b.state.terminal = false → b.start < q.finish → q.start < b.finish →
      b.crane ≠ q.crane ∧ ∀ z ∈ b.reserved, z ∉ q.reserved := by
  rw [List.any_eq_false]
  refine forall₂_congr fun b _ => ?_
  rw [q.clashes_iff b]
  push Not
  rfl

/-! ## The record of an admission (R109) -/

theorem State.afterEviction_sublist (s : State) : s.afterEviction.Sublist s.bookings := by
  unfold State.afterEviction
  split
  · exact .refl _
  · exact List.filter_sublist

/-- The record that an admission puts into the table (R105, R109). -/
def State.admitted (s : State) (q : BookRequest) : Booking :=
  { id := s.idToGive, crane := q.crane, start := q.start, finish := q.finish, reserved := q.reserved, opened := q.opened
    windLimit := q.windLimit, label := q.label, state := .booked, cause := .admitted, deadline := s.deadlineFor q.start
    terminal := none, termSeq := 0 }

/-- What an admission does before its event. -/
def State.joined (s : State) (q : BookRequest) : State :=
  { s with bookings := insertBooking (s.admitted q) s.afterEviction, nextId := idAfter s.idToGive }

section
variable (s : State) (q : BookRequest)

theorem State.enterBooking_eq : s.enterBooking q = (s.joined q).bookingEvent (s.admitted q) .booked .admitted := rfl

theorem State.bookings_enterBooking : (s.enterBooking q).bookings = insertBooking (s.admitted q) s.afterEviction :=
  State.emit_bookings ..

theorem State.nextId_enterBooking : (s.enterBooking q).nextId = idAfter s.idToGive := State.emit_nextId ..

theorem State.logged_enterBooking : s.logged (s.enterBooking q)
    [s.record .bookingState (number q.crane) 0 (s.admitted q).id 0 0] := by
  rw [State.enterBooking_eq]
  have told := (s.joined q).logged_emit .bookingState (number q.crane) 0 (s.admitted q).id 0 0
  exact State.logged_from (u := s.joined q) rfl rfl told

end

end Sys2Proof.Machine
end

section
/-! SUPPORT. The booking table (R105, R108, R109): what keeps it free of clashes, and that every step does. -/

namespace Sys2Proof.Machine

/-! ## What it is to keep the table -/

/-- Record `c` is what has become of record `b`: its request is the same, and it is open only if `b` is. -/
structure Booking.Continues (c b : Booking) : Prop where
  id : c.id = b.id
  crane : c.crane = b.crane
  start : c.start = b.start
  finish : c.finish = b.finish
  reserved : c.reserved = b.reserved
  opens : c.state.terminal = false → b.state.terminal = false

theorem Booking.Continues.refl (b : Booking) : b.Continues b := ⟨rfl, rfl, rfl, rfl, rfl, fun running => running⟩

theorem Booking.Continues.trans {b c d : Booking} (h : d.Continues c) (h' : c.Continues b) : d.Continues b :=
  ⟨h.id.trans h'.id, h.crane.trans h'.crane, h.start.trans h'.start, h.finish.trans h'.finish,
    h.reserved.trans h'.reserved, h'.opens ∘ h.opens⟩

/-- A change of an open record. -/
theorem Booking.Continues.changed {b c : Booking} (h : c.Continues b) (running : b.state.terminal = false) (clock n : Nat)
    (state : BookingState) (cause : BookingCause) : (c.changed clock n state cause).Continues b :=
  ⟨h.id, h.crane, h.start, h.finish, h.reserved, fun _ => running⟩

/-- Going from `s` to `t` no record has joined the table, and each one left in it continues one of `s`. -/
structure State.TableKept (s t : State) : Prop where
  ids : (t.bookings.map (·.id)).Sublist (s.bookings.map (·.id))
  records : ∀ c ∈ t.bookings, ∃ b ∈ s.bookings, c.Continues b
  nextId : t.nextId = s.nextId

/-- Such a table is as sound as it was. -/
theorem State.TableKept.bookingsOk {s t : State} (h : s.TableKept t) (ok : s.bookingsOk) : t.bookingsOk := by
  obtain ⟨few, ascends, range, low, high, apart⟩ := ok
  refine ⟨?_, ?_, fun c hc => ?_, h.nextId ▸ low, h.nextId ▸ high, fun c hc d hd => ?_⟩
  · simpa using h.ids.length_le.trans_eq (List.length_map ..) |>.trans few
  · exact List.pairwise_map.mp ((List.pairwise_map.mpr ascends).sublist h.ids)
  · obtain ⟨b, hb, same⟩ := h.records c hc
    exact same.id ▸ range b hb
  · obtain ⟨b, hb, first⟩ := h.records c hc
    obtain ⟨e, he, second⟩ := h.records d hd
    rw [first.id, second.id, first.start, first.finish, second.start, second.finish, first.crane, second.crane,
      first.reserved, second.reserved]
    exact fun other running running' => apart b hb e he other (first.opens running) (second.opens running')

/-! The lemmas in this namespace are named after the operation that keeps the table. -/

namespace State.TableKept

section
variable {s t u : State}

theorem of_eq (bookings : t.bookings = s.bookings) (nextId : t.nextId = s.nextId) : s.TableKept t :=
  ⟨bookings ▸ .refl _, fun c hc => ⟨c, bookings ▸ hc, .refl c⟩, nextId⟩

theorem refl (s : State) : s.TableKept s := of_eq rfl rfl

theorem of_within {ps : List Part} (h : Within ps s t) (apart : ∀ p ∈ [Part.bookings, .nextId], p ∉ ps) : s.TableKept t :=
  of_eq (h.same .bookings (apart _ (by decide))) (h.same .nextId (apart _ (by decide)))

theorem trans (h : s.TableKept t) (h' : t.TableKept u) : s.TableKept u := by
  refine ⟨h'.ids.trans h.ids, fun d hd => ?_, h'.nextId.trans h.nextId⟩
  obtain ⟨c, hc, later⟩ := h'.records d hd
  obtain ⟨b, hb, sooner⟩ := h.records c hc
  exact ⟨b, hb, later.trans sooner⟩

theorem ite {c : Prop} [Decidable c] (h : s.TableKept t) (h' : s.TableKept u) : s.TableKept (if c then t else u) := by
  split
  · exact h
  · exact h'

theorem foldl {α : Type} {f : State → α → State} (h : ∀ u a, TableKept u (f u a)) (l : List α) :
    ∀ s : State, s.TableKept (l.foldl f s) := by
  induction l with
  | nil => exact refl
  | cons a l ih => exact fun s => (h s a).trans (ih _)

/-- A record that continues an open one of the table is put in the place of its id. -/
theorem replace {b c : Booking} (hb : b ∈ s.bookings) (hc : c.Continues b)
    (bookings : t.bookings = s.bookings.map (fun d => if d.id = b.id then c else d)) (nextId : t.nextId = s.nextId) :
    s.TableKept t := by
  refine ⟨?_, fun d hd => ?_, nextId⟩
  · have same : t.bookings.map (·.id) = s.bookings.map (·.id) := by
      rw [bookings, List.map_map]
      refine List.map_congr_left fun d _ => ?_
      by_cases named : d.id = b.id <;> simp [named, hc.id]
    exact same ▸ .refl _
  · rw [bookings] at hd
    obtain ⟨e, he, rfl⟩ := List.mem_map.mp hd
    split
    · exact ⟨b, hb, hc⟩
    · exact ⟨e, he, .refl e⟩

/-! ## The Booking Scheduler -/

/-- An open booking is changed, and has been so before. -/
theorem go {b c : Booking} (hb : b ∈ s.bookings) (running : b.state.terminal = false) (h : s.TableKept t)
    (hc : c.Continues b) (state : BookingState) (cause : BookingCause) : s.TableKept (t.go c state cause) := by
  have within := t.go_within c state cause
  refine ⟨?_, fun d hd => ?_, (within.same .nextId (by decide)).trans h.nextId⟩
  · have same : (t.go c state cause).bookings.map (·.id) = t.bookings.map (·.id) := t.ids_run [(state, cause)] c
    exact same ▸ h.ids
  · rw [State.bookings_go] at hd
    obtain ⟨e, he, rfl⟩ := List.mem_map.mp hd
    split
    · exact ⟨b, hb, hc.changed running ..⟩
    · exact h.records e he

theorem run {b : Booking} (hb : b ∈ s.bookings) (running : b.state.terminal = false)
    (steps : List (BookingState × BookingCause)) : ∀ {t : State} {c : Booking}, s.TableKept t → c.Continues b →
      s.TableKept (t.run c steps) := by
  induction steps with
  | nil => exact fun h _ => h
  | cons p rest ih => exact fun h hc => ih (go hb running h hc p.1 p.2) (hc.changed running ..)

variable (s)

/-- A review changes an open booking alone. -/
theorem review (wrap : Bool) (id : Nat) : s.TableKept (State.review wrap s id) := by
  cases valid : s.clockValid
  · rw [State.review_of_unset valid]
    exact refl s
  · cases found : s.booking id with
    | none =>
      simp only [State.review, valid, found, Bool.not_true]
      exact refl s
    | some b =>
      rw [State.review_eq s wrap _ valid found]
      cases running : b.state.terminal
      · exact run (List.mem_of_find?_eq_some found) running _ (refl s) (.refl b)
      · have nothing : ∀ clear, s.verdict wrap b clear = [] := by
          unfold State.verdict
          cases ended : b.state <;> simp_all [BookingState.terminal]
        rw [nothing]
        exact refl s

theorem reviewAll (wrap : Bool) (order : List Nat) (p : Booking → Bool) : s.TableKept (s.reviewAll wrap order p) :=
  foldl (fun u id => review u wrap id) _ s

theorem cancelInProgress (cause : BookingCause) (events : Bool) (id : Nat) :
    s.TableKept (State.cancelInProgress cause events s id) := by
  unfold State.cancelInProgress
  split
  · exact refl s
  · rename_i b found
    split
    · rename_i underway
      have running : b.state.terminal = false := by
        cases state : b.state <;> simp_all [BookingState.inProgress, BookingState.terminal]
      have changed : s.TableKept (s.changeState b .cancelled cause) :=
        replace (List.mem_of_find?_eq_some found) ((Booking.Continues.refl b).changed running s.clock s.termSeq _ cause)
          rfl rfl
      exact ite (changed.trans (of_within (State.emit_within ..) (by decide))) changed
    · exact refl s

theorem cancelAll (cause : BookingCause) (events : Bool) : s.TableKept (s.cancelAll cause events) :=
  foldl (fun u id => cancelInProgress u cause events id) _ s

/-! ## Requests, notices, the clock and the restart -/

theorem setupRequest : s.TableKept s.setupRequest.state := by
  refine Answer.ite_keeps (refl s) ?_
  have cleared : s.TableKept (s.setMode .setup).clearZones :=
    (of_within (State.setMode_within ..) (by decide)).trans (of_within (State.clearZones_within _) (by decide))
  exact (cleared.trans (cancelAll ..)).trans (of_eq rfl rfl)

theorem cancelRequest {b : Booking} (hb : b ∈ s.bookings) : s.TableKept (s.cancelRequest b).state := by
  unfold State.cancelRequest
  split
  · exact refl s
  · rename_i unended
    have running : b.state.terminal = false := by simpa using unended
    rw [State.cancelBooking_eq running]
    exact go hb running (refl s) (.refl b) ..

theorem bookingRemoveRequest (b : Booking) : s.TableKept (s.bookingRemoveRequest b).state :=
  Answer.ite_keeps ⟨List.filter_sublist.map _, fun c hc => ⟨c, List.mem_of_mem_filter hc, .refl c⟩, rfl⟩ (refl s)

theorem deliver (p : Notice → Bool) (act : Notice → State → State) (h : ∀ n u, TableKept u (act n u)) :
    s.TableKept (s.deliver p act) := by
  unfold State.deliver
  split
  · exact refl s
  · rename_i n rest _
    exact (of_eq rfl rfl : s.TableKept { s with notices := rest }).trans (h n _)

theorem linkChanged (k : Crane) (old new : LinkState) (order : List Nat) :
    s.TableKept (s.linkChanged k old new order) := by
  have told : s.TableKept ((s.linkZones k old new).sourced k old new) :=
    (of_within (s.linkZones_within k old new) (by decide)).trans
      (of_within ((s.linkZones k old new).sourced_within k old new) (by decide))
  exact ite (told.trans (reviewAll ..)) told

theorem secondPasses (order : List Nat) : s.TableKept (s.secondPasses order) := by
  have counted : s.TableKept { s.reach s.clockDue with
      clock := s.clockNext, clockDue := s.clockDue + BitVec.ofNat 32 Config.second } :=
    (of_within (s.reach_within s.clockDue) (by decide)).trans (of_eq rfl rfl)
  exact counted.trans (reviewAll ..)

theorem restart : s.TableKept s.restart := by
  unfold State.restart
  dsimp only
  have cancelled := cancelAll s .restart false
  refine TableKept.trans ?_ (of_within (State.emit_within ..) (by decide))
  refine TableKept.trans ?_ (of_within (State.modPort_within ..) (by decide))
  refine TableKept.trans ?_ (of_within (State.restarted_within ..) (by decide))
  exact cancelled.trans (of_eq rfl rfl)

theorem replySent : s.TableKept s.replySent := by
  have sent : ∀ f, s.TableKept (s.modPort f) := fun f => of_within (s.modPort_within f) (by decide)
  exact ite (ite ((sent _).trans (restart _)) (sent _)) (refl s)

end

end State.TableKept

/-! ## Admission (R107 to R109) -/

section
variable {s : State} (ok : s.bookingsOk)
include ok

/-- A request that clashes with nothing joins a table with room for it. -/
theorem State.enterBooking_bookingsOk {q : BookRequest} (clear : s.bookings.any q.clashes = false)
    (room : s.bookings.length < 32 ∨ ∃ b ∈ s.bookings, b.state.terminal = true) : (s.enterBooking q).bookingsOk := by
  obtain ⟨few, ascends, range, low, high, apart⟩ := ok
  have left := s.afterEviction_sublist
  have space := State.length_afterEviction_lt few room
  have fresh : ∀ c ∈ s.afterEviction, c.id ≠ s.idToGive := freeId_free low high space
  have given : 1 ≤ s.idToGive ∧ s.idToGive ≤ 65535 := freeId_range low high 32
  have mild := (s.clashes_any_eq_false_iff q).mp clear
  unfold State.bookingsOk
  rw [State.bookings_enterBooking, State.nextId_enterBooking]
  refine ⟨?_, insertBooking_ascends (ascends.sublist left) fresh, fun c hc => ?_, (idAfter_range given.2).1,
    (idAfter_range given.2).2, fun c hc d hd => ?_⟩
  · rw [length_insertBooking]
    exact space
  · rcases mem_insertBooking.mp hc with rfl | old
    · exact given
    · exact range c (left.subset old)
  · rcases mem_insertBooking.mp hc with rfl | oldC <;> rcases mem_insertBooking.mp hd with rfl | oldD
    · exact fun other => absurd rfl other
    · intro _ _ running before after
      obtain ⟨crane, zones⟩ := mild d (left.subset oldD) running after before
      exact ⟨fun same => crane same.symm, fun z hz hz' => zones z hz' hz⟩
    · exact fun _ running _ => mild c (left.subset oldC) running
    · exact apart c (left.subset oldC) d (left.subset oldD)

theorem State.bookRequest_bookingsOk (q : BookRequest) : (s.bookRequest q).state.bookingsOk := by
  refine Answer.ite_keeps ok (Answer.ite_keeps ok ?_)
  split
  · exact ok
  · rename_i clear
    split
    · exact ok
    · rename_i full
      refine State.enterBooking_bookingsOk ok (by simpa using clear) (or_iff_not_imp_left.mpr fun large => ?_)
      simpa [Config.bookingCapacity, Nat.not_lt.mp large] using full

/-! ## Every command -/

theorem State.serve_bookingsOk (f : Frame) {own : State → Answer}
    (h : ∀ u : State, u.bookingsOk → (own u).state.bookingsOk) : (s.serve f own).bookingsOk := by
  unfold State.serve
  split
  · exact h s.taken ok
  · exact ok

/-- A request of the length asked for, or refused for its length. -/
theorem State.request_bookingsOk {f : Frame} {n : Nat} {p : List Byte} {own : State → Answer}
    (h : ∀ u : State, u.bookingsOk → (own u).state.bookingsOk) : (s.serve f (withLength n p own)).bookingsOk :=
  State.serve_bookingsOk ok f fun u hu => Answer.ite_keeps (h u hu) hu

/-- A request that names a booking, whose owner meets a booking of the table alone. -/
theorem withBooking_bookingsOk (id : Nat) {own : Booking → State → Answer}
    (h : ∀ b ∈ s.bookings, s.TableKept (own b s).state) : (withBooking id own s).state.bookingsOk := by
  refine Answer.ite_keeps ok ?_
  split
  · exact ok
  · rename_i b found
    exact (h b (List.mem_of_find?_eq_some found)).bookingsOk ok

end

/-- Every command keeps the table: most leave it alone, the scheduler changes open records, and BOOK adds one that clashes
with none. -/
theorem exec_bookingsOk {c : Instr} {s t : State} (hs : s.bookingsOk) (h : exec c s = .next t) : t.bookingsOk := by
  obtain ⟨u, hu, within⟩ := exec_completes_within c s
  obtain rfl : t = u := Host.Outcome.next.inj (h.symm.trans hu)
  by_cases apart : ∀ p ∈ [Part.bookings, .nextId], p ∉ touches c
  · exact (State.TableKept.of_within within apart).bookingsOk hs
  cases c <;> dsimp only [touches] at apart <;> obtain rfl := Host.Outcome.next.inj h
  case powerOn => exact State.reset_bookingsOk
  case replySent => exact (State.TableKept.replySent s).bookingsOk hs
  case setup => exact State.request_bookingsOk hs fun u hu => (State.TableKept.setupRequest u).bookingsOk hu
  case book =>
    refine State.request_bookingsOk hs fun u hu => ?_
    split
    · exact hu
    · exact State.bookRequest_bookingsOk hu _
  case cancel =>
    exact State.request_bookingsOk hs fun u hu => withBooking_bookingsOk hu _ fun _ => .cancelRequest u
  case bookingRemove =>
    exact State.request_bookingsOk hs fun u hu => withBooking_bookingsOk hu _ fun b _ => .bookingRemoveRequest u b
  case linkNotice k order =>
    refine (State.TableKept.deliver s _ _ fun n u => ?_).bookingsOk hs
    cases n
    case link => exact .linkChanged u ..
    all_goals exact .refl u
  case levelNotice | serviceNotice | modeNotice | clockNotice | insideLeftNotice =>
    exact (State.TableKept.deliver s _ _ fun _ u => .reviewAll u ..).bookingsOk hs
  case clearanceNotice => exact (State.TableKept.deliver s _ _ fun _ u => .review u ..).bookingsOk hs
  case clockSecond order => exact (State.TableKept.secondPasses s order).bookingsOk hs
  all_goals exact absurd (by decide) apart

/-- Settles O12: an idle step leaves the table alone, and any other step is a command, which keeps it. -/
theorem bookingsNeverClash : Obligations.BookingsNeverClash := by
  intro s t hs h
  unfold step at h
  split at h
  · cases h
    exact hs
  · rename_i rest _
    have ok : ({ s with pending := rest } : State).bookingsOk := hs
    exact exec_bookingsOk ok h

end Sys2Proof.Machine
end

section
/-! SUPPORT. BOOKING_REMOVE (R124) and EVENTS (R174). -/

namespace Sys2Proof.Machine

section
variable {s : State} {seq hi lo : Byte}

theorem exec_bookingRemove (ht : s.takes 0x3C seq [hi, lo]) : exec (.bookingRemove seq [hi, lo]) s =
    .next ((withBooking (hi.toNat * 256 + lo.toNat) (fun b u => u.bookingRemoveRequest b) s.taken).sent 0x3C seq) :=
  congrArg _ (State.serve_withLength _ ht rfl)

theorem exec_events (ht : s.takes 0x40 seq []) : exec (.events seq []) s =
    .next (s.taken.eventsRequest.sent 0x40 seq) := congrArg _ (State.serve_withLength _ ht rfl)

end

/-- What EVENTS answers (R174). -/
theorem State.eventsRequest_eq (s : State) : s.eventsRequest =
    ({ s with events := s.events.drop 8, overflow := false } : State).done
      (put1 (min 8 s.events.length) ++ [flagOctet s.overflow] ++ put1 (s.events.length - 8) ++
        ((s.events.take 8).map Event.octets).flatten) := by
  simp only [State.eventsRequest, Config.eventsPerReply, List.length_take, List.length_drop, putFlag_eq]

/-- Settles O40: BOOKING_REMOVE by the booking that its id names, EVENTS octet by octet. -/
theorem removalAndReadingOfEvents : Obligations.RemovalAndReadingOfEvents := by
  refine ⟨fun s seq hi lo ht => ⟨fun hid => ?_, fun hid absent => ?_⟩, fun s seq hi lo b ht hid found => ?_,
    fun s seq ht => ?_⟩
  · rw [exec_bookingRemove ht, hid]
    rfl
  · rw [exec_bookingRemove ht, withBooking_absent (s := s.taken) hid absent]
    rfl
  · rw [exec_bookingRemove ht, withBooking_found (s := s.taken) hid found, State.bookingRemoveRequest]
    refine ⟨fun running => ?_, fun terminal => ?_⟩
    · rw [if_neg (by simp [running])]
      rfl
    · rw [if_pos terminal]
      rfl
  · rw [exec_events ht, State.eventsRequest_eq]
    rfl

end Sys2Proof.Machine
end

section
/-! SUPPORT. The request that a BOOK payload carries (R107 check 1, R179, R188), read octet by octet. -/

namespace Sys2Proof.Machine

/-! ## Reading on from an octet, and what was read -/

theorem oct2_lt (p : List Byte) (i : Nat) : oct2 p i < 65536 := by
  have high := oct_lt p i
  have low := oct_lt p (i + 1)
  unfold oct2
  omega

theorem oct4_lt (p : List Byte) (i : Nat) : oct4 p i < 4294967296 := by
  have high := oct2_lt p i
  have low := oct2_lt p (i + 2)
  unfold oct4
  omega

/-- Two octets carry a number modulo 65536. -/
theorem put2_mod (n : Nat) : put2 (n % 65536) = put2 n := by
  refine congrArg₂ (fun x y => [x, y]) (BitVec.eq_of_toNat_eq ?_) (BitVec.eq_of_toNat_eq ?_)
  · simp
    omega
  · simp

section
variable {p r : List Byte} {i j n : Nat}

theorem oct_drop (p : List Byte) (i j : Nat) : oct (p.drop i) j = oct p (i + j) := by
  simp [oct, List.getD_eq_getElem?_getD]

theorem drop_of_append {l : List Byte} (hj : i + l.length = j) (h : p.drop i = l ++ r) : p.drop j = r := by
  rw [← hj, ← List.drop_drop, h, List.drop_left]

theorem oct_of_drop {o : Byte} (hj : i + 1 = j) (h : p.drop i = o :: r) : oct p i = o.toNat ∧ p.drop j = r := by
  refine ⟨?_, drop_of_append (l := [o]) hj h⟩
  rw [← Nat.add_zero i, ← oct_drop, h, oct_cons_zero]

theorem oct2_of_drop (hn : n < 65536) (hj : i + 2 = j) (h : p.drop i = put2 n ++ r) : oct2 p i = n ∧ p.drop j = r := by
  refine ⟨?_, drop_of_append hj h⟩
  rw [← oct2_put2 hn r, ← h]
  simp only [oct2, oct_drop, Nat.add_zero, Nat.zero_add]

theorem oct4_of_drop (hn : n < 4294967296) (hj : i + 4 = j) (h : p.drop i = put4 n ++ r) :
    oct4 p i = n ∧ p.drop j = r := by
  refine ⟨?_, drop_of_append hj h⟩
  rw [← oct4_put4 hn r, ← h]
  simp only [oct4, oct2, oct_drop, Nat.add_zero, Nat.zero_add, Nat.add_assoc]

theorem octs_of_drop {l : List Byte} (hn : l.length = n) (hj : i + n = j) (h : p.drop i = l ++ r) :
    octs p i n = l.map BitVec.toNat ∧ p.drop j = r := by
  subst hn
  refine ⟨List.ext_getElem (by simp [octs]) fun m hm _ => ?_, drop_of_append hj h⟩
  have inside : m < l.length := by simpa [octs] using hm
  have read : oct p (i + m) = oct l m := by rw [← oct_drop, h, oct_append_left _ _ _ inside]
  simpa [octs, oct, List.getD_eq_getElem?_getD, inside] using read

theorem drop_eq_oct (hj : i + 1 = j) (h : j ≤ p.length) : p.drop i = BitVec.ofNat 8 (oct p i) :: p.drop j := by
  subst hj
  rw [List.drop_eq_getElem_cons h]
  simp [oct, List.getD_eq_getElem?_getD, Nat.lt_of_succ_le h]

theorem drop_eq_oct2 (hj : i + 2 = j) (h : j ≤ p.length) : p.drop i = put2 (oct2 p i) ++ p.drop j := by
  have octet : ∀ j, (BitVec.ofNat 8 (oct p j) : Byte).toNat = oct p j := fun j => by
    rw [BitVec.toNat_ofNat, Nat.mod_eq_of_lt (oct_lt p j)]
  have pair := put2_oct2 (BitVec.ofNat 8 (oct p i)) (BitVec.ofNat 8 (oct p (i + 1)))
  rw [octet, octet] at pair
  rw [oct2, pair, drop_eq_oct (j := i + 1) rfl (by omega), drop_eq_oct (j := j) (by omega) h]
  rfl

theorem drop_eq_oct4 (hj : i + 4 = j) (h : j ≤ p.length) : p.drop i = put4 (oct4 p i) ++ p.drop j := by
  have low := oct2_lt p (i + 2)
  have high : (oct2 p i * 65536 + oct2 p (i + 2)) / 65536 = oct2 p i := by omega
  have rest : put2 (oct2 p i * 65536 + oct2 p (i + 2)) = put2 (oct2 p (i + 2)) := by
    rw [← put2_mod, show (oct2 p i * 65536 + oct2 p (i + 2)) % 65536 = oct2 p (i + 2) by omega]
  rw [oct4, put4, high, rest, List.append_assoc, drop_eq_oct2 (j := i + 2) rfl (by omega), drop_eq_oct2 (j := j) (by omega) h]

theorem drop_eq_octs (hj : i + n = j) (h : j ≤ p.length) :
    p.drop i = (octs p i n).map (BitVec.ofNat 8) ++ p.drop j := by
  induction n generalizing j with
  | zero => rw [← hj]; rfl
  | succ n ih =>
    have more : octs p i (n + 1) = octs p i n ++ [oct p (i + n)] := by simp [octs, List.range_succ]
    rw [ih (j := i + n) rfl (by omega), drop_eq_oct (j := j) (by omega) h, more]
    simp

end

/-! ## Zones listed by their numbers -/

theorem map_pick_eq_iff {m : Nat} {l : List Nat} {r : List (Fin m)} : l.map pick = r.map some ↔ l = r.map number := by
  induction l generalizing r with
  | nil => cases r <;> simp
  | cons n l ih =>
    cases r with
    | nil => simp
    | cons i r => simp [ih, pick_eq_some_iff]

/-- A set listed in any order is read in ascending order. -/
theorem ascending_of_perm {n : Nat} {l m : List (Fin n)} (h : l.Perm m) (hm : m.Pairwise (· < ·)) : ascending l = m :=
  ((ascending_perm (h.nodup_iff.mpr (hm.imp ne_of_lt))).trans h).eq_of_pairwise
    (fun _ _ _ _ h h' => absurd (h.trans h') (lt_irrefl _)) (ascending_ascends l) hm

/-- The octets of the zones' numbers. -/
def zoneOctets (l : List Zone) : List Byte := l.map (fun z => BitVec.ofNat 8 (number z))

theorem zoneOctets_length (l : List Zone) : (zoneOctets l).length = l.length := List.length_map ..

theorem zoneOctets_toNat (l : List Zone) : (zoneOctets l).map BitVec.toNat = l.map number := by
  rw [zoneOctets, List.map_map]
  exact List.map_congr_left fun z _ => toNat_zoneNumber z

theorem zoneOctets_eq (l : List Zone) : zoneOctets l = (l.map number).map (BitVec.ofNat 8) := by
  rw [List.map_map]
  rfl

/-! ## The payload (11, Zone, wind and booking requests) -/

/-- The octets of a request whose zones are listed so, and whose limit's two octets carry `limit`. -/
def BookRequest.octets (q : BookRequest) (rs os : List Zone) (limit : Nat) : List Byte :=
  [BitVec.ofNat 8 (number q.crane)] ++ put4 q.start ++ put4 q.finish ++ BitVec.ofNat 8 rs.length :: zoneOctets rs ++
    BitVec.ofNat 8 os.length :: zoneOctets os ++ [if q.windLimit = none then 0 else 1] ++ put2 limit ++
    BitVec.ofNat 8 q.label.length :: q.label

/-- What is read from these octets. -/
structure BookRequest.Read (q : BookRequest) (rs os : List Zone) (limit : Nat) (p : List Byte) : Prop where
  crane : oct p 0 = number q.crane
  start : oct4 p 1 = q.start
  finish : oct4 p 5 = q.finish
  reservedCount : oct p 9 = rs.length
  reserved : octs p 10 rs.length = rs.map number
  openedCount : oct p (10 + rs.length) = os.length
  opened : octs p (11 + rs.length) os.length = os.map number
  present : oct p (11 + rs.length + os.length) = if q.windLimit = none then 0 else 1
  limit : oct2 p (12 + rs.length + os.length) = limit
  labelLength : oct p (14 + rs.length + os.length) = q.label.length
  label : p.drop (15 + rs.length + os.length) = q.label

section
variable {q : BookRequest} {rs os : List Zone} {limit : Nat} {p : List Byte}

theorem BookRequest.octets_length : (q.octets rs os limit).length = 15 + rs.length + os.length + q.label.length := by
  simp only [BookRequest.octets, List.length_append, List.length_cons, List.length_nil, zoneOctets_length, put2_length,
    put4_length]
  omega

/-- Octets that carry a request are read as they were written. -/
theorem BookRequest.read_octets (start : q.start < 4294967296) (finish : q.finish < 4294967296) (few : rs.length < 256)
    (fewOpened : os.length < 256) (low : limit < 65536) (short : q.label.length < 256)
    (hp : p = q.octets rs os limit) : q.Read rs os limit p := by
  have octet : ∀ {n : Nat}, n < 256 → (BitVec.ofNat 8 n).toNat = n := fun h => by
    rw [BitVec.toNat_ofNat, Nat.mod_eq_of_lt h]
  have h0 : p.drop 0 = BitVec.ofNat 8 (number q.crane) :: (put4 q.start ++ (put4 q.finish ++
      BitVec.ofNat 8 rs.length :: (zoneOctets rs ++ BitVec.ofNat 8 os.length :: (zoneOctets os ++
      (if q.windLimit = none then 0 else 1) :: (put2 limit ++ BitVec.ofNat 8 q.label.length :: q.label))))) := by
    simp [hp, BookRequest.octets]
  obtain ⟨crane, h1⟩ := oct_of_drop rfl h0
  obtain ⟨start, h5⟩ := oct4_of_drop start rfl h1
  obtain ⟨finish, h9⟩ := oct4_of_drop finish rfl h5
  obtain ⟨reservedCount, h10⟩ := oct_of_drop rfl h9
  obtain ⟨reserved, hc⟩ := octs_of_drop (zoneOctets_length rs) rfl h10
  obtain ⟨openedCount, hz⟩ := oct_of_drop (j := 11 + rs.length) (by omega) hc
  obtain ⟨opened, hw⟩ := octs_of_drop (zoneOctets_length os) rfl hz
  obtain ⟨present, hl⟩ := oct_of_drop (j := 12 + rs.length + os.length) (by omega) hw
  obtain ⟨limit, hn⟩ := oct2_of_drop (j := 14 + rs.length + os.length) low (by omega) hl
  obtain ⟨labelLength, label⟩ := oct_of_drop (j := 15 + rs.length + os.length) (by omega) hn
  exact {
    crane := crane.trans (toNat_craneNumber _), start, finish, reservedCount := reservedCount.trans (octet few)
    reserved := reserved.trans (zoneOctets_toNat _), openedCount := openedCount.trans (octet fewOpened)
    opened := opened.trans (zoneOctets_toNat _), present := present.trans (by split <;> rfl), limit
    labelLength := labelLength.trans (octet short), label }

/-- Octets are written as they were read. -/
theorem BookRequest.Read.eq_octets (h : q.Read rs os limit p) (room : 15 + rs.length + os.length ≤ p.length) :
    p = q.octets rs os limit := by
  have flag : (BitVec.ofNat 8 (if q.windLimit = none then 0 else 1) : Byte) = if q.windLimit = none then 0 else 1 := by
    split <;> rfl
  calc p = p.drop 0 := rfl
    _ = q.octets rs os limit := by
      rw [drop_eq_oct (j := 1) rfl (by omega), drop_eq_oct4 (j := 5) rfl (by omega), drop_eq_oct4 (j := 9) rfl (by omega),
        drop_eq_oct (j := 10) rfl (by omega), drop_eq_octs (n := rs.length) rfl (by omega),
        drop_eq_oct (j := 11 + rs.length) (by omega) (by omega), drop_eq_octs (n := os.length) rfl (by omega),
        drop_eq_oct (j := 12 + rs.length + os.length) (by omega) (by omega),
        drop_eq_oct2 (j := 14 + rs.length + os.length) (by omega) (by omega),
        drop_eq_oct (j := 15 + rs.length + os.length) (by omega) room,
        h.crane, h.start, h.finish, h.reservedCount, h.reserved, h.openedCount, h.opened, h.present, h.limit, h.labelLength,
        h.label, flag]
      simp [BookRequest.octets, zoneOctets_eq]

/-- The checks of R107 (check 1) on what was read. -/
structure BookRequest.InRange (q : BookRequest) (rs os : List Zone) (limit : Nat) : Prop where
  order : q.start < q.finish
  span : q.finish - q.start ≤ 14400
  few : rs.length ≤ 4
  fewOpened : os.length ≤ 2
  distinct : (rs ++ os).Nodup
  nonempty : rs ++ os ≠ []
  limit : ∀ w, q.windLimit = some w → limit = w ∧ w ≤ 600
  short : q.label.length ≤ 16

/-- What is read as a request lists its zones, and its numbers are in range. -/
theorem BookRequest.read_of_bookOf (length : p.length = bookLength p) (h : bookOf p = some q) : ∃ rs os limit,
    q.Read rs os limit p ∧ q.InRange rs os limit ∧ q.reserved = ascending rs ∧ q.opened = ascending os := by
  unfold bookOf at h
  dsimp only at h
  split at h
  case h_2 => cases h
  case h_1 k rs os hk hr ho =>
  simp only [allSome_eq_some_iff, map_pick_eq_iff] at hr ho
  rw [pick_eq_some_iff] at hk
  have rc : oct p 9 = rs.length := by simpa [octs] using congrArg List.length hr
  have oc : oct p (10 + oct p 9) = os.length := by simpa [octs] using congrArg List.length ho
  simp only [bookLength] at length
  rw [oc, rc] at h ho length
  rw [rc] at hr oc
  split at h
  case isFalse => cases h
  case isTrue fits =>
  simp only [Bool.and_eq_true, decide_eq_true_eq] at fits
  obtain ⟨⟨⟨⟨⟨⟨⟨⟨order, span⟩, few⟩, fewOpened⟩, distinct⟩, nonempty⟩, flag⟩, wind⟩, short⟩ := fits
  obtain rfl := Option.some.inj h
  refine ⟨rs, os, oct2 p (12 + rs.length + os.length), ⟨hk, rfl, rfl, rc, hr, oc, ho, ?_, rfl, ?_, rfl⟩,
    ⟨order, span, few, fewOpened, distinct, by simpa using nonempty, fun w hw => ?_, ?_⟩, rfl, rfl⟩
  · rcases Nat.le_one_iff_eq_zero_or_eq_one.mp flag with present | present <;> simp [present]
  · rw [List.length_drop]
    omega
  · dsimp only at hw
    split at hw
    case isFalse => cases hw
    case isTrue present =>
    obtain rfl := Option.some.inj hw
    exact ⟨rfl, by simpa [present] using wind⟩
  · rw [List.length_drop]
    omega

/-- What lists zones and has its numbers in range is read as a request. -/
theorem bookOf_of_read (read : q.Read rs os limit p) (range : q.InRange rs os limit) (hr : q.reserved = ascending rs)
    (ho : q.opened = ascending os) : bookOf p = some q := by
  obtain ⟨order, span, few, fewOpened, distinct, nonempty, wind, short⟩ := range
  unfold bookOf
  dsimp only
  rw [read.reservedCount, read.openedCount, read.start, read.finish, read.present, read.limit, read.labelLength, read.label,
    pick_eq_some_iff.mpr read.crane, (allSome_eq_some_iff _ rs).mpr (map_pick_eq_iff.mpr read.reserved),
    (allSome_eq_some_iff _ os).mpr (map_pick_eq_iff.mpr read.opened)]
  obtain ⟨crane, start, finish, reserved, opened, windLimit, label⟩ := q
  obtain rfl : reserved = ascending rs := hr
  obtain rfl : opened = ascending os := ho
  dsimp only at *
  cases windLimit with
  | none => simp_all [Config.longestBooking]
  | some w =>
    obtain ⟨rfl, low⟩ := wind w rfl
    simp_all [Config.longestBooking]

/-- `carried` in terms of the octets of a request and of the checks on its numbers. -/
theorem BookRequest.carried_iff : q.carried p ↔ ∃ rs os limit, p = q.octets rs os limit ∧ q.finish < 2 ^ 32 ∧
    q.InRange rs os limit ∧ rs.Perm q.reserved ∧ q.reserved.Pairwise (· < ·) ∧ os.Perm q.opened ∧
    q.opened.Pairwise (· < ·) := by
  constructor
  · rintro ⟨rs, os, limit, hp, order, range, span, few, fewOpened, distinct, nonempty, hr, ar, ho, ao, wind, short⟩
    exact ⟨rs, os, limit, hp, range, ⟨order, span, few, fewOpened, distinct, nonempty, wind, short⟩, hr, ar, ho, ao⟩
  · rintro ⟨rs, os, limit, hp, range, ⟨order, span, few, fewOpened, distinct, nonempty, wind, short⟩, hr, ar, ho, ao⟩
    exact ⟨rs, os, limit, hp, order, range, span, few, fewOpened, distinct, nonempty, hr, ar, ho, ao, wind, short⟩

/-- What a payload that carries a request is read as; of a limit that is not present its two octets alone count. -/
theorem BookRequest.read_of_carried (h : q.carried p) : ∃ rs os limit, q.Read rs os limit p ∧ q.InRange rs os limit ∧
    q.reserved = ascending rs ∧ q.opened = ascending os ∧
    p.length = 15 + rs.length + os.length + q.label.length := by
  obtain ⟨rs, os, limit, hp, range, inRange, hr, ar, ho, ao⟩ := BookRequest.carried_iff.mp h
  obtain ⟨order, span, few, fewOpened, distinct, nonempty, wind, short⟩ := inRange
  have kept : ∀ w, q.windLimit = some w → limit % 65536 = w ∧ w ≤ 600 := fun w hw => by
    obtain ⟨same, low⟩ := wind w hw
    omega
  have written : p = q.octets rs os (limit % 65536) := by rw [hp, BookRequest.octets, BookRequest.octets, put2_mod]
  have read := BookRequest.read_octets (by omega) (by omega) (by omega) (by omega) (Nat.mod_lt _ (by decide)) (by omega) written
  refine ⟨rs, os, limit % 65536, read, ⟨order, span, few, fewOpened, distinct, nonempty, kept, short⟩,
    (ascending_of_perm hr ar).symm, (ascending_of_perm ho ao).symm, ?_⟩
  rw [written, BookRequest.octets_length]

/-- A payload that carries a request has the length it asks for (R179). -/
theorem BookRequest.length_of_carried (h : q.carried p) : p.length = bookLength p := by
  obtain ⟨rs, os, limit, read, -, -, -, length⟩ := BookRequest.read_of_carried h
  unfold bookLength
  dsimp only
  rw [length, read.reservedCount, read.openedCount, read.labelLength]

/-- A payload of the length it asks for is read as the request that it carries (R107 check 1). -/
theorem bookOf_eq_some_iff (length : p.length = bookLength p) : bookOf p = some q ↔ q.carried p := by
  constructor
  · intro h
    obtain ⟨rs, os, limit, read, range, hr, ho⟩ := BookRequest.read_of_bookOf length h
    have distinct := List.nodup_append.mp range.distinct
    refine BookRequest.carried_iff.mpr ⟨rs, os, limit, read.eq_octets ?_, read.finish ▸ oct4_lt p 5, range, ?_, ?_, ?_, ?_⟩
    · unfold bookLength at length
      dsimp only at length
      rw [read.reservedCount, read.openedCount] at length
      omega
    · exact hr ▸ (ascending_perm distinct.1).symm
    · exact hr ▸ ascending_ascends rs
    · exact ho ▸ (ascending_perm distinct.2.1).symm
    · exact ho ▸ ascending_ascends os
  · intro h
    obtain ⟨rs, os, limit, read, range, hr, ho, -⟩ := BookRequest.read_of_carried h
    exact bookOf_of_read read range hr ho

end

end Sys2Proof.Machine
end

section
/-! SUPPORT. BOOK (R107 to R109): its checks in order, the record that makes room, and the admission. -/

namespace Sys2Proof.Machine

/-! ## The checks (R107, R108) -/

section
variable (s : State) (q : BookRequest)

/-- The crane or a zone is not defined (check 2). -/
def State.bookUnknown : Prop := s.crane q.crane = none ∨ ∃ z, (z ∈ q.reserved ∨ z ∈ q.opened) ∧ s.zoneDef z = none

/-- A zone is of the wrong kind, or has no face of the crane (check 3). -/
def State.bookUnsuited : Prop := (∃ z ∈ q.reserved, s.isShared z = false ∨ s.faceIn q.crane z = none) ∨
  ∃ z ∈ q.opened, s.isShared z = true ∨ s.faceIn q.crane z = none

/-- An open booking shares a second with the request, and the crane or a reserved zone (check 4). -/
def State.bookClash : Prop := ∃ b ∈ s.bookings, b.state.terminal = false ∧ b.start < q.finish ∧ q.start < b.finish ∧
  (b.crane = q.crane ∨ ∃ z ∈ b.reserved, z ∈ q.reserved)

theorem State.bookUnknown_iff : ((s.crane q.crane).isNone || (q.reserved ++ q.opened).any (fun z => (s.zoneDef z).isNone)) =
    true ↔ s.bookUnknown q := by
  simp only [State.bookUnknown, Bool.or_eq_true, Option.isNone_iff_eq_none, List.any_eq_true, List.mem_append]

theorem State.faceIn_of_undefined {s : State} {z : Zone} (k : Crane) (h : s.zoneDef z = none) : s.faceIn k z = none := by
  rw [State.faceIn, h]

/-- A zone that suits is of the kind asked for and holds a face of the crane. -/
theorem State.zoneSuits_eq_false_iff (k : Crane) (kind : ZoneKind) (z : Zone) :
    s.zoneSuits k kind z = false ↔ s.isShared z = (kind == .restricted) ∨ s.faceIn k z = none := by
  unfold State.zoneSuits State.isShared State.faceIn
  cases s.zoneDef z with
  | none => simp
  | some d =>
    dsimp only
    generalize d.faces.find? (fun f => f.crane == k) = face
    cases face with
    | none => simp
    | some f => cases kind <;> cases other : d.kind <;> simp [other]

theorem State.bookUnsuited_iff :
    (!(q.reserved.all (s.zoneSuits q.crane .shared) && q.opened.all (s.zoneSuits q.crane .restricted))) = true ↔
      s.bookUnsuited q := by
  have shared := fun z => s.zoneSuits_eq_false_iff q.crane .shared z
  have restricted := fun z => s.zoneSuits_eq_false_iff q.crane .restricted z
  simp only [State.bookUnsuited, Bool.not_and, Bool.or_eq_true, List.not_all_eq_any_not, List.any_eq_true, Bool.not_eq_true',
    shared, restricted]
  rfl

theorem State.bookClash_iff : s.bookings.any q.clashes = true ↔ s.bookClash q := by
  simp only [State.bookClash, List.any_eq_true, BookRequest.clashes_iff]

variable {s q}

theorem State.bookRequest_of_unknown (h : s.bookUnknown q) : s.bookRequest q = s.refuse .refusedRef :=
  if_pos ((s.bookUnknown_iff q).mpr h)

theorem State.bookRequest_of_unsuited (known : ¬ s.bookUnknown q) (h : s.bookUnsuited q) :
    s.bookRequest q = s.refuse .refusedRange :=
  (if_neg (mt (s.bookUnknown_iff q).mp known)).trans (if_pos ((s.bookUnsuited_iff q).mpr h))

theorem State.bookRequest_of_clash (known : ¬ s.bookUnknown q) (suited : ¬ s.bookUnsuited q) (h : s.bookClash q) :
    s.bookRequest q = s.refuse .refusedClash :=
  (if_neg (mt (s.bookUnknown_iff q).mp known)).trans ((if_neg (mt (s.bookUnsuited_iff q).mp suited)).trans
    (if_pos ((s.bookClash_iff q).mpr h)))

/-- The last check is for a place in the table (check 5). -/
theorem State.bookRequest_of_fit (known : ¬ s.bookUnknown q) (suited : ¬ s.bookUnsuited q) (clear : ¬ s.bookClash q) :
    s.bookRequest q = if 32 ≤ s.bookings.length ∧ ∀ b ∈ s.bookings, b.state.terminal = false then s.refuse .refusedFull
      else (s.enterBooking q).done (put2 (s.admitted q).id ++ put4 (s.admitted q).deadline ++
        put2 ((s.evicted.map (·.id)).getD 0)) := by
  refine (if_neg (mt (s.bookUnknown_iff q).mp known)).trans ((if_neg (mt (s.bookUnsuited_iff q).mp suited)).trans
    ((if_neg (mt (s.bookClash_iff q).mp clear)).trans ?_))
  have full : (decide (Config.bookingCapacity ≤ s.bookings.length) && s.bookings.all (fun b => !b.state.terminal)) = true ↔
      32 ≤ s.bookings.length ∧ ∀ b ∈ s.bookings, b.state.terminal = false := by
    simp only [Bool.and_eq_true, List.all_eq_true, Bool.not_eq_true']
    exact and_congr_left' decide_eq_true_iff
  simp only [full]
  cases s.evicted <;> rfl

end

/-! ## The record that makes room (R109 step 1) -/

theorem evictedBefore_eq_false_iff (b c : Booking) : evictedBefore c b = false ↔
    b.terminal.getD 0 < c.terminal.getD 0 ∨ (b.terminal.getD 0 = c.terminal.getD 0 ∧ b.termSeq ≤ c.termSeq) := by
  simp [evictedBefore]
  omega

/-- The record that is evicted is terminal, and none is evicted before it. -/
theorem evictee_first {l : List Booking} {v : Booking} (h : evictee l = some v) : v.state.terminal = true ∧
    ∀ c ∈ l, c.state.terminal = true → evictedBefore c v = false := by
  induction l generalizing v with
  | nil => cases h
  | cons b l ih =>
    unfold evictee at h
    split at h
    case isFalse running =>
      obtain ⟨terminal, first⟩ := ih h
      exact ⟨terminal, List.forall_mem_cons.mpr ⟨fun ended => absurd ended running, first⟩⟩
    case isTrue ended =>
    split at h
    case h_1 alone =>
      obtain rfl := Option.some.inj h
      refine ⟨ended, List.forall_mem_cons.mpr ⟨fun _ => by simp [evictedBefore], fun c hc terminal => ?_⟩⟩
      exact absurd alone (evictee_ne_none ⟨c, hc, terminal⟩)
    case h_2 w found =>
      obtain ⟨last, first⟩ := ih found
      split at h
      case isTrue before =>
        obtain rfl := Option.some.inj h
        refine ⟨last, List.forall_mem_cons.mpr ⟨fun _ => ?_, first⟩⟩
        rw [evictedBefore_eq_false_iff]
        simp [evictedBefore] at before
        omega
      case isFalse later =>
        obtain rfl := Option.some.inj h
        refine ⟨ended, List.forall_mem_cons.mpr ⟨fun _ => by simp [evictedBefore], fun c hc terminal => ?_⟩⟩
        have second := first c hc terminal
        rw [Bool.not_eq_true, evictedBefore_eq_false_iff] at later
        rw [evictedBefore_eq_false_iff] at second ⊢
        omega

section
variable {s : State}

theorem State.evicted_of_room (room : s.bookings.length < 32) : s.evicted = none := if_pos room

theorem State.afterEviction_of_room (room : s.bookings.length < 32) : s.afterEviction = s.bookings := by
  rw [State.afterEviction, State.evicted_of_room room]

theorem State.evicted_of_full (full : s.bookings.length = 32) : s.evicted = evictee s.bookings :=
  if_neg (by simp [full, Config.bookingCapacity])

/-- An id names one record of a table in ascending id. -/
theorem eq_of_id_eq {l : List Booking} (ascends : l.Pairwise (fun b c => b.id < c.id)) {b c : Booking} (hb : b ∈ l) (hc : c ∈ l)
    (h : b.id = c.id) : b = c :=
  List.inj_on_of_nodup_map (List.pairwise_map.mpr (ascends.imp ne_of_lt)) hb hc h

theorem State.afterEviction_of_full {v : Booking} (full : s.bookings.length = 32)
    (ascends : s.bookings.Pairwise (fun b c => b.id < c.id)) (hv : evictee s.bookings = some v) :
    s.afterEviction = s.bookings.erase v := by
  have distinct : s.bookings.Nodup := ascends.imp fun h same => absurd (congrArg Booking.id same) h.ne
  unfold State.afterEviction
  rw [State.evicted_of_full full, hv, distinct.erase_eq_filter]
  refine List.filter_congr fun b hb => ?_
  rw [Bool.eq_iff_iff, bne_iff_ne, bne_iff_ne]
  exact not_congr ⟨eq_of_id_eq ascends hb (mem_of_evictee hv), congrArg Booking.id⟩

end

/-! ## The request -/

section
variable {s : State} {seq : Byte} {p : List Byte} {q : BookRequest}

theorem exec_book_of_unread (ht : s.takes 0x38 seq p) (length : p.length = bookLength p) (unread : bookOf p = none) :
    exec (.book seq p) s = .next (s.refused 0x38 seq .refusedRange) := by
  refine congrArg _ ((State.serve_withLength _ ht length).trans ?_)
  rw [unread]
  rfl

theorem exec_book (ht : s.takes 0x38 seq p) (h : q.carried p) :
    exec (.book seq p) s = .next ((s.taken.bookRequest q).sent 0x38 seq) := by
  have length := BookRequest.length_of_carried h
  refine congrArg _ ((State.serve_withLength _ ht length).trans ?_)
  rw [(bookOf_eq_some_iff length).mpr h]

end

/-- Settles O37: what is read of the payload, the checks in their order, and the admission into a table with room. -/
theorem bookAdmitsWhatDoesNotClash : Obligations.BookAdmitsWhatDoesNotClash := by
  refine ⟨fun s seq p ht length unread => ?_, fun s seq p q carried ht => ?_⟩
  · refine exec_book_of_unread ht length (Option.eq_none_iff_forall_ne_some.mpr fun q hq => ?_)
    exact unread q ((bookOf_eq_some_iff length).mp hq)
  rw [exec_book ht carried]
  refine ⟨fun unknown => ?_, fun known unsuited => ?_, fun known suited clash => ?_,
    fun known suited clear room low high => ?_⟩
  · rw [State.bookRequest_of_unknown (s := s.taken) unknown]
    rfl
  · rw [State.bookRequest_of_unsuited (s := s.taken) known unsuited]
    rfl
  · rw [State.bookRequest_of_clash (s := s.taken) known suited clash]
    rfl
  have table : s.taken.afterEviction = s.bookings := State.afterEviction_of_room (s := s.taken) room
  obtain ⟨before, after, parts, placed⟩ := insertBooking_eq_append (s.taken.admitted q) s.bookings
  have given : (s.taken.admitted q).id = freeId s.bookings 32 s.nextId := congrArg (freeId · 32 s.nextId) table
  refine ⟨s.taken.admitted q, s.taken.enterBooking q, before, after, ?_, s.taken.enterBooking_within q, parts, ?_, ?_, ?_, ?_,
    ?_, s.taken.nextId_enterBooking q, rfl, rfl, rfl, rfl, rfl, rfl, rfl, rfl, rfl, rfl, rfl, s.taken.logged_enterBooking q⟩
  · rw [State.bookRequest_of_fit (s := s.taken) known suited clear, if_neg fun full => absurd full.1 (Nat.not_le.mpr room),
      State.evicted_of_room (s := s.taken) room]
    rfl
  · rw [State.bookings_enterBooking, table, placed]
  · exact given ▸ freeId_free low high room
  · exact given ▸ (freeId_range low high 32).1
  · exact given ▸ (freeId_range low high 32).2
  · exact fun free => given.trans (freeId_of_free free 32)

/-- Settles O38: a full table gives the place of the record that became terminal first. -/
theorem bookEvictsTheOldestTerminalRecord : Obligations.BookEvictsTheOldestTerminalRecord := by
  intro s seq p q carried ht crane reserved opened clear full ok
  obtain ⟨-, ascends, -⟩ := ok
  have known : ¬ s.taken.bookUnknown q := by
    rintro (free | ⟨z, hz | hz, undefined⟩)
    · exact crane free
    · exact (reserved z hz).2 (State.faceIn_of_undefined q.crane undefined)
    · exact (opened z hz).2 (State.faceIn_of_undefined q.crane undefined)
  have suited : ¬ s.taken.bookUnsuited q := by
    rintro (⟨z, hz, wrong⟩ | ⟨z, hz, wrong⟩)
    · obtain ⟨shared, face⟩ := reserved z hz
      exact wrong.elim (fun h => Bool.noConfusion (shared.symm.trans h)) face
    · obtain ⟨restricted, face⟩ := opened z hz
      exact wrong.elim (fun h => Bool.noConfusion (restricted.symm.trans h)) face
  have free : ¬ s.taken.bookClash q :=
    fun clash => by simpa [(s.bookClash_iff q).mpr clash] using (s.clashes_any_eq_false_iff q).mpr clear
  rw [exec_book ht carried, State.bookRequest_of_fit known suited free]
  refine ⟨fun running => ?_, fun someEnded => ?_⟩
  · rw [if_pos ⟨full.ge, running⟩]
    rfl
  obtain ⟨v, hv⟩ := Option.ne_none_iff_exists'.mp (evictee_ne_none someEnded)
  obtain ⟨terminal, first⟩ := evictee_first hv
  have member := mem_of_evictee hv
  have table : s.taken.afterEviction = s.bookings.erase v := State.afterEviction_of_full (s := s.taken) full ascends hv
  have evicted : s.taken.evicted = some v := (State.evicted_of_full (s := s.taken) full).trans hv
  have distinct : s.bookings.Nodup := ascends.imp fun h same => absurd (congrArg Booking.id same) h.ne
  refine ⟨v, s.taken.admitted q, s.taken.enterBooking q, ?_, s.taken.enterBooking_within q, member, terminal,
    fun c hc ended => (evictedBefore_eq_false_iff v c).mp (first c hc ended), rfl, rfl, ?_, s.taken.logged_enterBooking q,
    fun c => ?_⟩
  · obtain ⟨b, hb, ended⟩ := someEnded
    rw [if_neg fun all => by simpa [ended] using all.2 b hb, evicted]
    rfl
  · rw [State.bookings_enterBooking, length_insertBooking, table, List.length_erase_of_mem member, full]
  · rw [State.bookings_enterBooking, mem_insertBooking, table, distinct.mem_erase_iff, and_comm]

end Sys2Proof.Machine
end

section
/-! SUPPORT. The restart (R121, R142, R164, R169): what it leaves of each block, one part after another. -/

namespace Sys2Proof.Machine

/-! ## The bookings in progress (R121) -/

section
variable {s : State} (ascends : s.bookings.Pairwise (fun b c => b.id < c.id)) (cause : BookingCause)
include ascends

/-- Cancelling one booking changes its record, if it is in progress. -/
theorem State.bookings_cancelInProgress (id : Nat) : (State.cancelInProgress cause false s id).bookings = s.bookings.map
    (fun b => if b.id = id ∧ b.state.inProgress = true then b.changed s.clock s.termSeq .cancelled cause else b) := by
  unfold State.cancelInProgress
  cases found : s.booking id with
  | none =>
    have unnamed : ∀ b ∈ s.bookings, b.id ≠ id := by simpa [State.booking] using found
    exact ((List.map_congr_left fun b hb => if_neg fun h => unnamed b hb h.1).trans (List.map_id _)).symm
  | some b =>
    have hb : b ∈ s.bookings := List.mem_of_find?_eq_some found
    have named : b.id = id := by simpa using List.find?_some found
    have only : ∀ c ∈ s.bookings, c.id = id → c = b := fun c hc h => eq_of_id_eq ascends hc hb (h.trans named.symm)
    dsimp only
    split
    · rename_i underway
      refine List.map_congr_left fun c hc => ?_
      by_cases same : c.id = id
      · obtain rfl := only c hc same
        rw [if_pos rfl, if_pos ⟨same, underway⟩]
        rfl
      · rw [if_neg (named ▸ same), if_neg fun h => same h.1]
    · rename_i settled
      refine ((List.map_congr_left fun c hc => if_neg ?_).trans (List.map_id _)).symm
      rintro ⟨same, underway⟩
      exact settled (only c hc same ▸ underway)

/-- Cancelling bookings one after another, as far as id, state, cause and terminal time go. -/
theorem State.bookings_cancelEach (ids : List Nat) :
    (ids.foldl (State.cancelInProgress cause false) s).bookings.map (fun b => (b.id, b.state, b.cause, b.terminal)) =
      s.bookings.map (fun b => if b.id ∈ ids ∧ b.state.inProgress = true then (b.id, .cancelled, cause, some s.clock)
        else (b.id, b.state, b.cause, b.terminal)) := by
  induction ids generalizing s with
  | nil => simp
  | cons id ids ih =>
    have kept := (State.TableKept.cancelInProgress s cause false id).ids
    have clock : (State.cancelInProgress cause false s id).clock = s.clock :=
      (s.cancelInProgress_within cause false id).same .clock (by decide)
    rw [List.foldl_cons, ih (List.pairwise_map.mp ((List.pairwise_map.mpr ascends).sublist kept)),
      State.bookings_cancelInProgress ascends, List.map_map, clock]
    refine List.map_congr_left fun b _ => ?_
    by_cases underway : b.state.inProgress = true
    · by_cases named : b.id = id
      · have settled : (b.changed s.clock s.termSeq .cancelled cause).state.inProgress ≠ true := Bool.false_ne_true
        rw [Function.comp_apply, if_pos (c := b.id = id ∧ _) ⟨named, underway⟩, if_neg fun h => settled h.2,
          if_pos ⟨List.mem_cons.mpr (.inl named), underway⟩]
        rfl
      · simp [named]
    · simp [underway]

theorem State.bookings_cancelAll : (s.cancelAll cause false).bookings.map (fun b => (b.id, b.state, b.cause, b.terminal)) =
    s.bookings.map (fun b => if b.state.inProgress = true then (b.id, .cancelled, cause, some s.clock)
      else (b.id, b.state, b.cause, b.terminal)) := by
  rw [State.cancelAll, State.bookings_cancelEach ascends]
  refine List.map_congr_left fun b hb => ?_
  have listed : b.id ∈ s.bookings.map (·.id) := List.mem_map_of_mem hb
  simp only [listed, true_and]

end

/-! ## Lines and masts, each once (R142, R164) -/

/-- Steps one for each index, where a second step at an index would change nothing, leave every index of the list stepped
once; `P` is what the steps keep. -/
theorem State.foldl_each {ι β : Type} [DecidableEq ι] {f : State → ι → State} {get : State → ι → β} {g : β → β}
    {P : State → Prop} (kept : ∀ s i, P s → P (f s i)) (once : ∀ x, g (g x) = g x)
    (one : ∀ s i j, P s → get (f s i) j = if j = i then g (get s i) else get s j) (l : List ι) (j : ι) :
    ∀ {s : State}, P s → get (l.foldl f s) j = if j ∈ l then g (get s j) else get s j := by
  induction l with
  | nil => simp
  | cons i l ih =>
    intro s hs
    rw [List.foldl_cons, ih (kept s i hs), one s i j hs]
    by_cases here : j = i
    · subst here
      simp [once]
    · simp [here]

section
variable (s : State)

theorem State.line_restartLines (k : Crane) : s.restartLines.line k = (s.line k).restarted (s.later Config.wakePulse) := by
  unfold State.restartLines
  have listed := mem_allCranes k
  generalize allCranes = l at listed
  refine (State.foldl_each (get := State.line) (g := (·.restarted (s.later Config.wakePulse)))
    (P := fun u => u.msCount = s.msCount) ?_ (fun _ => rfl) (fun u i j h => ?_) l k rfl).trans (if_pos listed)
  · exact fun _ _ h => h
  · rw [State.line_modLine, State.later, h, State.later]

theorem State.masts_restartMasts (m : Mast) :
    s.restartMasts.mastLine.masts[m] = (s.mastLine.masts[m]).map (fun _ => MastRt.unknown) := by
  unfold State.restartMasts
  have listed := mem_allMasts m
  generalize allMasts = l at listed
  exact (State.foldl_each (get := fun u n => u.mastLine.masts[n]) (g := Option.map fun _ => MastRt.unknown)
    (P := fun _ => True) (fun _ _ h => h) (fun x => by cases x <;> rfl) (fun u i j _ => u.masts_setMast i j _) l m
    trivial).trans (if_pos listed)

/-! ## The parts of the restart (R169) -/

/-- The bookings in progress are cancelled, and the blocks that keep nothing begin afresh. -/
def State.blocksRestarted (s : State) : State :=
  { s.cancelAll .restart false with
    mode := .setup, msCount := 0, notices := [], events := [], overflow := false
    faces := Vector.replicate 8 [], sent := Vector.replicate 8 .initial, vane := Vector.replicate 8 .initial
    wind := Vector.replicate 8 .fresh, windMasts := Vector.replicate 4 .unknown
    windDue := BitVec.ofNat 32 Config.second, clockDue := BitVec.ofNat 32 Config.second }

/-- Then the zones, the crane lines and the masts. -/
def State.sitesRestarted (s : State) : State := s.blocksRestarted.clearZones.restartLines.restartMasts

/-- Then the first mast slot begins. -/
def State.slotRestarted (s : State) : State := s.sitesRestarted.beginSlot 0 (BitVec.ofNat 32 Config.mastSlot)

/-- The port after a restart. -/
def Port.restarted (p : Port) : Port :=
  { p with asm := .hunt, requests := [], replies := [], sending := false, restartTaken := false, discard := false }

theorem State.restart_eq :
    s.restart = (s.slotRestarted.modPort Port.restarted).emit .restart 0 0 0 s.mode.code 0 := rfl

theorem State.slotRestarted_within : Within [.arb, .declared, .lines, .mastLine] s.blocksRestarted s.slotRestarted :=
  s.blocksRestarted.restarted_within _

/-- What comes after the blocks have begun afresh. -/
theorem State.restart_within_blocks :
    Within [.arb, .declared, .lines, .mastLine, .port, .events, .overflow] s.blocksRestarted s.restart := by
  rw [State.restart_eq]
  exact ((s.slotRestarted_within.mono (by decide)).trans ((State.modPort_within ..).mono (by decide))).trans
    ((State.emit_within ..).mono (by decide))

theorem State.restart_within_slot : Within [.port, .events, .overflow] s.slotRestarted s.restart := by
  rw [State.restart_eq]
  exact ((State.modPort_within ..).mono (by decide)).trans ((State.emit_within ..).mono (by decide))

theorem State.restart_port : s.restart.port = s.port.restarted := by
  have kept : s.slotRestarted.port = s.port := (s.slotRestarted_within.same .port (by decide)).trans
    ((s.cancelAll_within .restart false).same .port (by decide))
  rw [State.restart_eq, State.emit_port, State.port_modPort, kept]

/-- The event queue holds the RESTART record alone (R173). -/
theorem State.restart_events :
    s.restart.events = [s.record .restart 0 0 0 s.mode.code 0] ∧ s.restart.overflow = false := by
  have empty : s.slotRestarted.events = [] := s.slotRestarted_within.same .events (by decide)
  have quiet : s.slotRestarted.overflow = false := s.slotRestarted_within.same .overflow (by decide)
  have clock : s.slotRestarted.clock = s.clock := (s.slotRestarted_within.same .clock (by decide)).trans
    ((s.cancelAll_within .restart false).same .clock (by decide))
  have told := (s.slotRestarted.modPort Port.restarted).logged_emit .restart 0 0 0 s.mode.code 0
  have few : (s.slotRestarted.modPort Port.restarted).events.length ≤ 64 := by
    rw [State.modPort_events, empty]
    decide
  obtain ⟨events, overflow⟩ := told few
  rw [← State.restart_eq, State.modPort_events, empty] at events overflow
  rw [State.modPort_overflow, quiet] at overflow
  refine ⟨events.trans ?_, overflow⟩
  simp [State.record, clock]

theorem State.restart_line (k : Crane) : s.restart.line k = (s.line k).restarted 5 := by
  have restarted : s.restart.lines = s.blocksRestarted.clearZones.restartLines.lines :=
    ((s.restart_within_slot.same .lines (by decide)).trans ((State.beginSlot_within ..).same .lines (by decide))).trans
      ((State.restartMasts_within _).same .lines (by decide))
  have before : s.blocksRestarted.clearZones.line k = s.line k :=
    congrArg (·[k]) ((s.cancelAll_within .restart false).same .lines (by decide))
  refine (congrArg (·[k]) restarted).trans ((State.line_restartLines _ k).trans ?_)
  rw [before]
  rfl

theorem State.restart_mastLine : s.restart.mastLine = s.slotRestarted.mastLine :=
  s.restart_within_slot.same .mastLine (by decide)

theorem State.sitesRestarted_masts (m : Mast) :
    s.sitesRestarted.mastLine.masts[m] = (s.mastLine.masts[m]).map (fun _ => MastRt.unknown) := by
  have before : s.blocksRestarted.clearZones.restartLines.mastLine = s.mastLine :=
    ((State.restartLines_within _).same .mastLine (by decide)).trans
      ((s.cancelAll_within .restart false).same .mastLine (by decide))
  rw [State.sitesRestarted, State.masts_restartMasts, before]

theorem State.sitesRestarted_mastDefined (m : Mast) : s.sitesRestarted.mastDefined m = s.mastDefined m := by
  rw [State.mastDefined, State.sitesRestarted_masts, Option.isSome_map, State.mastDefined]

/-- A Defined mast becomes UNKNOWN (R164). -/
theorem State.restart_mast {m : Mast} (defined : s.mastDefined m = true) : s.restart.mastLine.masts[m] = some .unknown := by
  obtain ⟨r, hr⟩ := Option.isSome_iff_exists.mp defined
  have kept : s.restart.mastLine.masts[m] = s.sitesRestarted.mastLine.masts[m] := by
    rw [s.restart_mastLine]
    rfl
  rw [kept, s.sitesRestarted_masts, hr]
  rfl

/-- The first slot calls mast 1, if it is Defined (R160). -/
theorem State.restart_exchange : s.restart.mastLine.exchange =
    if s.mastDefined 0 then some { mast := 0, discard := false, progress := .sending } else none := by
  rw [← s.sitesRestarted_mastDefined 0]
  exact congrArg MastLine.exchange s.restart_mastLine

/-- The bookings in progress are cancelled (R121). -/
theorem State.restart_bookings (ascends : s.bookings.Pairwise (fun b c => b.id < c.id)) :
    s.restart.bookings.map (fun b => (b.id, b.state, b.cause, b.terminal)) = s.bookings.map (fun b =>
      if b.state.inProgress = true then (b.id, .cancelled, .restart, some s.clock)
      else (b.id, b.state, b.cause, b.terminal)) := by
  have kept : s.restart.bookings = (s.cancelAll .restart false).bookings := s.restart_within_blocks.same .bookings (by decide)
  rw [kept, State.bookings_cancelAll ascends]

theorem State.restart_zone (z : Zone) : s.restart.zone z = .empty := by
  obtain ⟨u, within⟩ := s.restart_cleared
  exact (State.zone_congr (within.same .arb (by decide)) z).trans (u.zone_clearZones z)

theorem State.restart_declared (k : Crane) : s.restart.declared[k] = [] := by
  obtain ⟨u, within⟩ := s.restart_cleared
  exact (congrArg (·[k]) (within.same .declared (by decide))).trans (u.declared_clearZones k)

end

/-- REPLY_SENT makes the restart when the last reply has gone and a RESTART was taken (R169). -/
theorem State.replySent_of_restart {s : State} (sending : s.port.sending = true) (taken : s.port.restartTaken = true)
    (last : s.port.replies.tail = []) :
    s.replySent = (s.modPort (fun p => { p with sending := false, replies := p.replies.tail })).restart := by
  rw [State.replySent, if_pos sending]
  exact if_pos (by simp [taken, last])

/-- Settles O19, block by block. -/
theorem theRestartKeepsTheSiteModel : Obligations.TheRestartKeepsTheSiteModel := by
  intro s sending taken last ascends
  refine ⟨s.replySent, rfl, ?_⟩
  have whole := s.replySent_within
  rw [State.replySent_of_restart sending taken last] at whole ⊢
  generalize hu : s.modPort (fun p => { p with sending := false, replies := p.replies.tail }) = u at whole ⊢
  have same : Within [.port] s u := hu ▸ State.modPort_within ..
  have blocks := u.restart_within_blocks
  have clock : u.clock = s.clock := same.same .clock (by decide)
  have mode : u.mode = s.mode := same.same .mode (by decide)
  have lines : u.lines = s.lines := same.same .lines (by decide)
  have masts : ∀ m, u.mastDefined m = s.mastDefined m :=
    State.mastDefined_congr (congrArg MastLine.masts (same.same .mastLine (by decide)))
  have bookings : u.bookings = s.bookings := same.same .bookings (by decide)
  obtain ⟨events, overflow⟩ := u.restart_events
  refine ⟨whole.same .pending (by decide), whole.same .cranes (by decide), whole.same .zones (by decide),
    whole.same .params (by decide), whole.same .tag (by decide), whole.same .clock (by decide),
    whole.same .clockValid (by decide), whole.same .service (by decide), whole.same .nextId (by decide),
    blocks.same .mode (by decide), blocks.same .notices (by decide), overflow, blocks.same .msCount (by decide),
    blocks.same .windDue (by decide), blocks.same .clockDue (by decide), ?_, ?_, u.restart_zone, fun k => ?_,
    fun m => ?_, congrArg MastLine.slot u.restart_mastLine,
    congrArg MastLine.slotDue u.restart_mastLine, ?_, ?_⟩
  · rw [events, State.record, clock, mode, State.record]
  · rw [u.restart_port, ← hu]
    rfl
  · have faces : u.restart.faces = Vector.replicate 8 [] := blocks.same .faces (by decide)
    have sent : u.restart.sent = Vector.replicate 8 .initial := blocks.same .sent (by decide)
    have wind : u.restart.wind = Vector.replicate 8 .fresh := blocks.same .wind (by decide)
    have vane : u.restart.vane = Vector.replicate 8 .initial := blocks.same .vane (by decide)
    have line : u.line k = s.line k := congrArg (·[k]) lines
    simp only [faces, sent, wind, vane, vector_get_replicate, u.restart_declared, u.restart_line, line]
    exact ⟨trivial, trivial, trivial, trivial, rfl, rfl, rfl, rfl⟩
  · have copies : u.restart.windMasts = Vector.replicate 4 .unknown := blocks.same .windMasts (by decide)
    exact ⟨(u.restart_mastDefined m).trans (masts m), by simp only [copies, vector_get_replicate],
      fun defined => u.restart_mast ((masts m).trans defined)⟩
  · rw [u.restart_exchange, masts]
  · rw [u.restart_bookings (bookings ▸ ascends), bookings, clock]

end Sys2Proof.Machine
end
